-- ==== Sys2Proof/Word.lean ====
section
/-! DEFINITION. The word types of the WX-240: the 32-bit word of its records and ports, the byte of
its serial links, and the 32-bit count of microseconds that is its site time (R2, R189). -/

namespace Sys2Proof

/-- A 32-bit word, the unit of records, notices and configuration areas (R190, R191). -/
abbrev Word := BitVec 32

/-- A byte as a station port shifts it (R159). -/
abbrev Byte := BitVec 8

/-- Site time, a 32-bit count of microseconds that wraps (R2). -/
abbrev SiteTime := BitVec 32

end Sys2Proof
end

