-- ==== Sys2Proof/Syntax.lean ====
section
/-! DEFINITION. The commands of the block: one constructor of `Instr` for each row of
spec/opcode_table.json, with the names their operands are made of. The operand `now` is the site time
at which the step is taken (DESIGN CHOICE, log 1). -/

namespace Sys2Proof

/-- The two tracks of a site (00_scope.md, The measuring site). -/
inductive TrackId where
  | t1 | t2
  deriving DecidableEq, Repr

/-- The two ends of a measuring section, each with a sensor pair. -/
inductive SectionEnd where
  | p | q
  deriving DecidableEq, Repr

/-- The role of a wheel sensor in its pair: the outer sensor faces away from the section. -/
inductive Role where
  | outer | inner
  deriving DecidableEq, Repr

/-- The two rails of a track, named whatever the direction of the train. -/
inductive Rail where
  | l | r
  deriving DecidableEq, Repr

/-- The four scanners of a track (R94). -/
inductive ScannerName where
  | bl | br | wl | wr
  deriving DecidableEq, Repr

/-- The two station ports (R159). -/
inductive Port where
  | a | b
  deriving DecidableEq, Repr

/-- The shutter state a scanner reports in a STATUS message (R96). -/
inductive ShutterReport where
  | closed | opening | opened | closing | fault
  deriving DecidableEq, Repr

/-- The steps of the part: one constructor per row of spec/opcode_table.json. The constructors of
station commands carry the bytes that complete the command's frame: the whole frame when nothing of
it was shifted in before, or what is left of it after BYTE_SHIFTED_IN steps (log 6). -/
inductive Instr where
  | fullReset
  | sensorRawChange (now : SiteTime) (input : Fin 8) (level : Bool)
  | debounceConfirm (now : SiteTime) (input : Fin 8)
  | heldTimerExpiry (now : SiteTime) (input : Fin 8)
  | pairTimeoutExpiry (now : SiteTime) (track : TrackId) (pairEnd : SectionEnd)
  | approachInputChange (now : SiteTime) (track : TrackId) (inputEnd : SectionEnd) (level : Bool)
  | approachEdge (now : SiteTime) (track : TrackId) (inputEnd : SectionEnd)
  | approachTimerExpiry (now : SiteTime) (track : TrackId)
  | closeDelayExpiry (now : SiteTime) (track : TrackId)
  | holdTimerExpiry (now : SiteTime) (track : TrackId)
  | clearTimerExpiry (now : SiteTime) (track : TrackId)
  | quietTimerExpiry (now : SiteTime) (track : TrackId)
  | paceTick (now : SiteTime) (track : TrackId)
  | zeroTimerExpiry (now : SiteTime) (track : TrackId)
  | conversionEnd (now : SiteTime) (sample : BitVec 16)
  | linkMessageDiscarded (now : SiteTime) (link : Fin 8)
  | scannerStatus (now : SiteTime) (link : Fin 8) (report : ShutterReport) (housing : BitVec 16)
  | scannerLine (now : SiteTime) (link : Fin 8) (seqNo : BitVec 8) (pixels : List (BitVec 16))
  | silenceTimerExpiry (now : SiteTime) (link : Fin 8)
  | openingTimerExpiry (now : SiteTime) (link : Fin 8)
  | lineTimerExpiry (now : SiteTime) (link : Fin 8)
  | spacingLimitPassed (now : SiteTime) (track : TrackId)
  | pulseTimerExpiry (now : SiteTime) (line : Fin 8)
  | recoveryTimerExpiry (now : SiteTime) (line : Fin 8)
  | stationTimeAdvance (now : SiteTime)
  | selectAssert (now : SiteTime) (port : Port)
  | selectDeassert (now : SiteTime) (port : Port)
  | unknownCommand (now : SiteTime) (port : Port) (bytes : List Byte)
  | status (now : SiteTime) (port : Port) (bytes : List Byte)
  | attach (now : SiteTime) (port : Port) (bytes : List Byte)
  | detach (now : SiteTime) (port : Port) (bytes : List Byte)
  | listPasses (now : SiteTime) (port : Port) (bytes : List Byte)
  | selectPass (now : SiteTime) (port : Port) (bytes : List Byte)
  | readHeader (now : SiteTime) (port : Port) (bytes : List Byte)
  | readAxles (now : SiteTime) (port : Port) (bytes : List Byte)
  | readVehicles (now : SiteTime) (port : Port) (bytes : List Byte)
  | releasePass (now : SiteTime) (port : Port) (bytes : List Byte)
  | readNotice (now : SiteTime) (port : Port) (bytes : List Byte)
  | readAlarms (now : SiteTime) (port : Port) (bytes : List Byte)
  | ackAlarm (now : SiteTime) (port : Port) (bytes : List Byte)
  | stageWrite (now : SiteTime) (port : Port) (bytes : List Byte)
  | stageRead (now : SiteTime) (port : Port) (bytes : List Byte)
  | activeRead (now : SiteTime) (port : Port) (bytes : List Byte)
  | commit (now : SiteTime) (port : Port) (bytes : List Byte)
  | abandon (now : SiteTime) (port : Port) (bytes : List Byte)
  | trackAbort (now : SiteTime) (port : Port) (bytes : List Byte)
  | trackOut (now : SiteTime) (port : Port) (bytes : List Byte)
  | trackIn (now : SiteTime) (port : Port) (bytes : List Byte)
  | purgeFaults (now : SiteTime) (port : Port) (bytes : List Byte)
  | purgeNotices (now : SiteTime) (port : Port) (bytes : List Byte)
  | purgeAcked (now : SiteTime) (port : Port) (bytes : List Byte)
  | purgeReleased (now : SiteTime) (port : Port) (bytes : List Byte)
  | setTime (now : SiteTime) (port : Port) (bytes : List Byte)
  | reset (now : SiteTime) (port : Port) (bytes : List Byte)
  | byteShiftedIn (now : SiteTime) (port : Port) (byte : Byte)
  | pacerFirstStep (now : SiteTime) (track : TrackId)
  | approachInputInactive (now : SiteTime) (track : TrackId) (inputEnd : SectionEnd)
  deriving DecidableEq, Repr

end Sys2Proof
end

