-- ==== Sys2Proof/Decode.lean ====
section
/-! DEFINITION. The decoder over the bits spec/opcode_table.json gives its rows. The table gives no
row any bits (every row's "fields" is empty and none has "fixed"), so no word spells a command. -/

namespace Sys2Proof

/-- The command a word spells by the table's bits: none, since the table gives bits to no row. -/
def decodeTableWord (_nbits _w : Nat) : Option Instr := none

end Sys2Proof
end

