-- ==== Sys2Proof/Config.lean ====
section
/-! DEFINITION. The free values: what the spec leaves open and the model does not choose. Each is a
constant without a body, so a claim holds whatever it is. -/

namespace Sys2Proof.Config

/-- FREE VALUE (log 12). R78: the load computation unit and the thermal scanner interface hand their
alarms for one axle over "in either order, and may interleave". Where both have an alarm to hand
over, the load computation unit's goes first if this holds of the running number of the choice. -/
opaque loadAlarmFirst : Nat → Bool

/-- FREE VALUE (log 13). R165: "Notices sent by different blocks together reach a queue in either
order." Where two blocks have a notice to send, the first-named block's goes first if this holds. -/
opaque firstBlockFirst : Nat → Bool

/-- FREE VALUE (log 24). No rule says in which order one block sends the several FAULT_CHANGED notices of
one event. Where several wait, the next is picked by this number of the running number of the choice,
modulo how many are left. -/
opaque nextNotice : Nat → Nat

/-- FREE VALUE (log 14). The order in which the passes of both tracks close at one warm reset, which
R126 and R144 leave to either order: track 1 first if this holds. -/
opaque track1ClosesFirst : Nat → Bool

/-- FREE VALUE (log 20). The 16-bit axle index field of an alarm record whose axle index does not fit
into it. -/
opaque wideAxleIndexField : Nat → BitVec 16

end Sys2Proof.Config
end

