-- ==== Sys2Proof/Machine/Layout.lean ====
section
/-! DEFINITION. The configuration areas as words (R191): which fields each word carries, how a written
word is stored (R181), the default images (R178 to R180), and the named fields the other blocks read. -/

namespace Sys2Proof.Machine

open Sys2Proof

/-! ### Bits of a word -/

/-- The bits hi down to lo of a word, as a number (12_record_and_frame_layouts.md). -/
def bitsOf (w : Word) (hi lo : Nat) : Nat := (w.toNat >>> lo) % 2 ^ (hi + 1 - lo)

/-- A 16-bit field read as a two's complement number. -/
def signed16 (n : Nat) : Int := if n < 32768 then (n : Int) else (n : Int) - 65536

/-- A number put into a word from bit lo on. -/
def atBit (v lo : Nat) : Word := BitVec.ofNat 32 (v <<< lo)

/-! ### Fields of a word and how they are stored -/

/-- What a field takes: a number of a range (the codes of every list of R190 that an area uses follow
one another, so a list is a range too), a signed 16-bit number, or a set or enable mark (R191). -/
inductive FieldKind where
  | range (least greatest : Nat)
  | signed
  | mark
  deriving DecidableEq, Repr

/-- One field of a word: its span and what it takes. -/
structure FieldSpec where
  hi : Nat
  lo : Nat
  kind : FieldKind
  deriving DecidableEq, Repr

/-- R181: the value stored for a written value, and whether the field was clamped. A value outside the
range is stored at the nearer limit. A mark is a list of the codes 0 and 1 (R191): a value above 1 is a code
beyond the last, stored as 1 and CLAMPED (log 16). -/
def FieldKind.store (k : FieldKind) (raw : Nat) : Nat × Bool :=
  match k with
  | .range least greatest =>
    if raw < least then (least, true)
    else if greatest < raw then (greatest, true)
    else (raw, false)
  | .signed => (raw, false)
  | .mark => if raw ≤ 1 then (raw, false) else (1, true)

/-- R181: a written word with every field stored by itself and every bit of no field stored as 0, and
whether any field was clamped. -/
def storeWord : List FieldSpec → Word → Word × Bool
  | [], _ => (0, false)
  | f :: fs, w =>
    let stored := f.kind.store (bitsOf w f.hi f.lo)
    let others := storeWord fs w
    (atBit stored.1 f.lo ||| others.1, stored.2 || others.2)

/-- A field of the range least to greatest. -/
def rangeField (hi lo least greatest : Nat) : FieldSpec := ⟨hi, lo, .range least greatest⟩

/-- R191, the words of a profile from its first. -/
def profileFields (k : Nat) : List FieldSpec :=
  match k with
  | 0 => [rangeField 31 16 10 2500, rangeField 15 0 10 2500]
  | 1 => [rangeField 31 24 1 64, rangeField 23 16 1 64, rangeField 15 8 1 255]
  | 2 => [rangeField 31 16 0 65534, rangeField 15 0 0 65534]
  | 3 => [rangeField 31 16 0 999, rangeField 15 0 0 32767]
  | 4 => [rangeField 31 0 0 131068]
  | 5 => [rangeField 31 16 0 1000, rangeField 15 0 0 1000]
  | 6 => [rangeField 31 16 0 32767, rangeField 15 0 0 32767]
  | 7 => [rangeField 31 16 0 32767, rangeField 15 0 0 32767]
  | _ => []

/-- R191, the three words of a bay slot. -/
def bayFields (k : Nat) : List FieldSpec :=
  match k with
  | 0 => [⟨31, 24, .mark⟩, rangeField 23 16 0 31, ⟨15, 0, .signed⟩]
  | 1 => [rangeField 31 16 0 30000, rangeField 15 0 0 30000]
  | _ => [rangeField 31 0 0 262143]

/-- R191 with the ranges of R179: the fields of word `offset` of a track area. -/
def trackFields (offset : Nat) : List FieldSpec :=
  if offset ≤ 1 then [rangeField 31 16 0 30000, rangeField 15 0 0 30000]
  else if offset = 2 then
    [rangeField 31 28 0 3, rangeField 27 24 0 3, rangeField 23 20 0 3, rangeField 19 16 0 3,
      rangeField 15 0 10 600]
  else if offset = 3 then [rangeField 31 24 5 50, rangeField 23 16 0 200, rangeField 15 8 1 24]
  else if offset ≤ 51 then bayFields ((offset - 4) % 3)
  else if offset ≤ 55 then [rangeField 31 16 0 30000, rangeField 15 0 50 400]
  else if offset ≤ 61 then
    [rangeField 30 29 0 3, rangeField 28 24 0 31, rangeField 22 21 0 3, rangeField 20 16 0 31,
      rangeField 14 13 0 3, rangeField 12 8 0 31, rangeField 6 5 0 3, rangeField 4 0 0 31]
  else if offset = 62 then [rangeField 31 24 1 30, rangeField 23 16 1 120, rangeField 15 8 1 60]
  else if offset = 63 then [rangeField 31 16 10 600, rangeField 15 0 10 1000]
  else if offset = 64 then [rangeField 31 16 5000 60000, rangeField 15 0 0 32767]
  else if offset = 65 then [rangeField 15 0 0 32767]
  else if offset ≤ 81 then profileFields ((offset - 66) % 8)
  else []

/-- R191 with the ranges of R178 and R116, the ten words of a vehicle type. -/
def vehicleTypeFields (k : Nat) : List FieldSpec :=
  match k with
  | 0 => [⟨31, 24, .mark⟩, rangeField 23 16 1 254, rangeField 15 12 0 3, rangeField 11 8 0 1,
      rangeField 7 0 2 8]
  | 8 => [rangeField 31 16 0 65534]
  | 9 => [rangeField 31 0 0 1048544]
  | _ => [rangeField 31 16 0 65534, rangeField 15 0 0 2000]

/-- R191 with R147: the word of a routing entry. -/
def routingFields : List FieldSpec :=
  [⟨31, 31, .mark⟩, ⟨30, 30, .mark⟩, ⟨29, 29, .mark⟩, ⟨28, 28, .mark⟩, ⟨27, 27, .mark⟩,
    rangeField 23 16 1 11, rangeField 15 14 1 2, rangeField 13 12 1 2, rangeField 11 10 0 2,
    rangeField 9 9 0 1, rangeField 6 4 0 7, rangeField 1 0 0 2]

/-- R191 with the ranges of R178: the fields of word `offset` of the site area. -/
def siteFields (offset : Nat) : List FieldSpec :=
  if offset ≤ 319 then vehicleTypeFields (offset % 10)
  else if offset ≤ 335 then routingFields
  else if offset = 336 then [rangeField 31 24 0 1, rangeField 23 16 0 7, rangeField 15 8 0 2]
  else if offset ≤ 344 then [rangeField 31 16 100 5000, rangeField 15 0 0 5000]
  else if offset = 345 then [rangeField 31 24 0 2]
  else if offset = 346 then [⟨15, 0, .signed⟩]
  else if offset = 347 then [rangeField 31 0 0 262143]
  else []

/-! ### Default images -/

/-- R180: the default words of a profile. -/
def defaultProfileWord (k : Nat) : Word :=
  match k with
  | 0 => atBit 50 16 ||| atBit 1600 0
  | 1 => atBit 6 24 ||| atBit 3 16 ||| atBit 8 8
  | 2 => atBit 28000 16 ||| atBit 35000 0
  | 3 => atBit 180 16 ||| atBit 2500 0
  | 4 => atBit 34300 0
  | 5 => atBit 380 16 ||| atBit 620 0
  | 6 => atBit 600 16 ||| atBit 900 0
  | _ => atBit 500 16 ||| atBit 400 0

/-- R177, R179: the default words of a track area, with empty geometry. -/
def defaultTrackWord (offset : Nat) : Word :=
  if offset ≤ 1 then 0
  else if offset = 2 then
    atBit 2 28 ||| atBit 2 24 ||| atBit 2 20 ||| atBit 2 16 ||| atBit 120 0
  else if offset = 3 then atBit 10 24 ||| atBit 50 16 ||| atBit 1 8
  else if offset ≤ 51 then (if (offset - 4) % 3 = 2 then atBit 65536 0 else 0)
  else if offset ≤ 55 then atBit 200 0
  else if offset ≤ 61 then 0
  else if offset = 62 then atBit 3 24 ||| atBit 10 16 ||| atBit 5 8
  else if offset = 63 then atBit 180 16 ||| atBit 150 0
  else if offset = 64 then atBit 25000 16 ||| atBit 2000 0
  else if offset = 65 then atBit 3000 0
  else if offset ≤ 81 then defaultProfileWord ((offset - 66) % 8)
  else 0

/-- R178: the default words of the site area. DESIGN CHOICE (log 15) for the codes that R178 gives no
default for: the kind and the track of a routing entry hold the first code of their list. -/
def defaultSiteWord (offset : Nat) : Word :=
  if offset ≤ 319 then
    (if offset % 10 = 0 then atBit 1 16 ||| atBit 3 12 ||| atBit 2 0 else 0)
  else if offset ≤ 335 then atBit 1 16 ||| atBit 1 14 ||| atBit 1 12
  else if offset = 336 then 0
  else if offset ≤ 344 then atBit 1000 16 ||| atBit 1000 0
  else if offset = 347 then atBit 65536 0
  else 0

/-- A track area image: 82 words (R191). -/
structure TrackArea where
  words : Vector Word 82
  deriving DecidableEq, Repr

/-- The site area image: 348 words (R191). -/
structure SiteArea where
  words : Vector Word 348
  deriving DecidableEq, Repr

/-- R177: the default image of a track area. -/
def TrackArea.default : TrackArea :=
  ⟨⟨⟨(List.range 82).map defaultTrackWord⟩, by simp⟩⟩

/-- R177: the default image of the site area. -/
def SiteArea.default : SiteArea :=
  ⟨⟨⟨(List.range 348).map defaultSiteWord⟩, by simp⟩⟩

/-- Word `offset` of a track area, 0 beyond its last word. -/
def TrackArea.word (a : TrackArea) (offset : Nat) : Word := a.words.toList.getD offset 0

/-- Word `offset` of the site area, 0 beyond its last word. -/
def SiteArea.word (a : SiteArea) (offset : Nat) : Word := a.words.toList.getD offset 0

/-- The bits hi down to lo of word `offset` of a track area. -/
def TrackArea.field (a : TrackArea) (offset hi lo : Nat) : Nat := bitsOf (a.word offset) hi lo

/-- The bits hi down to lo of word `offset` of the site area. -/
def SiteArea.field (a : SiteArea) (offset hi lo : Nat) : Nat := bitsOf (a.word offset) hi lo

/-- R181: a track area with one word written through its fields, and whether a field was clamped. A
word beyond the last is discarded. -/
def TrackArea.stageWord (a : TrackArea) (offset : Nat) (w : Word) : TrackArea × Bool :=
  if offset < 82 then
    (⟨a.words.setIfInBounds offset (storeWord (trackFields offset) w).1⟩,
      (storeWord (trackFields offset) w).2)
  else (a, false)

/-- R181: the site area with one word written through its fields, and whether a field was clamped. A
word beyond the last is discarded. -/
def SiteArea.stageWord (a : SiteArea) (offset : Nat) (w : Word) : SiteArea × Bool :=
  if offset < 348 then
    (⟨a.words.setIfInBounds offset (storeWord (siteFields offset) w).1⟩,
      (storeWord (siteFields offset) w).2)
  else (a, false)

/-! ### Named fields of a track area (R179) -/

/-- x of a wheel sensor in mm: P1 outer and P2 inner at end P, Q2 inner and Q1 outer at end Q. -/
def TrackArea.sensorX (a : TrackArea) : SectionEnd → Role → Nat
  | .p, .outer => a.field 0 31 16
  | .p, .inner => a.field 0 15 0
  | .q, .inner => a.field 1 31 16
  | .q, .outer => a.field 1 15 0

/-- The pair spacing in mm: x(P2) − x(P1) at end P, x(Q1) − x(Q2) at end Q
(01_wheel_sensors_and_pair_timing.md, The sensor inputs). -/
def TrackArea.pairSpacing (a : TrackArea) : SectionEnd → Nat
  | .p => a.sensorX .p .inner - a.sensorX .p .outer
  | .q => a.sensorX .q .outer - a.sensorX .q .inner

/-- The debounce code of a sensor: OFF 0, 50 µs 1, 100 µs 2, 200 µs 3 (R191). -/
def TrackArea.debounceCode (a : TrackArea) : SectionEnd → Role → Nat
  | .p, .outer => a.field 2 31 28
  | .p, .inner => a.field 2 27 24
  | .q, .inner => a.field 2 23 20
  | .q, .outer => a.field 2 19 16

/-- The debounce time of a sensor in µs, or none where debounce is off (R3). -/
def TrackArea.debounce (a : TrackArea) (e : SectionEnd) (r : Role) : Option Nat :=
  match a.debounceCode e r with
  | 0 => none
  | 1 => some 50
  | 2 => some 100
  | _ => some 200

/-- The held limit in µs (R7). -/
def TrackArea.heldLimit (a : TrackArea) : Nat := a.field 2 15 0 * 1000000

/-- The pace spacing Δx in mm (R46). -/
def TrackArea.paceSpacing (a : TrackArea) : Nat := a.field 3 31 24

/-- The margin in mm (R52). -/
def TrackArea.margin (a : TrackArea) : Nat := a.field 3 23 16

/-- The scan-list length (R61). -/
def TrackArea.scanLength (a : TrackArea) : Nat := a.field 3 15 8

/-- The word offset of a bay slot: bays 1 to 8 of rail L, then bays 1 to 8 of rail R (R191; DEDUCED,
log 17: the table's names "R2 to R9" stand for the eight bays of rail R). -/
def baySlotOffset (rail : Rail) (bay : Fin 8) : Nat :=
  match rail with
  | .l => 4 + 3 * bay.val
  | .r => 28 + 3 * bay.val

/-- The fields of a bay slot (R179); `bay` counts from 0, so bay b of the spec is b − 1. -/
structure BaySlot where
  set : Bool
  start : Nat
  stop : Nat
  channel : Nat
  scale : Nat
  factoryZero : Int
  deriving DecidableEq, Repr

/-- The bay slot of a rail. -/
def TrackArea.bay (a : TrackArea) (rail : Rail) (bay : Fin 8) : BaySlot where
  set := decide (a.field (baySlotOffset rail bay) 31 24 ≠ 0)
  start := a.field (baySlotOffset rail bay + 1) 31 16
  stop := a.field (baySlotOffset rail bay + 1) 15 0
  channel := a.field (baySlotOffset rail bay) 23 16
  scale := a.field (baySlotOffset rail bay + 2) 31 0
  factoryZero := signed16 (a.field (baySlotOffset rail bay) 15 0)

/-- The word offset of a scanner's position and gate (R191). -/
def scannerOffset : ScannerName → Nat
  | .bl => 52
  | .br => 53
  | .wl => 54
  | .wr => 55

/-- x of a scanner in mm (R53). -/
def TrackArea.scannerX (a : TrackArea) (n : ScannerName) : Nat := a.field (scannerOffset n) 31 16

/-- The gate half-width h of a scanner in mm (R53). -/
def TrackArea.gateHalf (a : TrackArea) (n : ScannerName) : Nat := a.field (scannerOffset n) 15 0

/-- Scan-list entry i, counting from 0: its channel and its gain code (R61, R191). -/
def TrackArea.scanEntry (a : TrackArea) (i : Nat) : Nat × Nat :=
  (a.field (56 + i / 4) (28 - 8 * (i % 4)) (24 - 8 * (i % 4)),
    a.field (56 + i / 4) (30 - 8 * (i % 4)) (29 - 8 * (i % 4)))

/-- The scan list: entries 1 to the list length (R61). -/
def TrackArea.scanList (a : TrackArea) : List (Nat × Nat) :=
  (List.range a.scanLength).map a.scanEntry

/-- The clear time in µs (R20). -/
def TrackArea.clearTime (a : TrackArea) : Nat := a.field 62 31 24 * 1000000

/-- The close delay in µs (R20). -/
def TrackArea.closeDelay (a : TrackArea) : Nat := a.field 62 23 16 * 1000000

/-- The zero interval in µs (R70). -/
def TrackArea.zeroInterval (a : TrackArea) : Nat := a.field 62 15 8 * 1000000

/-- The approach timeout in µs (R20). -/
def TrackArea.approachTimeout (a : TrackArea) : Nat := a.field 63 31 16 * 1000000

/-- The drift limit in mm (R30). -/
def TrackArea.driftLimit (a : TrackArea) : Nat := a.field 63 15 0

/-- The hold distance in mm (R33). -/
def TrackArea.holdDistance (a : TrackArea) : Nat := a.field 64 31 16

/-- The zero limit in counts (R73). -/
def TrackArea.zeroLimit (a : TrackArea) : Nat := a.field 64 15 0

/-- The wake threshold in counts (R71). -/
def TrackArea.wakeThreshold (a : TrackArea) : Nat := a.field 65 15 0

/-- The two pass directions (R26). -/
inductive Direction where
  | pq | qp
  deriving DecidableEq, Repr

/-- A profile (R180). -/
structure Profile where
  bandLower : Nat
  bandUpper : Nat
  nMin : Nat
  minLines : Nat
  diffMinAxles : Nat
  impactWarning : Nat
  impactAlarm : Nat
  ratioWarning : Nat
  hotWheel : Nat
  axleAlarm : Nat
  imbalanceLower : Nat
  imbalanceUpper : Nat
  bearingWarm : Nat
  bearingHot : Nat
  bearingDiff : Nat
  bearingCross : Nat
  deriving DecidableEq, Repr

/-- The word offset of the profile of a direction (R191). -/
def profileOffset : Direction → Nat
  | .pq => 66
  | .qp => 74

/-- The profile of a direction (R180, R191). -/
def TrackArea.profile (a : TrackArea) (d : Direction) : Profile where
  bandLower := a.field (profileOffset d) 31 16
  bandUpper := a.field (profileOffset d) 15 0
  nMin := a.field (profileOffset d + 1) 31 24
  minLines := a.field (profileOffset d + 1) 23 16
  diffMinAxles := a.field (profileOffset d + 1) 15 8
  impactWarning := a.field (profileOffset d + 2) 31 16
  impactAlarm := a.field (profileOffset d + 2) 15 0
  ratioWarning := a.field (profileOffset d + 3) 31 16
  hotWheel := a.field (profileOffset d + 3) 15 0
  axleAlarm := a.field (profileOffset d + 4) 31 0
  imbalanceLower := a.field (profileOffset d + 5) 31 16
  imbalanceUpper := a.field (profileOffset d + 5) 15 0
  bearingWarm := a.field (profileOffset d + 6) 31 16
  bearingHot := a.field (profileOffset d + 6) 15 0
  bearingDiff := a.field (profileOffset d + 7) 31 16
  bearingCross := a.field (profileOffset d + 7) 15 0

/-! ### Named fields of the site area (R178) -/

/-- A vehicle type (R116). `spacings` holds s1 to s7 with their tolerances. -/
structure VehicleType where
  enabled : Bool
  code : Nat
  classCode : Nat
  axles : Nat
  spacings : List (Nat × Nat)
  afterGap : Nat
  either : Bool
  grossLimit : Nat
  deriving DecidableEq, Repr

/-- Vehicle type i, counting from 0 (R116, R191). -/
def SiteArea.vehicleType (a : SiteArea) (i : Nat) : VehicleType where
  enabled := decide (a.field (10 * i) 31 24 ≠ 0)
  code := a.field (10 * i) 23 16
  classCode := a.field (10 * i) 15 12
  axles := a.field (10 * i) 7 0
  spacings := (List.range 7).map fun j => (a.field (10 * i + 1 + j) 31 16, a.field (10 * i + 1 + j) 15 0)
  afterGap := a.field (10 * i + 8) 31 16
  either := decide (a.field (10 * i) 11 8 = 1)
  grossLimit := a.field (10 * i + 9) 31 0

/-- The vehicle type table in its order (R116). -/
def SiteArea.vehicleTypes (a : SiteArea) : List VehicleType :=
  (List.range 32).map a.vehicleType

/-- The mode in which an alarm drives a line (R147, R190). -/
inductive LineMode where
  | latch | pulse | follow
  deriving DecidableEq, Repr

/-- The code of a line mode (R190). -/
def lineModeOf (code : Nat) : LineMode :=
  match code with
  | 0 => .latch
  | 1 => .pulse
  | _ => .follow

/-- A routing entry (R147), its compared values as codes of R190. A field whose compare is not enabled
is none. -/
structure RoutingEntry where
  enabled : Bool
  kind : Option Nat
  minLevel : Nat
  track : Option Nat
  side : Option Nat
  direction : Option Nat
  line : Fin 8
  mode : LineMode
  deriving DecidableEq, Repr

/-- A compared field: its value where its compare enable is set. -/
def comparedField (enable value : Nat) : Option Nat := if enable = 0 then none else some value

/-- Routing entry i, counting from 0 (R191). -/
def SiteArea.routingEntry (a : SiteArea) (i : Nat) : RoutingEntry where
  enabled := decide (a.field (320 + i) 31 31 ≠ 0)
  kind := comparedField (a.field (320 + i) 30 30) (a.field (320 + i) 23 16)
  minLevel := a.field (320 + i) 15 14
  track := comparedField (a.field (320 + i) 29 29) (a.field (320 + i) 13 12)
  side := comparedField (a.field (320 + i) 28 28) (a.field (320 + i) 11 10)
  direction := comparedField (a.field (320 + i) 27 27) (a.field (320 + i) 9 9)
  line := Fin.ofNat 8 (a.field (320 + i) 6 4)
  mode := lineModeOf (a.field (320 + i) 1 0)

/-- The routing table in its order (R147). -/
def SiteArea.routingTable (a : SiteArea) : List RoutingEntry :=
  (List.range 16).map a.routingEntry

/-- The default line and its mode, or none (R148). -/
def SiteArea.defaultLine (a : SiteArea) : Option (Fin 8 × LineMode) :=
  if a.field 336 31 24 = 0 then none
  else some (Fin.ofNat 8 (a.field 336 23 16), lineModeOf (a.field 336 15 8))

/-- The pulse time of a line in µs (R151). -/
def SiteArea.pulseTime (a : SiteArea) (line : Fin 8) : Nat := a.field (337 + line.val) 31 16 * 1000

/-- The recovery time of a line in µs (R151). -/
def SiteArea.recoveryTime (a : SiteArea) (line : Fin 8) : Nat := a.field (337 + line.val) 15 0 * 1000

/-- The ambient channel, 32 or 33, or none (R75, R191). -/
def SiteArea.ambientChannel (a : SiteArea) : Option Nat :=
  match a.field 345 31 24 with
  | 0 => none
  | 1 => some 32
  | _ => some 33

/-- The ambient channel's zero az (R75). -/
def SiteArea.ambientZero (a : SiteArea) : Int := signed16 (a.field 346 15 0)

/-- The ambient channel's scale ak (R75). -/
def SiteArea.ambientScale (a : SiteArea) : Nat := a.field 347 31 0

end Sys2Proof.Machine
end

