-- ==== Sys2Proof/Machine/State.lean ====
section
/-! DEFINITION. The state of the WX-240 as plain data, its fault and refusal types, and the state after
a full reset. Each field cites the rule that gives it. -/

namespace Sys2Proof.Machine

open Sys2Proof

/-- The spec gives the part no way to stop: what it calls faults are indications, flags and status
codes, all of them State. So no meaning faults, and this type has no constructor. -/
inductive Fault where
  deriving DecidableEq, Repr

/-- Why a command is refused. -/
inductive Refusal where
  /-- Raised by the dispatcher for a row that has no meaning yet; safe, since nothing is claimed of it. -/
  | notModelled (mnemonic : String)
  deriving DecidableEq, Repr

/-! ### Families of like things -/

/-- One thing for each track. -/
structure PerTrack (α : Type) where
  t1 : α
  t2 : α
  deriving DecidableEq, Repr

/-- One thing for each end of a section. -/
structure PerEnd (α : Type) where
  p : α
  q : α
  deriving DecidableEq, Repr

/-- One thing for each sensor of a pair. -/
structure PerRole (α : Type) where
  outer : α
  inner : α
  deriving DecidableEq, Repr

/-- One thing for each rail. -/
structure PerRail (α : Type) where
  l : α
  r : α
  deriving DecidableEq, Repr

/-- One thing for each scanner of a track. -/
structure PerScanner (α : Type) where
  bl : α
  br : α
  wl : α
  wr : α
  deriving DecidableEq, Repr

/-- One thing for each station port. -/
structure PerPort (α : Type) where
  a : α
  b : α
  deriving DecidableEq, Repr

/-! ### Timers -/

/-- A running timer: the site time at which it was started and its length in µs (R2). -/
structure Running where
  start : SiteTime
  length : Nat
  deriving DecidableEq, Repr

/-- A timer, stopped or running. -/
abbrev Timer := Option Running

/-! ### Wheel sensor interface -/

/-- An input filter: the raw level of the input, the filtered level, and the stamp of the pending
change if there is one (R3, R23). -/
structure InputFilter where
  raw : Bool
  level : Bool
  pendingSince : Option SiteTime
  deriving DecidableEq, Repr

/-- A wheel sensor: its filter, the start of its occupancy interval (R6), HELD (R7), SUSPECT (R9). -/
structure Sensor where
  filter : InputFilter
  occupiedSince : Option SiteTime
  held : Bool
  suspect : Bool
  deriving DecidableEq, Repr

/-- A filtered edge of a pair (R3): the sensor, rising or falling, and the stamp. -/
structure Edge where
  role : Role
  rising : Bool
  stamp : SiteTime
  deriving DecidableEq, Repr

/-- The state of a pair machine with its first-edge stamp (R10). -/
inductive PairState where
  | quiet
  | outerSeen (first : SiteTime)
  | innerSeen (first : SiteTime)
  deriving DecidableEq, Repr

/-- A pair machine, and the confirmed edges of the pair that R5 holds back, in the order of their
stamps. -/
structure PairMachine where
  state : PairState
  withheld : List Edge
  deriving DecidableEq, Repr

/-! ### Section controller -/

/-- The track states, in the order of their codes (R20, R190). -/
inductive TrackState where
  | unconfigured | outOfService | idle | approach | occupied | standing | clearing | draining
  deriving DecidableEq, Repr

/-- The reasons a pass ends with (R40). -/
inductive EndReason where
  | normal | reversed | aborted | countOverrun | reset
  deriving DecidableEq, Repr

/-- The entry flags (R190). -/
structure EntryFlags where
  overspeedClamped : Bool
  degradedTiming : Bool
  overlap : Bool
  standstill : Bool
  sampleCap : Bool
  speedOutOfBand : Bool
  positionUncertain : Bool
  forcedFinish : Bool
  shutter : Bool
  scannerFault : Bool
  deriving DecidableEq, Repr

/-- A bay accumulator (R69, R55). -/
structure BayAccumulator where
  n : Nat
  sum : Int
  peak : Option Int
  clipped : Bool
  overlap : Bool
  deriving DecidableEq, Repr

/-- The reason mark of a scanner accumulator (R104). -/
inductive ReasonMark where
  | none | shutter | fault
  deriving DecidableEq, Repr

/-- A scanner accumulator (R104). -/
structure ScannerAccumulator where
  lines : Nat
  maximum : Option Int
  mark : ReasonMark
  deriving DecidableEq, Repr

/-- An axle entry (R22). -/
structure AxleEntry where
  index : Nat
  entryTime : SiteTime
  v : Nat
  ticks : Nat
  flags : EntryFlags
  bays : PerRail (Vector BayAccumulator 8)
  scanners : PerScanner ScannerAccumulator
  deriving DecidableEq, Repr

/-- The running sum and count of the bearing rises of one side (R111). -/
structure RiseSum where
  sum : Int
  count : Nat
  deriving DecidableEq, Repr

/-- The pass context (R26). The entry and exit pairs are given by the direction. `recorded` says that
the pass store holds a header for it (R129), `storing` that axle storing has not stopped (R131). -/
structure PassContext where
  number : Nat
  direction : Direction
  profile : Profile
  ambient : Option Int
  trackGeneration : Nat
  siteGeneration : Nat
  entryCount : Nat
  exitCount : Nat
  heldSpeed : Nat
  speedMin : Option Nat
  speedMax : Option Nat
  speedSum : Nat
  rises : PerRail RiseSum
  tickTotal : Nat
  recorded : Bool
  storing : Bool
  deriving DecidableEq, Repr

/-- An exit mark (R30): the stamp of a rising edge of an exit-pair sensor and the pass tick total then. -/
structure ExitMark where
  stamp : SiteTime
  total : Nat
  deriving DecidableEq, Repr

/-- What a COMMIT keeps of an IDLE track whose area it promotes, so that an event of that same site time can
still be the second of the two (R187, log 39): the site time and, as they stood before the promotion, the
active area, the filters of the sensors, the pair machines, the approach inputs, the working zeros, and
whether the bay samples of a scan of the track in progress were still handled (R67). -/
structure Coinciding where
  time : SiteTime
  area : TrackArea
  filters : PerEnd (PerRole InputFilter)
  pairs : PerEnd PairMachine
  approach : PerEnd InputFilter
  zeros : PerRail (Vector (Option Int) 8)
  scanned : Bool
  deriving DecidableEq, Repr

/-- A section controller (R20), with the filters of its track's approach inputs (R23). Two fields are the
model's own, for events that come together with another and are taken second: `lateClose` is the site time
at which the track left IDLE, where its close delay ended at that time too (R102, log 40); `coinciding` is
what a COMMIT kept (R187, log 39). -/
structure SectionController where
  state : TrackState
  count : Nat
  queue : List AxleEntry
  ctx : Option PassContext
  exitMarks : PerRole (List ExitMark)
  approachTimer : Timer
  holdTimer : Timer
  clearTimer : Timer
  quietTimer : Timer
  closeDelay : Timer
  lateClose : Option SiteTime
  coinciding : Option Coinciding
  underflow : Bool
  approach : PerEnd InputFilter
  deriving DecidableEq, Repr

/-! ### Distance pacer -/

/-- A distance pacer (R45). `acc` is the phase accumulator after the step made at site time `since`;
each microsecond from then on adds `active` until the step that overflows (R49, log 5). `waiting` says
that a speed write waits in the preload (R47). -/
structure Pacer where
  running : Bool
  fresh : Bool
  acc : BitVec 32
  since : SiteTime
  active : BitVec 32
  preload : BitVec 32
  waiting : Bool
  deriving DecidableEq, Repr

/-! ### Strain acquisition unit -/

/-- The bay part of a tick assignment: the axle index assigned to each bay, or none (R54). -/
abbrev BayAssignment := PerRail (Vector (Option Nat) 8)

/-- A scan request (R62). -/
inductive ScanRequest where
  | pace (pass : Nat) (bays : BayAssignment)
  | zero
  deriving DecidableEq, Repr

/-- A scan in progress (R62, R67): its track and request, the scan list and ambient channel of its
grant (R61), the conversions done, its grant time, and whether its track's area was promoted since. -/
structure Scan where
  track : TrackId
  request : ScanRequest
  entries : List (Nat × Nat)
  ambientChannel : Option Nat
  done : Nat
  grantedAt : SiteTime
  promotedSince : Bool
  deriving DecidableEq, Repr

/-- The strain acquisition unit. The converter is busy while a scan is in progress (R60). -/
structure StrainUnit where
  zeros : PerTrack (PerRail (Vector (Option Int) 8))
  drifted : PerTrack (PerRail (Vector Bool 8))
  slots : PerTrack (Option ScanRequest)
  scan : Option Scan
  lastServed : TrackId
  zeroTimers : PerTrack Timer
  ambient : Option Int
  deriving DecidableEq, Repr

/-! ### Thermal scanner interface -/

/-- The view of a scanner's shutter (R97). -/
inductive ShutterView where
  | closed | opening | opened | closing | fault | silent
  deriving DecidableEq, Repr

/-- A message sent to a scanner (R95). -/
inductive LinkMessage where
  | shutterOpen
  | shutterClose
  | lineRequest (seqNo : BitVec 8)
  deriving DecidableEq, Repr

/-- An outstanding line request (R97, R106). -/
structure LineRequest where
  seqNo : BitVec 8
  pass : Nat
  axle : Nat
  timer : Running
  deriving DecidableEq, Repr

/-- What the interface holds for a scanner (R97). `wantedOpen` is wanted OPEN. `sent` is the model's
own trace of the messages sent on the link, newest first (log 22). -/
structure Scanner where
  view : ShutterView
  wantedOpen : Bool
  openingTimer : Timer
  openingFault : Bool
  silence : Timer
  housing : Option Int
  request : Option LineRequest
  nextSeq : BitVec 8
  sent : List LinkMessage
  deriving DecidableEq, Repr

/-! ### Alarms -/

/-- The alarm levels in their order (R190); NONE is the level of an axle without alarms (R113). -/
inductive Level where
  | none | warning | alarm
  deriving DecidableEq, Repr

/-- The alarm kinds, in the order of their codes from 1 (R190). -/
inductive AlarmKind where
  | countMismatch | impact | impactRatio | axleOverload | imbalance | bearingHot | bearingWarm
  | bearingDiff | bearingCross | wheelHot | vehicleOverload
  deriving DecidableEq, Repr

/-- The side of an alarm (R146). -/
inductive Side where
  | none | l | r
  deriving DecidableEq, Repr

/-- An alarm as its block raises it (R144). -/
structure Alarm where
  kind : AlarmKind
  level : Level
  track : TrackId
  direction : Direction
  pass : Nat
  axle : Nat
  vehicle : Option Nat
  side : Side
  value : Int
  threshold : Int
  deriving DecidableEq, Repr

/-- An alarm record (R146). -/
structure AlarmRecord where
  number : Nat
  alarm : Alarm
  siteTime : SiteTime
  stationTime : Word
  latched : List (Fin 8)
  acknowledged : Option Port
  deriving DecidableEq, Repr

/-- A follow holder of a line: an alarm of a track's open pass (R149). -/
structure Holder where
  track : TrackId
  pass : Nat
  number : Nat
  deriving DecidableEq, Repr

/-- The phase of a line's pulse state, with the timer of that phase (R143). -/
inductive PulsePhase where
  | idle
  | pulse (timer : Running)
  | recovery (timer : Running)
  deriving DecidableEq, Repr

/-- An output line: its follow-holder set and its pulse state (R143). -/
structure OutputLine where
  followers : List Holder
  phase : PulsePhase
  pendingPulse : Bool
  deriving DecidableEq, Repr

/-- The alarm unit (R143). -/
structure AlarmUnit where
  list : List AlarmRecord
  next : Nat
  listFull : Bool
  openPass : PerTrack (Option Nat)
  lines : Vector OutputLine 8
  deriving DecidableEq, Repr

/-! ### Records of the pass store -/

/-- The status of an axle record (R190). -/
inductive AxleStatus where
  | pending | final | abandoned
  deriving DecidableEq, Repr

/-- The results of one wheel (R87). -/
structure WheelResult where
  load : Option Nat
  peak : Option Nat
  impactBay : Option Nat
  ratio : Option Nat
  valid : Nat
  saturated : Bool
  fewBays : Bool
  deriving DecidableEq, Repr

/-- The reason code of a thermal result (R108, R109). -/
inductive ThermalReason where
  | none | noAmbient | fault | shutter | sparse | notFinished
  deriving DecidableEq, Repr

/-- The thermal result of one scanner (R109). -/
structure ThermalResult where
  temperature : Option Int
  rise : Option Int
  reason : ThermalReason
  lines : Nat
  deriving DecidableEq, Repr

/-- An axle record (R130, R190). -/
structure AxleRecord where
  index : Nat
  vehicle : Option Nat
  entryTime : SiteTime
  v : Nat
  spacing : Option Nat
  flags : EntryFlags
  wheels : PerRail WheelResult
  axleLoad : Option Nat
  imbalance : Option Nat
  drift : Option Int
  status : AxleStatus
  thermal : PerScanner ThermalResult
  deriving DecidableEq, Repr

/-- The orientation of a vehicle record (R121). -/
inductive Orientation where
  | none | forward | reversed
  deriving DecidableEq, Repr

/-- A vehicle record (R121). `grossLimit` is the limit of the type it was made from, which R124 needs
when the vehicle becomes FINAL and which no word of the record shows. -/
structure VehicleRecord where
  index : Nat
  firstAxle : Nat
  axles : Nat
  code : Nat
  classCode : Nat
  orientation : Orientation
  final : Bool
  worst : Level
  gross : Option Nat
  degradedSpacing : Bool
  gapAssumed : Bool
  axleAbandoned : Bool
  grossLimit : Nat
  deriving DecidableEq, Repr

/-- The state of a held pass (R128, R133). -/
inductive PassState where
  | opened | closing | closed
  deriving DecidableEq, Repr

/-- The pass flags (R128). -/
structure PassFlags where
  truncated : Bool
  storeFull : Bool
  vehiclesTruncated : Bool
  paceOverrun : Bool
  countMismatch : Bool
  shutterLate : Bool
  deriving DecidableEq, Repr

/-- A held pass (R127, R128): its header, its axle and vehicle records, and how many chunks it holds. The
stored axle count and the vehicle count are the lengths of the record lists (R141). -/
structure HeldPass where
  number : Nat
  track : TrackId
  direction : Direction
  state : PassState
  endReason : Option EndReason
  openSite : SiteTime
  openStation : Word
  closeSite : Option SiteTime
  closeStation : Option Word
  entryCount : Option Nat
  exitCount : Option Nat
  speedMin : Option Nat
  speedMax : Option Nat
  speedMean : Option Nat
  ambient : Option Int
  trackGeneration : Nat
  siteGeneration : Nat
  alarmCount : Nat
  flags : PassFlags
  retention : PerPort Bool
  release : PerPort Bool
  axles : List AxleRecord
  vehicles : List VehicleRecord
  axleChunks : Nat
  vehicleChunks : Nat
  deriving DecidableEq, Repr

/-- The pass store (R127), with the pass number counter shared by the section controllers (R26). -/
structure PassStore where
  passes : List HeldPass
  freeAxleChunks : Nat
  freeVehicleChunks : Nat
  nextPass : Nat
  deriving DecidableEq, Repr

/-! ### Vehicle recognition -/

/-- Whether an axle on the waiting list has been finished, abandoned or neither (R113). -/
inductive AxleOutcome where
  | neither | finished | abandoned
  deriving DecidableEq, Repr

/-- A waiting-list entry (R113). -/
structure WaitingAxle where
  index : Nat
  spacing : Option Nat
  degraded : Bool
  outcome : AxleOutcome
  level : Level
  deriving DecidableEq, Repr

/-- A matching context (R113). -/
structure MatchContext where
  pass : Nat
  cursor : Nat
  stored : Nat
  previous : SiteTime
  limitPassed : Bool
  waiting : List WaitingAxle
  finishMark : Nat
  nextVehicle : Nat
  recording : Bool
  deriving DecidableEq, Repr

/-! ### Station ports -/

/-- A configuration area (R177). -/
inductive Area where
  | site
  | track (t : TrackId)
  deriving DecidableEq, Repr

/-- What a FAULT_CHANGED notice names (R165): an indication and its source. -/
inductive FaultSource where
  | held (input : Fin 8)
  | suspect (input : Fin 8)
  | drifted (t : TrackId) (rail : Rail) (bay : Fin 8)
  | underflow (t : TrackId)
  | scanner (link : Fin 8)
  deriving DecidableEq, Repr

/-- The content of a notice (R165). -/
inductive NoticeBody where
  | passOpened (pass : Nat) (t : TrackId) (d : Direction) (unrecorded : Bool)
  | passClosed (pass : Nat) (t : TrackId) (reason : EndReason)
  | alarmRaised (number : Option Nat) (kind : AlarmKind) (level : Level) (notStored : Bool)
  | passDropped (pass : Nat)
  | configPromoted (area : Area) (generation : Nat)
  | faultChanged (source : FaultSource) (value : Nat)
  | overflow (count : Nat)
  deriving DecidableEq, Repr

/-- A notice with the site time of its sending (R165). -/
structure Notice where
  body : NoticeBody
  sentAt : SiteTime
  deriving DecidableEq, Repr

/-- The read sections of a pass (R140). -/
inductive ReadPart where
  | header | axles | vehicles
  deriving DecidableEq, Repr

/-- A port's view with its read cursor (R139). -/
inductive PassView where
  | empty
  | names (pass : Nat) (part : ReadPart) (offset : Nat)
  | stale
  deriving DecidableEq, Repr

/-- The transaction phase of a port, with what has been shifted in and what is still to be shifted out
(R159). -/
inductive Phase where
  | deselected
  | command
  | length (cmd : Byte)
  | arguments (cmd : Byte) (len : Nat) (got : List Byte)
  | reply (out : List Byte)
  | discarded
  deriving DecidableEq, Repr

/-- A station port (R159, R164, R166, R139). `dataOut` is the byte last shifted out. The attention line it
drives follows from `notices` (R167): its level is `StationPort.attention`. -/
structure StationPort where
  attached : Bool
  notices : List Notice
  view : PassView
  phase : Phase
  dataOut : Byte
  deriving DecidableEq, Repr

/-! ### Configuration store -/

/-- What the store holds of one area (R177): the pending mark is set while `committed` is present, with
the generation of the commit that set it. -/
structure AreaStore (α : Type) where
  staged : α
  active : α
  activeGeneration : Nat
  committed : Option (α × Nat)
  deriving DecidableEq, Repr

/-- The configuration store (R177). -/
structure ConfigStore where
  generation : Nat
  site : AreaStore SiteArea
  tracks : PerTrack (AreaStore TrackArea)
  deriving DecidableEq, Repr

/-! ### The whole machine -/

/-- The state of the WX-240. `pending` and `choice` are the model's own: the commands that wait, first
in, first out, and the running number of the free choices made (log 25). -/
structure State where
  siteTime : SiteTime
  stationTime : Word
  secondStart : SiteTime
  sensors : PerTrack (PerEnd (PerRole Sensor))
  pairs : PerTrack (PerEnd PairMachine)
  sections : PerTrack SectionController
  pacers : PerTrack Pacer
  strain : StrainUnit
  scanners : PerTrack (PerScanner Scanner)
  contexts : PerTrack (Option MatchContext)
  store : PassStore
  alarms : AlarmUnit
  ports : PerPort StationPort
  config : ConfigStore
  choice : Nat
  pending : List Instr
  deriving DecidableEq, Repr

/-! ### The state after a full reset -/

/-- An input filter after a full reset: raw and filtered level low (DESIGN CHOICE, log 8 and log 28). -/
def InputFilter.reset : InputFilter := ⟨false, false, none⟩

/-- A wheel sensor after a full reset (R4). -/
def Sensor.reset : Sensor := ⟨.reset, none, false, false⟩

/-- A section controller after a full reset (R20). -/
def SectionController.reset : SectionController where
  state := .unconfigured
  count := 0
  queue := []
  ctx := none
  exitMarks := ⟨[], []⟩
  approachTimer := none
  holdTimer := none
  clearTimer := none
  quietTimer := none
  closeDelay := none
  lateClose := none
  coinciding := none
  underflow := false
  approach := ⟨.reset, .reset⟩

/-- A pacer after a full reset (R45); `since` and `waiting` are the model's (log 28). -/
def Pacer.reset : Pacer := ⟨false, false, 0, 0, 0, 0, false⟩

/-- The strain acquisition unit after a full reset (R60, R62, R70, R74, R76). -/
def StrainUnit.reset : StrainUnit where
  zeros := ⟨⟨.replicate 8 none, .replicate 8 none⟩, ⟨.replicate 8 none, .replicate 8 none⟩⟩
  drifted := ⟨⟨.replicate 8 false, .replicate 8 false⟩, ⟨.replicate 8 false, .replicate 8 false⟩⟩
  slots := ⟨none, none⟩
  scan := none
  lastServed := .t2
  zeroTimers := ⟨none, none⟩
  ambient := none

/-- A scanner after a full reset (R97, R95), its SHUTTER CLOSE sent. -/
def Scanner.reset : Scanner where
  view := .closed
  wantedOpen := false
  openingTimer := none
  openingFault := false
  silence := some ⟨0, 3000000⟩
  housing := none
  request := none
  nextSeq := 0
  sent := [.shutterClose]

/-- The pass store after a full reset (R127), the pass counter at 1 (R44). -/
def PassStore.reset : PassStore := ⟨[], 64, 64, 1⟩

/-- An output line after a full reset (R143). -/
def OutputLine.reset : OutputLine := ⟨[], .idle, false⟩

/-- The alarm unit after a full reset (R143). -/
def AlarmUnit.reset : AlarmUnit := ⟨[], 1, false, ⟨none, none⟩, .replicate 8 .reset⟩

/-- A station port after a full reset with select not asserted (R159, R164, R176). -/
def StationPort.reset : StationPort := ⟨false, [], .empty, .deselected, 0⟩

/-- The configuration store after a full reset (R177). -/
def ConfigStore.reset : ConfigStore where
  generation := 0
  site := ⟨.default, .default, 0, none⟩
  tracks := ⟨⟨.default, .default, 0, none⟩, ⟨.default, .default, 0, none⟩⟩

/-- The four sensors of each track after a full reset. -/
def resetSensors : PerEnd (PerRole Sensor) := ⟨⟨.reset, .reset⟩, ⟨.reset, .reset⟩⟩

/-- The two pair machines of each track after a full reset (R10). -/
def resetPairs : PerEnd PairMachine := ⟨⟨.quiet, []⟩, ⟨.quiet, []⟩⟩

/-- The four scanners of each track after a full reset (R97). -/
def resetScanners : PerScanner Scanner := ⟨.reset, .reset, .reset, .reset⟩

/-- The machine right after a full reset (R176 and the rules each block's part cites). -/
def State.reset : State where
  siteTime := 0
  stationTime := 0
  secondStart := 0
  sensors := ⟨resetSensors, resetSensors⟩
  pairs := ⟨resetPairs, resetPairs⟩
  sections := ⟨.reset, .reset⟩
  pacers := ⟨.reset, .reset⟩
  strain := .reset
  scanners := ⟨resetScanners, resetScanners⟩
  contexts := ⟨none, none⟩
  store := .reset
  alarms := .reset
  ports := ⟨.reset, .reset⟩
  config := .reset
  choice := 0
  pending := []

end Sys2Proof.Machine
end

