-- ==== Sys2Proof/Machine/Arith.lean ====
section
/-! DEFINITION. The arithmetic the rules share: rounding (R1), clamping, and comparisons of site times
and timers (R2). -/

namespace Sys2Proof.Machine

open Sys2Proof

/-- R1 for operands that are not negative: the quotient rounded half up. -/
def roundNat (a b : Nat) : Nat := (2 * a + b) / (2 * b)

/-- R1: the quotient rounded half away from zero. -/
def roundDiv (a : Int) (b : Nat) : Int :=
  if 0 ≤ a then (roundNat a.natAbs b : Int) else -(roundNat a.natAbs b : Int)

/-- A number clamped to a range. -/
def clampInt (least greatest v : Int) : Int := max least (min greatest v)

/-- A number clamped to a range. -/
def clampNat (least greatest v : Nat) : Nat := max least (min greatest v)

/-- R2: the interval in µs from an earlier stamp to a later one, modulo 2^32. -/
def interval (earlier later : SiteTime) : Nat := (later - earlier).toNat

/-- R2: stamp b is later than stamp a when (b − a) modulo 2^32 is non-zero and less than 2^31. -/
def isLater (b a : SiteTime) : Bool := decide (0 < interval a b) && decide (interval a b < 2147483648)

/-- R2: a running timer expires when the site time passed since its start reaches its length. -/
def Running.due (r : Running) (now : SiteTime) : Bool := decide (r.length ≤ interval r.start now)

/-- R2: a timer that runs and has reached its length. A stopped timer is never due. -/
def timerDue (t : Timer) (now : SiteTime) : Bool :=
  match t with
  | none => false
  | some r => r.due now

/-- A 16-bit operand read as a two's complement number. -/
def signedHalf (h : BitVec 16) : Int := h.toInt

/-- A signed 16-bit field of which −32,768 marks absence (00_scope.md, Absent values). -/
def presentHalf (h : BitVec 16) : Option Int := if h.toInt = -32768 then none else some h.toInt

end Sys2Proof.Machine
end

