-- ==== Sys2Proof/Machine/Ops.lean ====
section
/-! DEFINITION. The named operations over the state that every block shares: reading and writing one
member of a family, the passing of site time, the commands of one microsecond, and the sending of
notices (R165 to R167). -/

namespace Sys2Proof.Machine

open Sys2Proof

/-! ### Members of a family -/

/-- The member of a track. -/
def PerTrack.get {α : Type} (x : PerTrack α) : TrackId → α
  | .t1 => x.t1
  | .t2 => x.t2

/-- The family with the member of one track replaced. -/
def PerTrack.set {α : Type} (x : PerTrack α) (t : TrackId) (v : α) : PerTrack α :=
  match t with
  | .t1 => { x with t1 := v }
  | .t2 => { x with t2 := v }

/-- The member of an end. -/
def PerEnd.get {α : Type} (x : PerEnd α) : SectionEnd → α
  | .p => x.p
  | .q => x.q

/-- The family with the member of one end replaced. -/
def PerEnd.set {α : Type} (x : PerEnd α) (e : SectionEnd) (v : α) : PerEnd α :=
  match e with
  | .p => { x with p := v }
  | .q => { x with q := v }

/-- The member of a role. -/
def PerRole.get {α : Type} (x : PerRole α) : Role → α
  | .outer => x.outer
  | .inner => x.inner

/-- The family with the member of one role replaced. -/
def PerRole.set {α : Type} (x : PerRole α) (r : Role) (v : α) : PerRole α :=
  match r with
  | .outer => { x with outer := v }
  | .inner => { x with inner := v }

/-- The member of a rail. -/
def PerRail.get {α : Type} (x : PerRail α) : Rail → α
  | .l => x.l
  | .r => x.r

/-- The family with the member of one rail replaced. -/
def PerRail.set {α : Type} (x : PerRail α) (rail : Rail) (v : α) : PerRail α :=
  match rail with
  | .l => { x with l := v }
  | .r => { x with r := v }

/-- The member of a scanner. -/
def PerScanner.get {α : Type} (x : PerScanner α) : ScannerName → α
  | .bl => x.bl
  | .br => x.br
  | .wl => x.wl
  | .wr => x.wr

/-- The family with the member of one scanner replaced. -/
def PerScanner.set {α : Type} (x : PerScanner α) (n : ScannerName) (v : α) : PerScanner α :=
  match n with
  | .bl => { x with bl := v }
  | .br => { x with br := v }
  | .wl => { x with wl := v }
  | .wr => { x with wr := v }

/-- A function applied to each scanner of a track. -/
def PerScanner.map {α β : Type} (f : α → β) (x : PerScanner α) : PerScanner β :=
  ⟨f x.bl, f x.br, f x.wl, f x.wr⟩

/-- The member of a port. -/
def PerPort.get {α : Type} (x : PerPort α) : Port → α
  | .a => x.a
  | .b => x.b

/-- The family with the member of one port replaced. -/
def PerPort.set {α : Type} (x : PerPort α) (p : Port) (v : α) : PerPort α :=
  match p with
  | .a => { x with a := v }
  | .b => { x with b := v }

/-- A function applied to each port. -/
def PerPort.map {α β : Type} (f : α → β) (x : PerPort α) : PerPort β := ⟨f x.a, f x.b⟩

/-- The eight bays of a rail, or the eight lines, in order, counted from 0. -/
def eight : List (Fin 8) := [0, 1, 2, 3, 4, 5, 6, 7]

/-- The scanners of a track in the order of their links (R94). -/
def scannerNames : List ScannerName := [.bl, .br, .wl, .wr]

/-- The other role of a pair. -/
def partner : Role → Role
  | .outer => .inner
  | .inner => .outer

/-- The other track. -/
def otherTrack : TrackId → TrackId
  | .t1 => .t2
  | .t2 => .t1

/-- The number of a track. -/
def trackNumber : TrackId → Nat
  | .t1 => 1
  | .t2 => 2

/-! ### Names of inputs and links -/

/-- The track, end and role of a wheel sensor input
(01_wheel_sensors_and_pair_timing.md, the table of The sensor inputs). -/
def sensorOfInput (i : Fin 8) : TrackId × SectionEnd × Role :=
  match i with
  | 0 => (.t1, .p, .outer)
  | 1 => (.t1, .p, .inner)
  | 2 => (.t1, .q, .inner)
  | 3 => (.t1, .q, .outer)
  | 4 => (.t2, .p, .outer)
  | 5 => (.t2, .p, .inner)
  | 6 => (.t2, .q, .inner)
  | 7 => (.t2, .q, .outer)

/-- The input number of a wheel sensor. -/
def inputOfSensor (t : TrackId) (e : SectionEnd) (r : Role) : Fin 8 :=
  match t, e, r with
  | .t1, .p, .outer => 0
  | .t1, .p, .inner => 1
  | .t1, .q, .inner => 2
  | .t1, .q, .outer => 3
  | .t2, .p, .outer => 4
  | .t2, .p, .inner => 5
  | .t2, .q, .inner => 6
  | .t2, .q, .outer => 7

/-- The track and scanner of a link (R94). -/
def scannerOfLink (i : Fin 8) : TrackId × ScannerName :=
  match i with
  | 0 => (.t1, .bl)
  | 1 => (.t1, .br)
  | 2 => (.t1, .wl)
  | 3 => (.t1, .wr)
  | 4 => (.t2, .bl)
  | 5 => (.t2, .br)
  | 6 => (.t2, .wl)
  | 7 => (.t2, .wr)

/-- The link number of a scanner (R94). -/
def linkOfScanner (t : TrackId) (n : ScannerName) : Fin 8 :=
  match t, n with
  | .t1, .bl => 0
  | .t1, .br => 1
  | .t1, .wl => 2
  | .t1, .wr => 3
  | .t2, .bl => 4
  | .t2, .br => 5
  | .t2, .wl => 6
  | .t2, .wr => 7

/-! ### Reading and writing the state's families -/

/-- The state at site time `now` (log 1). -/
def State.atTime (s : State) (now : SiteTime) : State := { s with siteTime := now }

/-- The section controller of a track. -/
def State.section (s : State) (t : TrackId) : SectionController := s.sections.get t

/-- The state with a track's section controller replaced. -/
def State.setSection (s : State) (t : TrackId) (c : SectionController) : State :=
  { s with sections := s.sections.set t c }

/-- The pacer of a track. -/
def State.pacer (s : State) (t : TrackId) : Pacer := s.pacers.get t

/-- The state with a track's pacer replaced. -/
def State.setPacer (s : State) (t : TrackId) (p : Pacer) : State :=
  { s with pacers := s.pacers.set t p }

/-- A wheel sensor. -/
def State.sensor (s : State) (t : TrackId) (e : SectionEnd) (r : Role) : Sensor :=
  ((s.sensors.get t).get e).get r

/-- The state with a wheel sensor replaced. -/
def State.setSensor (s : State) (t : TrackId) (e : SectionEnd) (r : Role) (x : Sensor) : State :=
  { s with sensors := s.sensors.set t ((s.sensors.get t).set e (((s.sensors.get t).get e).set r x)) }

/-- A pair machine. -/
def State.pair (s : State) (t : TrackId) (e : SectionEnd) : PairMachine := (s.pairs.get t).get e

/-- The state with a pair machine replaced. -/
def State.setPair (s : State) (t : TrackId) (e : SectionEnd) (m : PairMachine) : State :=
  { s with pairs := s.pairs.set t ((s.pairs.get t).set e m) }

/-- A scanner. -/
def State.scanner (s : State) (t : TrackId) (n : ScannerName) : Scanner := (s.scanners.get t).get n

/-- The state with a scanner replaced. -/
def State.setScanner (s : State) (t : TrackId) (n : ScannerName) (x : Scanner) : State :=
  { s with scanners := s.scanners.set t ((s.scanners.get t).set n x) }

/-- The matching context of a track. -/
def State.context (s : State) (t : TrackId) : Option MatchContext := s.contexts.get t

/-- The state with a track's matching context replaced. -/
def State.setContext (s : State) (t : TrackId) (c : Option MatchContext) : State :=
  { s with contexts := s.contexts.set t c }

/-- A station port. -/
def State.port (s : State) (p : Port) : StationPort := s.ports.get p

/-- The state with a station port replaced. -/
def State.setPort (s : State) (p : Port) (x : StationPort) : State :=
  { s with ports := s.ports.set p x }

/-- The active track area of a track (R177). -/
def State.area (s : State) (t : TrackId) : TrackArea := (s.config.tracks.get t).active

/-- The active site area (R177). -/
def State.siteArea (s : State) : SiteArea := s.config.site.active

/-- The open pass of a track: it is there while the track is OCCUPIED, STANDING or CLEARING (R20). -/
def State.ctx (s : State) (t : TrackId) : Option PassContext := (s.section t).ctx

/-- The state with a track's pass context replaced. -/
def State.setCtx (s : State) (t : TrackId) (c : Option PassContext) : State :=
  s.setSection t { s.section t with ctx := c }

/-- A timer started now with a length (R2). -/
def State.startTimer (s : State) (length : Nat) : Timer := some ⟨s.siteTime, length⟩

/-- A track is configured from the first promotion of its area (R43, R186). -/
def State.configured (s : State) (t : TrackId) : Bool :=
  decide ((s.section t).state ≠ .unconfigured)

/-! ### Commands of one microsecond -/

/-- The site time a command carries (log 1); FULL_RESET carries none. -/
def commandTime : Instr → Option SiteTime
  | .fullReset => none
  | .sensorRawChange now _ _ => some now
  | .debounceConfirm now _ => some now
  | .heldTimerExpiry now _ => some now
  | .pairTimeoutExpiry now _ _ => some now
  | .approachInputChange now _ _ _ => some now
  | .approachEdge now _ _ => some now
  | .approachTimerExpiry now _ => some now
  | .closeDelayExpiry now _ => some now
  | .holdTimerExpiry now _ => some now
  | .clearTimerExpiry now _ => some now
  | .quietTimerExpiry now _ => some now
  | .paceTick now _ => some now
  | .zeroTimerExpiry now _ => some now
  | .conversionEnd now _ => some now
  | .linkMessageDiscarded now _ => some now
  | .scannerStatus now _ _ _ => some now
  | .scannerLine now _ _ _ => some now
  | .silenceTimerExpiry now _ => some now
  | .openingTimerExpiry now _ => some now
  | .lineTimerExpiry now _ => some now
  | .spacingLimitPassed now _ => some now
  | .pulseTimerExpiry now _ => some now
  | .recoveryTimerExpiry now _ => some now
  | .stationTimeAdvance now => some now
  | .selectAssert now _ => some now
  | .selectDeassert now _ => some now
  | .unknownCommand now _ _ => some now
  | .status now _ _ => some now
  | .attach now _ _ => some now
  | .detach now _ _ => some now
  | .listPasses now _ _ => some now
  | .selectPass now _ _ => some now
  | .readHeader now _ _ => some now
  | .readAxles now _ _ => some now
  | .readVehicles now _ _ => some now
  | .releasePass now _ _ => some now
  | .readNotice now _ _ => some now
  | .readAlarms now _ _ => some now
  | .ackAlarm now _ _ => some now
  | .stageWrite now _ _ => some now
  | .stageRead now _ _ => some now
  | .activeRead now _ _ => some now
  | .commit now _ _ => some now
  | .abandon now _ _ => some now
  | .trackAbort now _ _ => some now
  | .trackOut now _ _ => some now
  | .trackIn now _ _ => some now
  | .purgeFaults now _ _ => some now
  | .purgeNotices now _ _ => some now
  | .purgeAcked now _ _ => some now
  | .purgeReleased now _ _ => some now
  | .setTime now _ _ => some now
  | .reset now _ _ => some now
  | .byteShiftedIn now _ _ => some now
  | .pacerFirstStep now _ => some now
  | .approachInputInactive now _ _ => some now

/-- The commands at the front of a queue that come at a site time, together with the one being run. -/
def simultaneous (now : SiteTime) (queue : List Instr) : List Instr :=
  queue.takeWhile fun c => decide (commandTime c = some now)

/-- A raw change of a wheel sensor at the present site time waits among the commands that come together
with the one being run. -/
def State.changeWaits (s : State) (t : TrackId) (e : SectionEnd) (x : Role) : Bool :=
  (simultaneous s.siteTime s.pending).contains
    (.sensorRawChange s.siteTime (inputOfSensor t e x) (!(s.sensor t e x).filter.raw))

/-! ### Notices -/

/-- R166: a notice arriving at a queue joins it, or is counted in an OVERFLOW entry, or makes one. A
queue of 32 entries always has an OVERFLOW as its newest, so the last row is never met. -/
def pushNotice (n : Notice) (q : List Notice) : List Notice :=
  match q.getLast? with
  | some ⟨.overflow c, t⟩ => q.dropLast ++ [⟨.overflow (min (c + 1) 65535), t⟩]
  | _ =>
    if q.length < 31 then q ++ [n]
    else if q.length = 31 then q ++ [⟨.overflow 1, n.sentAt⟩]
    else q

/-- R165: a port receives a notice exactly when it is ATTACHED at the sending. -/
def StationPort.receive (p : StationPort) (n : Notice) : StationPort :=
  if p.attached then { p with notices := pushNotice n p.notices } else p

/-- R167: the level of the attention line that a port drives: active while its notice queue is not
empty. -/
def StationPort.attention (p : StationPort) : Bool := !p.notices.isEmpty

/-- R165: a notice is sent to each attached port, with the site time of its sending. -/
def State.notify (s : State) (b : NoticeBody) : State :=
  { s with ports := s.ports.map fun p => p.receive ⟨b, s.siteTime⟩ }

/-- Several notices sent one after another. -/
def State.notifyAll (s : State) (bs : List NoticeBody) : State := bs.foldl State.notify s

/-- Two lists merged into one that keeps the order within each: the next element is the first list's
if `pick` of the running number holds. `fuel` bounds the length. Also answers the running number after
the choices made; no choice is made once one list is used up. -/
def interleave {α : Type} (pick : Nat → Bool) : Nat → Nat → List α → List α → List α × Nat
  | 0, n, xs, ys => (xs ++ ys, n)
  | _ + 1, n, [], ys => (ys, n)
  | _ + 1, n, xs, [] => (xs, n)
  | fuel + 1, n, x :: xs, y :: ys =>
    if pick n then
      let rest := interleave pick fuel (n + 1) xs (y :: ys)
      (x :: rest.1, rest.2)
    else
      let rest := interleave pick fuel (n + 1) (x :: xs) ys
      (y :: rest.1, rest.2)

/-- A list put into an order that nothing fixes: each place takes the element that `pick` of the running
number gives among those left. `fuel` bounds the length. Also answers the running number after the
choices made; no choice is made for a single element. -/
def arrange {α : Type} (pick : Nat → Nat) : Nat → Nat → List α → List α × Nat
  | 0, n, xs => (xs, n)
  | _ + 1, n, [] => ([], n)
  | _ + 1, n, [x] => ([x], n)
  | fuel + 1, n, x :: y :: xs =>
    let i := pick n % (xs.length + 2)
    let rest := arrange pick fuel (n + 1) ((x :: y :: xs).eraseIdx i)
    ((x :: y :: xs).getD i x :: rest.1, rest.2)

/-- Groups of notices put one after another, each in an order that is a free choice (log 24). Also answers
the running number after the choices made. -/
def arrangeGroups : Nat → List (List NoticeBody) → List NoticeBody × Nat
  | n, [] => ([], n)
  | n, g :: rest =>
    let one := arrange Config.nextNotice g.length n g
    let others := arrangeGroups one.2 rest
    (one.1 ++ others.1, others.2)

/-- R165: notices of two different blocks sent together, which reach the queues in either order: a free
choice (log 13). Each block sends its groups one after another, those of one group in any order. -/
def State.notifyTogether (s : State) (first second : List (List NoticeBody)) : State :=
  let xs := arrangeGroups s.choice first
  let ys := arrangeGroups xs.2 second
  let merged := interleave Config.firstBlockFirst (xs.1.length + ys.1.length) ys.2 xs.1 ys.1
  { s.notifyAll merged.1 with choice := merged.2 }

end Sys2Proof.Machine
end

