-- ==== Sys2Proof/Machine/Flags.lean ====
section
/-! DEFINITION. The codes of R190 and the flag words of the records. -/

namespace Sys2Proof.Machine

open Sys2Proof

/-- Direction: P→Q 0, Q→P 1 (R190). -/
def Direction.code : Direction → Nat
  | .pq => 0
  | .qp => 1

/-- Side: none 0, L 1, R 2 (R190). -/
def Side.code : Side → Nat
  | .none => 0
  | .l => 1
  | .r => 2

/-- Level: NONE 0, WARNING 1, ALARM 2 (R190). -/
def Level.code : Level → Nat
  | .none => 0
  | .warning => 1
  | .alarm => 2

/-- The higher of two levels ("WARNING is lower than ALARM", 09_alarms_and_output_lines.md). -/
def Level.higher (a b : Level) : Level := if a.code < b.code then b else a

/-- Track state codes (R190). -/
def TrackState.code : TrackState → Nat
  | .unconfigured => 0
  | .outOfService => 1
  | .idle => 2
  | .approach => 3
  | .occupied => 4
  | .standing => 5
  | .clearing => 6
  | .draining => 7

/-- End reason codes (R190). -/
def EndReason.code : EndReason → Nat
  | .normal => 0
  | .reversed => 1
  | .aborted => 2
  | .countOverrun => 3
  | .reset => 4

/-- Alarm kind codes (R190). -/
def AlarmKind.code : AlarmKind → Nat
  | .countMismatch => 1
  | .impact => 2
  | .impactRatio => 3
  | .axleOverload => 4
  | .imbalance => 5
  | .bearingHot => 6
  | .bearingWarm => 7
  | .bearingDiff => 8
  | .bearingCross => 9
  | .wheelHot => 10
  | .vehicleOverload => 11

/-- Axle status codes (R190). -/
def AxleStatus.code : AxleStatus → Nat
  | .pending => 0
  | .final => 1
  | .abandoned => 2

/-- Thermal reason codes (R190). -/
def ThermalReason.code : ThermalReason → Nat
  | .none => 0
  | .noAmbient => 1
  | .fault => 2
  | .shutter => 3
  | .sparse => 4
  | .notFinished => 5

/-- Vehicle orientation codes (R190). -/
def Orientation.code : Orientation → Nat
  | .none => 0
  | .forward => 1
  | .reversed => 2

/-- Scanner view codes (R190). -/
def ShutterView.code : ShutterView → Nat
  | .closed => 0
  | .opening => 1
  | .opened => 2
  | .closing => 3
  | .fault => 4
  | .silent => 5

/-- Area codes: SITE 1, TRACK 1 2, TRACK 2 3 (R189). -/
def Area.code : Area → Nat
  | .site => 1
  | .track .t1 => 2
  | .track .t2 => 3

/-- Rail codes of a FAULT_CHANGED notice: L 0, R 1 (R190). -/
def railCode : Rail → Nat
  | .l => 0
  | .r => 1

/-- The side an alarm of a rail carries. -/
def railSide : Rail → Side
  | .l => .l
  | .r => .r

/-- A flag as a bit of a word. -/
def flagBit (f : Bool) (at_ : Nat) : Word := if f then atBit 1 at_ else 0

/-- The entry flags of the axle record (R190). -/
def EntryFlags.word (f : EntryFlags) : Word :=
  flagBit f.overspeedClamped 0 ||| flagBit f.degradedTiming 1 ||| flagBit f.overlap 2 |||
  flagBit f.standstill 3 ||| flagBit f.sampleCap 4 ||| flagBit f.speedOutOfBand 5 |||
  flagBit f.positionUncertain 6 ||| flagBit f.forcedFinish 7 ||| flagBit f.shutter 8 |||
  flagBit f.scannerFault 9

/-- The pass flags of the header (R190). -/
def PassFlags.word (f : PassFlags) : Word :=
  flagBit f.truncated 0 ||| flagBit f.storeFull 1 ||| flagBit f.vehiclesTruncated 2 |||
  flagBit f.paceOverrun 3 ||| flagBit f.countMismatch 4 ||| flagBit f.shutterLate 5

/-- The flags of a new entry: those of its count-in (R22). -/
def EntryFlags.ofCountIn (overspeed degraded : Bool) : EntryFlags :=
  ⟨overspeed, degraded, false, false, false, false, false, false, false, false⟩

/-- No pass flag set. -/
def PassFlags.clear : PassFlags := ⟨false, false, false, false, false, false⟩

end Sys2Proof.Machine
end

