-- ==== Sys2Proof/Machine/Store.lean ====
section
/-! DEFINITION. The pass store (08_the_pass_store.md): headers, chunks, reclaim, and the writes into
axle and vehicle records. The reads and the station commands stand in StationPorts.lean. -/

namespace Sys2Proof.Machine

open Sys2Proof

/-- The number of header slots (R127). -/
def headerSlots : Nat := 16

/-- Free header slots (R127). -/
def PassStore.freeSlots (st : PassStore) : Nat := headerSlots - st.passes.length

/-- The held pass with a number; numbers in the list are distinct (R127). -/
def PassStore.find (st : PassStore) (n : Nat) : Option HeldPass :=
  st.passes.find? fun p => decide (p.number = n)

/-- The held pass with a number changed. -/
def PassStore.update (st : PassStore) (n : Nat) (f : HeldPass → HeldPass) : PassStore :=
  { st with passes := st.passes.map fun p => if p.number = n then f p else p }

/-- The held pass that a track's pass of a number is. An unrecorded pass has none (R129), even where the
other track has a held pass of its number (log 34). -/
def PassStore.ofTrack (st : PassStore) (t : TrackId) (n : Nat) : Option HeldPass :=
  st.passes.find? fun p => decide (p.number = n) && decide (p.track = t)

/-- The held pass that a track's pass of a number is, changed. -/
def PassStore.updateOfTrack (st : PassStore) (t : TrackId) (n : Nat) (f : HeldPass → HeldPass) :
    PassStore :=
  { st with passes := st.passes.map fun p => if p.number = n ∧ p.track = t then f p else p }

/-- The state with the held pass of a track and number changed, if it is held. -/
def State.updatePass (s : State) (t : TrackId) (n : Nat) (f : HeldPass → HeldPass) : State :=
  { s with store := s.store.updateOfTrack t n f }

/-- A header flag set in the pass of a track and number; an unrecorded pass has no header to mark (R129). -/
def State.flagPass (s : State) (t : TrackId) (n : Nat) (f : PassFlags → PassFlags) : State :=
  s.updatePass t n fun p => { p with flags := f p.flags }

/-! ### Retention and release -/

/-- R133: a closed pass is fully released when every port of its retention set is in its release set. -/
def HeldPass.fullyReleased (p : HeldPass) : Bool :=
  decide (p.state = .closed) && (!p.retention.a || p.release.a) && (!p.retention.b || p.release.b)

/-- R133: a closed pass is partly released when its release set is not empty but it is not fully
released. -/
def HeldPass.partlyReleased (p : HeldPass) : Bool :=
  decide (p.state = .closed) && (p.release.a || p.release.b) && !p.fullyReleased

/-- R139: a view that names a reclaimed pass becomes stale. -/
def PassView.afterReclaim (v : PassView) (n : Nat) : PassView :=
  match v with
  | .names m part offset => if m = n then .stale else .names m part offset
  | .empty => .empty
  | .stale => .stale

/-- R136: the pass a reclaim picks, and whether it is picked in tier 2. -/
def PassStore.pick (st : PassStore) : Option (HeldPass × Bool) :=
  match st.passes.find? HeldPass.fullyReleased with
  | some p => some (p, false)
  | none =>
    match st.passes.find? HeldPass.partlyReleased with
    | some p => some (p, true)
    | none => none

/-- R136: a reclaimed pass leaves the list and its slot and chunks become free. -/
def PassStore.drop (st : PassStore) (p : HeldPass) : PassStore :=
  { st with
    passes := st.passes.filter fun x => decide (x.number ≠ p.number)
    freeAxleChunks := st.freeAxleChunks + p.axleChunks
    freeVehicleChunks := st.freeVehicleChunks + p.vehicleChunks }

/-- R136: PASS_DROPPED reaches a port of the retention set that has not released the pass. -/
def StationPort.dropNotice (x : StationPort) (holds : Bool) (n : Notice) : StationPort :=
  if holds then x.receive n else x

/-- R136: one reclaim of a picked pass, with its stale views and, in tier 2, its notices. -/
def State.reclaim (s : State) (p : HeldPass) (tier2 : Bool) : State :=
  let notice : Notice := ⟨.passDropped p.number, s.siteTime⟩
  let viewed := s.ports.map fun x => { x with view := x.view.afterReclaim p.number }
  { s with
    store := s.store.drop p
    ports :=
      ⟨viewed.a.dropNotice (tier2 && p.retention.a && !p.release.a) notice,
        viewed.b.dropNotice (tier2 && p.retention.b && !p.release.b) notice⟩ }

/-- R136: reclaims repeated until there is room or no candidate remains. `fuel` bounds their number by
the number of held passes. -/
def State.reclaimUntil (room : PassStore → Bool) : Nat → State → State
  | 0, s => s
  | fuel + 1, s =>
    if room s.store then s
    else
      match s.store.pick with
      | none => s
      | some (p, tier2) => State.reclaimUntil room fuel (s.reclaim p tier2)

/-- R136: reclaims for a request that finds its kind of room exhausted. -/
def State.makeRoom (s : State) (room : PassStore → Bool) : State :=
  State.reclaimUntil room s.store.passes.length s

/-- R138: every fully released closed pass reclaimed, without notice. -/
def State.reclaimReleased : Nat → State → State
  | 0, s => s
  | fuel + 1, s =>
    match s.store.passes.find? HeldPass.fullyReleased with
    | none => s
    | some p => State.reclaimReleased fuel (s.reclaim p false)

/-! ### Requests -/

/-- Whether a header slot is free (R129). -/
def hasSlot (st : PassStore) : Bool := decide (st.passes.length < headerSlots)

/-- Whether an axle chunk is free (R130). -/
def hasAxleChunk (st : PassStore) : Bool := decide (0 < st.freeAxleChunks)

/-- Whether a vehicle chunk is free (R132). -/
def hasVehicleChunk (st : PassStore) : Bool := decide (0 < st.freeVehicleChunks)

/-- R129: a header request; the pass joins the tail of the list if a slot can be had. Answers whether
it was. -/
def State.requestHeader (s : State) (p : HeldPass) : State × Bool :=
  let s := s.makeRoom hasSlot
  if hasSlot s.store then
    ({ s with store := { s.store with passes := s.store.passes ++ [p] } }, true)
  else (s, false)

/-- A wheel's result fields before finishing (R87). -/
def WheelResult.absent : WheelResult := ⟨none, none, none, none, 0, false, false⟩

/-- A scanner's result fields before finishing (R109). -/
def ThermalResult.absent : ThermalResult := ⟨none, none, .notFinished, 0⟩

/-- R130: a new axle record, PENDING, with every result field absent. -/
def AxleRecord.fresh (e : AxleEntry) : AxleRecord where
  index := e.index
  vehicle := none
  entryTime := e.entryTime
  v := e.v
  spacing := none
  flags := e.flags
  wheels := ⟨.absent, .absent⟩
  axleLoad := none
  imbalance := none
  drift := none
  status := .pending
  thermal := ⟨.absent, .absent, .absent, .absent⟩

/-- R131: axle storing stops for the open pass of a track: TRUNCATED, and STORE_FULL when the cause is
the pool. -/
def State.stopStoring (s : State) (t : TrackId) (c : PassContext) (pool : Bool) : State :=
  (s.flagPass t c.number fun f =>
    { f with truncated := true, storeFull := f.storeFull || pool }).setCtx t
    (some { c with storing := false })

/-- R130: the stored axle count of a track's pass; none where it is not held. -/
def State.storedAxles (s : State) (t : TrackId) (n : Nat) : Nat :=
  match s.store.ofTrack t n with
  | none => 0
  | some p => p.axles.length

/-- R130: a record written at the tail of a held pass. -/
def State.writeAxle (s : State) (t : TrackId) (n : Nat) (e : AxleEntry) : State :=
  s.updatePass t n fun p => { p with axles := p.axles ++ [.fresh e] }

/-- R130: a free axle chunk given to a held pass. -/
def State.takeAxleChunk (s : State) (t : TrackId) (n : Nat) : State :=
  { s with store :=
      { s.store.updateOfTrack t n (fun p => { p with axleChunks := p.axleChunks + 1 }) with
        freeAxleChunks := s.store.freeAxleChunks - 1 } }

/-- R130: an axle record request for the open pass of a track whose storing has not stopped. Answers
whether the record was stored. -/
def State.requestAxle (s : State) (t : TrackId) (c : PassContext) (e : AxleEntry) : State × Bool :=
  let stored := s.storedAxles t c.number
  if 1024 ≤ stored then (s.stopStoring t c false, false)
  else if stored % 64 = 0 then
    let s := s.makeRoom hasAxleChunk
    if hasAxleChunk s.store && (s.store.ofTrack t c.number).isSome then
      ((s.takeAxleChunk t c.number).writeAxle t c.number e, true)
    else (s.stopStoring t c true, false)
  else (s.writeAxle t c.number e, true)

/-- R132: a free vehicle chunk given to a held pass. -/
def State.takeVehicleChunk (s : State) (t : TrackId) (n : Nat) : State :=
  { s with store :=
      { s.store.updateOfTrack t n (fun p => { p with vehicleChunks := p.vehicleChunks + 1 }) with
        freeVehicleChunks := s.store.freeVehicleChunks - 1 } }

/-- R132: a request for the next vehicle record of a track's pass; answers whether it can be had. -/
def State.requestVehicle (s : State) (t : TrackId) (n : Nat) : State × Bool :=
  match s.store.ofTrack t n with
  | none => (s, false)
  | some p =>
    if p.vehicles.length % 32 = 0 then
      let s := s.makeRoom hasVehicleChunk
      if hasVehicleChunk s.store && (s.store.ofTrack t n).isSome then (s.takeVehicleChunk t n, true)
      else (s, false)
    else (s, true)

/-! ### Writes into records -/

/-- A change of the axle record with an index, if the pass stores it. -/
def State.updateAxle (s : State) (t : TrackId) (n index : Nat) (f : AxleRecord → AxleRecord) : State :=
  s.updatePass t n fun p =>
    { p with axles := p.axles.map fun a => if a.index = index then f a else a }

/-- The axle record of a pass with an index, if it is stored. -/
def State.axleRecord (s : State) (t : TrackId) (n index : Nat) : Option AxleRecord :=
  match s.store.ofTrack t n with
  | none => none
  | some p => p.axles.find? fun a => decide (a.index = index)

/-- The vehicle index an axle's record holds, if any (R88, R109). -/
def State.axleVehicle (s : State) (t : TrackId) (n index : Nat) : Option Nat :=
  match s.axleRecord t n index with
  | none => none
  | some a => a.vehicle

/-- A change of the vehicle record with an index. -/
def State.updateVehicle (s : State) (t : TrackId) (n index : Nat) (f : VehicleRecord → VehicleRecord) :
    State :=
  s.updatePass t n fun p =>
    { p with vehicles := p.vehicles.map fun v => if v.index = index then f v else v }

/-- The vehicle record of a pass with an index. -/
def State.vehicleRecord (s : State) (t : TrackId) (n index : Nat) : Option VehicleRecord :=
  match s.store.ofTrack t n with
  | none => none
  | some p => p.vehicles.find? fun v => decide (v.index = index)

end Sys2Proof.Machine
end

