-- ==== Sys2Proof/Machine/Strain.lean ====
section
/-! DEFINITION. The strain acquisition unit (04_strain_acquisition_and_zero_tracking.md): the waiting
slots, the arbiter, crediting, zero tracking and drift. Its two commands stand in Sampling.lean. -/

namespace Sys2Proof.Machine

open Sys2Proof

/-- A vector of eight from its members. -/
def tabulate {α : Type} (f : Fin 8 → α) : Vector α 8 := #v[f 0, f 1, f 2, f 3, f 4, f 5, f 6, f 7]

/-- The sixteen bays of a track, rail L first. -/
def allBays : List (Rail × Fin 8) :=
  eight.map (fun b => (Rail.l, b)) ++ eight.map (fun b => (Rail.r, b))

/-- A member of a family of sixteen bays. -/
def bayGet {α : Type} (x : PerRail (Vector α 8)) (rail : Rail) (b : Fin 8) : α := (x.get rail).get b

/-- A family of sixteen bays with one member replaced. -/
def baySet {α : Type} (x : PerRail (Vector α 8)) (rail : Rail) (b : Fin 8) (v : α) :
    PerRail (Vector α 8) :=
  x.set rail ((x.get rail).set b v)

/-! ### Slots and the arbiter -/

/-- The waiting slot of a track. -/
def State.slot (s : State) (t : TrackId) : Option ScanRequest := s.strain.slots.get t

/-- The state with a waiting slot replaced. -/
def State.setSlot (s : State) (t : TrackId) (r : Option ScanRequest) : State :=
  { s with strain := { s.strain with slots := s.strain.slots.set t r } }

/-- R66: a waiting ZERO request is withdrawn. -/
def State.withdrawZero (s : State) (t : TrackId) : State :=
  match s.slot t with
  | some .zero => s.setSlot t none
  | some (.pace _ _) => s
  | none => s

/-- R66: a waiting PACE request is withdrawn when the pass it names closes. -/
def State.withdrawPace (s : State) (t : TrackId) (pass : Nat) : State :=
  match s.slot t with
  | some (.pace n _) => if n = pass then s.setSlot t none else s
  | some .zero => s
  | none => s

/-- R61: the scan a request becomes at its grant, with the scan list and, for a ZERO scan, the ambient
channel of the active configuration. -/
def State.scanOf (s : State) (t : TrackId) (r : ScanRequest) : Scan where
  track := t
  request := r
  entries := (s.area t).scanList
  ambientChannel :=
    match r with
    | .pace _ _ => none
    | .zero => s.siteArea.ambientChannel
  done := 0
  grantedAt := s.siteTime
  promotedSince := false

/-- R64: the waiting request of a track granted. -/
def State.grant (s : State) (t : TrackId) (r : ScanRequest) : State :=
  { s with strain :=
      { s.strain with
        slots := s.strain.slots.set t none
        scan := some (s.scanOf t r)
        lastServed := t } }

/-- R64: the free converter is granted to a waiting request, that of the track not last served when both
wait. -/
def State.arbitrate (s : State) : State :=
  match s.strain.scan with
  | some _ => s
  | none =>
    match s.strain.slots.t1, s.strain.slots.t2 with
    | none, none => s
    | some r, none => s.grant .t1 r
    | none, some r => s.grant .t2 r
    | some r1, some r2 =>
      match s.strain.lastServed with
      | .t1 => s.grant .t2 r2
      | .t2 => s.grant .t1 r1

/-- R63: a scan request arrives. A request that finds the slot full is dropped; a PACE request's pass
then gets PACE_OVERRUN. -/
def State.requestScan (s : State) (t : TrackId) (r : ScanRequest) : State :=
  match s.slot t with
  | none => (s.setSlot t (some r)).arbitrate
  | some _ =>
    match r with
    | .pace pass _ => s.flagPass t pass fun f => { f with paceOverrun := true }
    | .zero => s

/-! ### Crediting -/

/-- R60: a sample at either limit of the converter is clipped. -/
def isClipped (sample : Int) : Bool := decide (sample = -32768) || decide (sample = 32767)

/-- R69: a sample credited to an accumulator with n below 255. -/
def BayAccumulator.credit (a : BayAccumulator) (sample zero : Int) : BayAccumulator :=
  let d := sample - zero
  { a with
    n := a.n + 1
    sum := a.sum + d
    peak := match a.peak with
      | none => some d
      | some p => some (if p < d then d else p)
    clipped := a.clipped || isClipped sample }

/-- R69: a sample credited to an entry's accumulator of a bay, or SAMPLE_CAP where it is full. -/
def AxleEntry.creditBay (e : AxleEntry) (rail : Rail) (b : Fin 8) (sample zero : Int) : AxleEntry :=
  let a := bayGet e.bays rail b
  if a.n < 255 then { e with bays := baySet e.bays rail b (a.credit sample zero) }
  else { e with flags := { e.flags with sampleCap := true } }

/-- R68, R71: the set bay of a track with a channel; validation keeps it the only one (R183). -/
def TrackArea.bayOfChannel (a : TrackArea) (channel : Nat) : Option (Rail × Fin 8) :=
  allBays.find? fun x => (a.bay x.1 x.2).set && decide ((a.bay x.1 x.2).channel = channel)

/-! ### Zero tracking -/

/-- The working zero of a bay. -/
def State.zero (s : State) (t : TrackId) (rail : Rail) (b : Fin 8) : Option Int :=
  bayGet (s.strain.zeros.get t) rail b

/-- The DRIFTED condition of a bay. -/
def State.isDrifted (s : State) (t : TrackId) (rail : Rail) (b : Fin 8) : Bool :=
  bayGet (s.strain.drifted.get t) rail b

/-- The state with a bay's working zero replaced. -/
def State.setZero (s : State) (t : TrackId) (rail : Rail) (b : Fin 8) (z : Option Int) : State :=
  { s with strain := { s.strain with
      zeros := s.strain.zeros.set t (baySet (s.strain.zeros.get t) rail b z) } }

/-- The state with a bay's DRIFTED condition replaced. -/
def State.setDrifted (s : State) (t : TrackId) (rail : Rail) (b : Fin 8) (d : Bool) : State :=
  { s with strain := { s.strain with
      drifted := s.strain.drifted.set t (baySet (s.strain.drifted.get t) rail b d) } }

/-- R73: whether a working zero lies further from the factory zero than the zero limit. -/
def driftedBy (zero factory : Int) (limit : Nat) : Bool := decide ((limit : Int) < (zero - factory).natAbs)

/-- R73: the DRIFTED check of a set bay: its condition, by its working zero and the active area. -/
def State.driftOf (s : State) (t : TrackId) (rail : Rail) (b : Fin 8) : Bool :=
  let slot := (s.area t).bay rail b
  match s.zero t rail b with
  | none => false
  | some z => slot.set && driftedBy z slot.factoryZero (s.area t).zeroLimit

/-- A mark as the new value of a FAULT_CHANGED notice (R190). -/
def markValue (b : Bool) : Nat := if b then 1 else 0

/-- R73: the DRIFTED check after an update of a bay, with its notice where the condition changes. -/
def State.checkDrift (s : State) (t : TrackId) (rail : Rail) (b : Fin 8) : State :=
  let d := s.driftOf t rail b
  if d = s.isDrifted t rail b then s
  else (s.setDrifted t rail b d).notify (.faultChanged (.drifted t rail b) (markValue d))

/-- R71: the working zero after a reading: moved by a sixteenth of the deviation, rounded. -/
def nudge (zero sample : Int) : Int := zero + roundDiv (sample - zero) 16

/-- R71: whether a bay sample of a ZERO scan raises a load wake. -/
def wakes (zero sample : Int) (threshold : Nat) : Bool :=
  decide (threshold ≠ 0) &&
    (isClipped sample || decide ((threshold : Int) ≤ (sample - zero).natAbs))

/-- R75: the ambient value of an unclipped sample. -/
def ambientOf (site : SiteArea) (sample : Int) : Int :=
  clampInt (-32767) 32767 (roundDiv ((sample - site.ambientZero) * site.ambientScale) 65536)

/-! ### Promotion (R67, R74, R76) -/

/-- R74: the working zero of a bay after a promotion from one area to another. -/
def realigned (before after : BaySlot) (zero : Option Int) : Option Int :=
  if after.set then
    if before.set && decide (before.channel = after.channel) &&
        decide (before.factoryZero = after.factoryZero) then zero
    else some after.factoryZero
  else none

/-- R66, R67, R74: the strain acquisition unit takes a promoted track area, its active image being
already replaced; `before` is the former one. The DRIFTED conditions follow from the new zeros. -/
def State.realign (s : State) (t : TrackId) (before : TrackArea) : State :=
  let s := s.withdrawZero t
  let area := s.area t
  let zeros := s.strain.zeros.get t
  let newZeros : PerRail (Vector (Option Int) 8) :=
    ⟨tabulate fun b => realigned (before.bay .l b) (area.bay .l b) (bayGet zeros .l b),
      tabulate fun b => realigned (before.bay .r b) (area.bay .r b) (bayGet zeros .r b)⟩
  let s := { s with strain := { s.strain with
    zeros := s.strain.zeros.set t newZeros
    scan := s.strain.scan.map fun (x : Scan) =>
      if x.track = t then { x with promotedSince := true } else x } }
  { s with strain := { s.strain with
    drifted := s.strain.drifted.set t
      ⟨tabulate fun b => s.driftOf t .l b, tabulate fun b => s.driftOf t .r b⟩ } }

/-- R74: the FAULT_CHANGED notices of a promotion: those of the bays left unset that were DRIFTED, then
those of the set bays whose condition the new area changed. Nothing orders the notices of one group
(log 24). -/
def driftNotices (t : TrackId) (area : TrackArea) (before after : PerRail (Vector Bool 8)) :
    List (List NoticeBody) :=
  let changed := allBays.filter fun x => bayGet before x.1 x.2 != bayGet after x.1 x.2
  let isSet := fun x : Rail × Fin 8 => (area.bay x.1 x.2).set
  let notice := fun x : Rail × Fin 8 =>
    NoticeBody.faultChanged (.drifted t x.1 x.2) (markValue (bayGet after x.1 x.2))
  [(changed.filter fun x => !isSet x).map notice, (changed.filter isSet).map notice]

/-- R76: the ambient value becomes absent when the site area's ambient channel, az or ak changes. -/
def StrainUnit.takeSite (u : StrainUnit) (before after : SiteArea) : StrainUnit :=
  if before.ambientChannel = after.ambientChannel ∧ before.ambientZero = after.ambientZero ∧
      before.ambientScale = after.ambientScale then u
  else { u with ambient := none }

/-- R62: what a warm reset leaves of the unit: no request, no scan, the converter free. -/
def StrainUnit.warmReset (u : StrainUnit) : StrainUnit :=
  { u with slots := ⟨none, none⟩, scan := none }

end Sys2Proof.Machine
end

