-- ==== Sys2Proof/Machine/Loads.lean ====
section
/-! DEFINITION. The load computation unit (05_wheel_load_and_impact_computation.md): bay, wheel and axle
results of a finished entry, and the load checks. It holds no state (R77). -/

namespace Sys2Proof.Machine

open Sys2Proof

/-- The greatest force the part reports (00_scope.md, Absent values). -/
def greatestForce : Nat := 65534

/-- R80, R81: a deviation in counts turned into a force by a bay scale, clamped to 0 to 65,534, and
whether it was clamped at the top. -/
def forceOf (deviation : Int) (scale : Nat) : Nat × Bool :=
  let f := roundDiv (deviation * scale) 65536
  if f < 0 then (0, false)
  else if (greatestForce : Int) < f then (greatestForce, true)
  else (f.toNat, false)

/-- What the unit reads of one bay: its slot, its accumulator, and its DRIFTED condition (R77). -/
structure BayInput where
  slot : BaySlot
  acc : BayAccumulator
  drifted : Bool
  deriving DecidableEq, Repr

/-- R79: a set bay is valid for weighing. -/
def BayInput.valid (b : BayInput) (nMin : Nat) : Bool :=
  b.slot.set && decide (nMin ≤ b.acc.n) && !b.drifted && !b.acc.clipped && !b.acc.overlap

/-- R80: the static force of a valid bay, and whether it was clamped at the top. -/
def BayInput.staticForce (b : BayInput) : Nat × Bool :=
  forceOf (roundDiv b.acc.sum b.acc.n) b.slot.scale

/-- R81: the peak force of a set bay with n of at least 1, and whether it saturates its wheel. -/
def BayInput.peakForce (b : BayInput) : Option (Nat × Bool) :=
  if b.slot.set && decide (1 ≤ b.acc.n) then
    if b.acc.clipped then some (greatestForce, true)
    else
      match b.acc.peak with
      | none => none
      | some p => some (forceOf p b.slot.scale)
  else none

/-- The greatest of some numbers, 0 of none. -/
def greatest (xs : List Nat) : Nat := xs.foldl max 0

/-- The least of some numbers, 0 of none. -/
def least : List Nat → Nat
  | [] => 0
  | x :: xs => xs.foldl min x

/-- R82: the static wheel load of the forces of the valid bays. -/
def wheelLoad (forces : List Nat) : Option Nat :=
  match forces with
  | [] => none
  | [f] => some f
  | [f, g] => some (roundNat (f + g) 2)
  | fs => some (roundNat (fs.sum - greatest fs - least fs) (fs.length - 2))

/-- R83: the greatest peak force with the number of the lowest-numbered bay that gave it. `k` is the
number of the first bay of the list. -/
def impactOf (k : Nat) : List (Option (Nat × Bool)) → Option (Nat × Nat)
  | [] => none
  | none :: rest => impactOf (k + 1) rest
  | some p :: rest =>
    match impactOf (k + 1) rest with
    | none => some (p.1, k)
    | some best => if p.1 < best.1 then some best else some (p.1, k)

/-- R84: the dynamic ratio in per cent, absent when W is absent or 0. -/
def dynamicRatio (peak load : Option Nat) : Option Nat :=
  match peak, load with
  | some p, some w => if w = 0 then none else some (min (roundNat (100 * p) w) 999)
  | _, _ => none

/-- R82 to R84: the results of a wheel from the eight bays of its rail. -/
def wheelResult (nMin : Nat) (bays : List BayInput) : WheelResult :=
  let valid := bays.filter fun b => b.valid nMin
  let load := wheelLoad (valid.map fun b => b.staticForce.1)
  let peaks := bays.map BayInput.peakForce
  let impact := impactOf 1 peaks
  let peak := impact.map fun x => x.1
  { load := load
    peak := peak
    impactBay := impact.map fun x => x.2
    ratio := dynamicRatio peak load
    valid := valid.length
    saturated := valid.any (fun b => b.staticForce.2) ||
      peaks.any fun p => match p with
        | none => false
        | some x => x.2
    fewBays := decide (valid.length = 1) }

/-- R85: the axle load. -/
def axleLoadOf (l r : Option Nat) : Option Nat :=
  match l, r with
  | some x, some y => some (x + y)
  | _, _ => none

/-- R86: the imbalance in per mille. -/
def imbalanceOf (l r : Option Nat) : Option Nat :=
  match l, r with
  | some x, some y => if x + y = 0 then none else some (roundNat (1000 * x) (x + y))
  | _, _ => none

/-- The eight bays of a rail as the unit reads them (R77). -/
def bayInputs (area : TrackArea) (drifted : PerRail (Vector Bool 8)) (e : AxleEntry) (rail : Rail) :
    List BayInput :=
  eight.map fun b => ⟨area.bay rail b, (e.bays.get rail).get b, (drifted.get rail).get b⟩

/-- The results of both wheels of an entry (R78). -/
def wheelResults (area : TrackArea) (drifted : PerRail (Vector Bool 8)) (nMin : Nat) (e : AxleEntry) :
    PerRail WheelResult :=
  ⟨wheelResult nMin (bayInputs area drifted e .l), wheelResult nMin (bayInputs area drifted e .r)⟩

/-- What every alarm of one axle carries (R88, R109): the rest is filled in by the check. -/
structure AlarmBase where
  track : TrackId
  direction : Direction
  pass : Nat
  axle : Nat
  vehicle : Option Nat
  deriving DecidableEq, Repr

/-- An alarm of an axle. -/
def AlarmBase.alarm (b : AlarmBase) (kind : AlarmKind) (level : Level) (side : Side)
    (value threshold : Int) : Alarm :=
  ⟨kind, level, b.track, b.direction, b.pass, b.axle, b.vehicle, side, value, threshold⟩

/-- R89: the IMPACT check of a wheel. -/
def impactCheck (b : AlarmBase) (p : Profile) (side : Side) (w : WheelResult) : List Alarm :=
  match w.peak with
  | none => []
  | some x =>
    if p.impactAlarm ≤ x then [b.alarm .impact .alarm side x p.impactAlarm]
    else if p.impactWarning ≤ x then [b.alarm .impact .warning side x p.impactWarning]
    else []

/-- R90: the IMPACT_RATIO check of a wheel. -/
def ratioCheck (b : AlarmBase) (p : Profile) (side : Side) (w : WheelResult) : List Alarm :=
  match w.ratio with
  | none => []
  | some x => if p.ratioWarning ≤ x then [b.alarm .impactRatio .warning side x p.ratioWarning] else []

/-- R91: the AXLE_OVERLOAD check. -/
def overloadCheck (b : AlarmBase) (p : Profile) (load : Option Nat) : List Alarm :=
  match load with
  | none => []
  | some x => if p.axleAlarm ≤ x then [b.alarm .axleOverload .alarm .none x p.axleAlarm] else []

/-- R92: the IMBALANCE check. R92 has a limit inside the band, while R88's last sentence has a threshold of 0
met by every present value; the model's choice is R92 (log 41): at a lower limit of 0 an imbalance of 0
raises nothing. -/
def imbalanceCheck (b : AlarmBase) (p : Profile) (imbalance : Option Nat) : List Alarm :=
  match imbalance with
  | none => []
  | some x =>
    if p.imbalanceUpper < x then [b.alarm .imbalance .warning .l x p.imbalanceUpper]
    else if x < p.imbalanceLower then [b.alarm .imbalance .warning .r x p.imbalanceLower]
    else []

/-- R88: the load alarms of an axle in their order. -/
def loadAlarms (b : AlarmBase) (p : Profile) (wheels : PerRail WheelResult) : List Alarm :=
  impactCheck b p .l wheels.l ++ ratioCheck b p .l wheels.l ++
  impactCheck b p .r wheels.r ++ ratioCheck b p .r wheels.r ++
  overloadCheck b p (axleLoadOf wheels.l.load wheels.r.load) ++
  imbalanceCheck b p (imbalanceOf wheels.l.load wheels.r.load)

end Sys2Proof.Machine
end

