-- ==== Sys2Proof/Machine/Thermal.lean ====
section
/-! DEFINITION. The thermal scanner interface (06_thermal_scanners_and_bearing_checks.md): views, shutter
requests, line requests, the thermal results and checks of a finished entry, and the commands of the
scanner links. -/

namespace Sys2Proof.Machine

open Sys2Proof

/-- The opening time in µs (R97). -/
def openingLimit : Nat := 1500000

/-- The silence time in µs (R97). -/
def silenceLimit : Nat := 3000000

/-- The line time in µs (R97). -/
def lineLimit : Nat := 2000

/-- R103: the scanner fault indication of a view, as the new value of a FAULT_CHANGED notice gives it
(R190): clear 0, FAULT 4, SILENT 5. -/
def ShutterView.indication : ShutterView → Nat
  | .fault => 4
  | .silent => 5
  | .closed => 0
  | .opening => 0
  | .opened => 0
  | .closing => 0

/-- R103: a scanner's state replaced; a change of its indication is notified. -/
def State.putScanner (s : State) (t : TrackId) (n : ScannerName) (x : Scanner) : State :=
  let changed := decide (x.view.indication ≠ (s.scanner t n).view.indication)
  let s := s.setScanner t n x
  if changed then s.notify (.faultChanged (.scanner (linkOfScanner t n)) x.view.indication) else s

/-! ### Shutter requests -/

/-- R100: an open request at one scanner. -/
def Scanner.requestOpen (x : Scanner) (now : SiteTime) : Scanner :=
  if x.wantedOpen && (decide (x.view = .opened) || decide (x.view = .opening)) then x
  else { x with
    wantedOpen := true
    openingFault := false
    openingTimer := some ⟨now, openingLimit⟩
    sent := .shutterOpen :: x.sent }

/-- R102: a close request at one scanner. -/
def Scanner.requestClose (x : Scanner) : Scanner :=
  { x with
    wantedOpen := false
    openingFault := false
    openingTimer := none
    sent := .shutterClose :: x.sent }

/-- R100: an open request for a track. -/
def State.openShutters (s : State) (t : TrackId) : State :=
  { s with scanners := s.scanners.set t ((s.scanners.get t).map fun x => x.requestOpen s.siteTime) }

/-- R102: a close request for a track. -/
def State.closeShutters (s : State) (t : TrackId) : State :=
  { s with scanners := s.scanners.set t ((s.scanners.get t).map Scanner.requestClose) }

/-- R97: a scanner after a warm reset at a site time; its housing temperature and its next sequence
number are kept, and SHUTTER CLOSE is sent. -/
def Scanner.warmReset (x : Scanner) (now : SiteTime) : Scanner :=
  { x with
    view := .closed
    wantedOpen := false
    openingTimer := none
    openingFault := false
    silence := some ⟨now, silenceLimit⟩
    request := none
    sent := .shutterClose :: x.sent }

/-! ### Entries by name -/

/-- The entry of a track's queue named by pass number and axle index (R54). -/
def State.entry (s : State) (t : TrackId) (pass index : Nat) : Option AxleEntry :=
  match s.ctx t with
  | none => none
  | some c =>
    if c.number = pass then (s.section t).queue.find? fun e => decide (e.index = index) else none

/-- The state with the queue entries of an index changed. -/
def State.updateEntry (s : State) (t : TrackId) (index : Nat) (f : AxleEntry → AxleEntry) : State :=
  s.setSection t { s.section t with
    queue := (s.section t).queue.map fun e => if e.index = index then f e else e }

/-! ### Line requests -/

/-- R105: a scanner accumulator marked SHUTTER, unless it is already FAULT. -/
def ScannerAccumulator.markShutter (a : ScannerAccumulator) : ScannerAccumulator :=
  if a.mark = .fault then a else { a with mark := .shutter }

/-- R105: the entry marked SHUTTER at a scanner; a mark newly set gives the entry the flag SHUTTER. -/
def AxleEntry.markShutter (e : AxleEntry) (n : ScannerName) : AxleEntry :=
  if (e.scanners.get n).mark = .fault then e
  else { e with
    scanners := e.scanners.set n (e.scanners.get n).markShutter
    flags := { e.flags with shutter := true } }

/-- R105: the entry marked FAULT at a scanner, with the flag SCANNER_FAULT. -/
def AxleEntry.markFault (e : AxleEntry) (n : ScannerName) : AxleEntry :=
  { e with
    scanners := e.scanners.set n { e.scanners.get n with mark := .fault }
    flags := { e.flags with scannerFault := true } }

/-- R105: when an entry first gets SHUTTER, the open pass gets SHUTTER_LATE. -/
def State.markEntryShutter (s : State) (t : TrackId) (n : ScannerName) (pass : Nat) (e : AxleEntry) :
    State :=
  let s := s.updateEntry t e.index fun e => e.markShutter n
  if (e.markShutter n).flags.shutter && !e.flags.shutter then
    s.flagPass t pass fun f => { f with shutterLate := true }
  else s

/-- R105, R106: a LINE REQUEST sent for an entry. -/
def Scanner.sendLine (x : Scanner) (now : SiteTime) (pass axle : Nat) : Scanner :=
  { x with
    request := some ⟨x.nextSeq, pass, axle, ⟨now, lineLimit⟩⟩
    nextSeq := x.nextSeq + 1
    sent := .lineRequest x.nextSeq :: x.sent }

/-- R105: one scanner's part of a tick assignment. -/
def State.askScanner (s : State) (t : TrackId) (pass : Nat) (n : ScannerName) (index : Nat) : State :=
  match s.entry t pass index with
  | none => s
  | some e =>
    let x := s.scanner t n
    match x.request with
    | some _ => s
    | none =>
      match x.view with
      | .opened => s.setScanner t n (x.sendLine s.siteTime pass index)
      | .opening => s.markEntryShutter t n pass e
      | .closed => s.markEntryShutter t n pass e
      | .closing => s.markEntryShutter t n pass e
      | .fault => s.updateEntry t index fun e => e.markFault n
      | .silent => s.updateEntry t index fun e => e.markFault n

/-- R104, R107: the greatest valid pixel credited to an accumulator. -/
def ScannerAccumulator.credit (a : ScannerAccumulator) (temperature : Int) : ScannerAccumulator :=
  { a with
    lines := min (a.lines + 1) 255
    maximum := match a.maximum with
      | none => some temperature
      | some m => some (max m temperature) }

/-- The greatest of the valid pixels of a line, absent when every pixel is invalid (R96, R107). -/
def hottest : List (BitVec 16) → Option Int
  | [] => none
  | h :: rest =>
    match presentHalf h, hottest rest with
    | none, best => best
    | some x, none => some x
    | some x, some y => some (max x y)

/-! ### Results and checks at finishing -/

/-- R108: the temperature and rise of a scanner accumulator. -/
def thermalResult (minLines : Nat) (ambient : Option Int) (a : ScannerAccumulator) : ThermalResult :=
  if minLines ≤ a.lines then
    match a.maximum, ambient with
    | some m, some amb => ⟨some m, some (clampInt (-32767) 32767 (m - amb)), .none, a.lines⟩
    | m, none => ⟨m, none, .noAmbient, a.lines⟩
    | none, some _ => ⟨none, none, .sparse, a.lines⟩
  else
    match a.mark with
    | .fault => ⟨none, none, .fault, a.lines⟩
    | .shutter => ⟨none, none, .shutter, a.lines⟩
    | .none => ⟨none, none, .sparse, a.lines⟩

/-- R110: the level check of a bearing. -/
def bearingLevelCheck (b : AlarmBase) (p : Profile) (side : Side) (rise : Option Int) : List Alarm :=
  match rise with
  | none => []
  | some x =>
    if (p.bearingHot : Int) ≤ x then [b.alarm .bearingHot .alarm side x p.bearingHot]
    else if (p.bearingWarm : Int) ≤ x then [b.alarm .bearingWarm .warning side x p.bearingWarm]
    else []

/-- R111: the differential check of a bearing against the mean of the preceding rises of its side. -/
def bearingDiffCheck (b : AlarmBase) (p : Profile) (side : Side) (sum : RiseSum) (rise : Option Int) :
    List Alarm :=
  match rise with
  | none => []
  | some x =>
    let excess := x - roundDiv sum.sum sum.count
    if p.diffMinAxles ≤ sum.count ∧ (p.bearingDiff : Int) ≤ excess then
      [b.alarm .bearingDiff .warning side excess p.bearingDiff]
    else []

/-- R112: the cross check of an axle. -/
def bearingCrossCheck (b : AlarmBase) (p : Profile) (l r : Option Int) : List Alarm :=
  match l, r with
  | some x, some y =>
    let size : Int := (x - y).natAbs
    if (p.bearingCross : Int) ≤ size then
      [b.alarm .bearingCross .warning (if x < y then .r else .l) size p.bearingCross]
    else []
  | _, _ => []

/-- R112: the wheel check. -/
def wheelHotCheck (b : AlarmBase) (p : Profile) (side : Side) (rise : Option Int) : List Alarm :=
  match rise with
  | none => []
  | some x => if (p.hotWheel : Int) ≤ x then [b.alarm .wheelHot .warning side x p.hotWheel] else []

/-- R112: the thermal alarms of an axle in their order. -/
def thermalAlarms (b : AlarmBase) (p : Profile) (sums : PerRail RiseSum)
    (x : PerScanner ThermalResult) : List Alarm :=
  bearingLevelCheck b p .l x.bl.rise ++ bearingDiffCheck b p .l sums.l x.bl.rise ++
  bearingLevelCheck b p .r x.br.rise ++ bearingDiffCheck b p .r sums.r x.br.rise ++
  bearingCrossCheck b p x.bl.rise x.br.rise ++
  wheelHotCheck b p .l x.wl.rise ++ wheelHotCheck b p .r x.wr.rise

/-- R111: a present rise joins the running sum of its side. -/
def RiseSum.add (s : RiseSum) (rise : Option Int) : RiseSum :=
  match rise with
  | none => s
  | some x => ⟨s.sum + x, s.count + 1⟩

/-! ### Commands of the scanner links -/

/-- LINK_MESSAGE_DISCARDED (R94): no effect. -/
def execLinkMessageDiscarded (now : SiteTime) (_link : Fin 8) (s : State) :
    Host.Outcome State Fault Refusal :=
  .next (s.atTime now)

/-- R98: the scanner after a STATUS taken at a site time. -/
def Scanner.takeStatus (x : Scanner) (now : SiteTime) (report : ShutterReport) (housing : Option Int) :
    Scanner :=
  let x := { x with silence := some ⟨now, silenceLimit⟩, housing := housing }
  match report with
  | .closed => { x with view := if x.openingFault then .fault else .closed }
  | .opening => { x with view := if x.openingFault then .fault else .opening }
  | .opened => { x with view := .opened, openingFault := false, openingTimer := none }
  | .closing => { x with view := .closing, openingFault := false, openingTimer := none }
  | .fault => { x with view := .fault, openingTimer := none }

/-- SCANNER_STATUS (R98, R103). -/
def execScannerStatus (now : SiteTime) (link : Fin 8) (report : ShutterReport) (housing : BitVec 16)
    (s : State) : Host.Outcome State Fault Refusal :=
  let s := s.atTime now
  let name := scannerOfLink link
  .next (s.putScanner name.1 name.2
    ((s.scanner name.1 name.2).takeStatus now report (presentHalf housing)))

/-- SCANNER_LINE (R107). -/
def execScannerLine (now : SiteTime) (link : Fin 8) (seqNo : BitVec 8) (pixels : List (BitVec 16))
    (s : State) : Host.Outcome State Fault Refusal :=
  let s := s.atTime now
  let t := (scannerOfLink link).1
  let n := (scannerOfLink link).2
  let x := s.scanner t n
  match x.request with
  | none => .next s
  | some r =>
    if r.seqNo = seqNo then
      let s := s.setScanner t n { x with request := none }
      match s.entry t r.pass r.axle, hottest pixels with
      | some _, some temperature =>
        .next (s.updateEntry t r.axle fun e =>
          { e with scanners := e.scanners.set n ((e.scanners.get n).credit temperature) })
      | _, _ => .next s
    else .next s

/-- SILENCE_TIMER_EXPIRY (R99, R103): the view becomes SILENT and the timer stops until the next
STATUS. -/
def execSilenceTimerExpiry (now : SiteTime) (link : Fin 8) (s : State) :
    Host.Outcome State Fault Refusal :=
  let s := s.atTime now
  let name := scannerOfLink link
  let x := s.scanner name.1 name.2
  if timerDue x.silence now then
    .next (s.putScanner name.1 name.2 { x with view := .silent, silence := none })
  else .next s

/-- OPENING_TIMER_EXPIRY (R101, R103). -/
def execOpeningTimerExpiry (now : SiteTime) (link : Fin 8) (s : State) :
    Host.Outcome State Fault Refusal :=
  let s := s.atTime now
  let name := scannerOfLink link
  let x := s.scanner name.1 name.2
  if timerDue x.openingTimer now then
    .next (s.putScanner name.1 name.2 { x with
      openingTimer := none
      openingFault := true
      view := if x.view = .silent then .silent else .fault })
  else .next s

/-- LINE_TIMER_EXPIRY (R106): the outstanding request ends unanswered. -/
def execLineTimerExpiry (now : SiteTime) (link : Fin 8) (s : State) :
    Host.Outcome State Fault Refusal :=
  let s := s.atTime now
  let name := scannerOfLink link
  let x := s.scanner name.1 name.2
  match x.request with
  | none => .next s
  | some r =>
    if r.timer.due now then .next (s.setScanner name.1 name.2 { x with request := none })
    else .next s

end Sys2Proof.Machine
end

