-- ==== Sys2Proof/Machine/Pacing.lean ====
section
/-! DEFINITION. The distance pacer and the tick assignment (03_distance_pacing_and_axle_windows.md), with
the commands PACER_FIRST_STEP and PACE_TICK. -/

namespace Sys2Proof.Machine

open Sys2Proof

/-! ### The pacer -/

/-- R46: the increment for a speed at a pace spacing. -/
def incrementOf (v paceSpacing : Nat) : BitVec 32 :=
  BitVec.ofNat 32 (roundNat (v * 4294967296) (36000 * paceSpacing))

/-- R47: a speed write: the increment goes into the preload, and into the active increment at once where
the pacer is stopped or fresh; otherwise it waits for the next overflow. -/
def Pacer.write (p : Pacer) (increment : BitVec 32) : Pacer :=
  if p.running && !p.fresh then { p with preload := increment, waiting := true }
  else { p with preload := increment, active := increment, waiting := false }

/-- R48: the pacer starts at a site time. -/
def Pacer.begin_ (p : Pacer) (now : SiteTime) : Pacer :=
  { p with running := true, fresh := true, acc := 0, since := now, active := p.preload, waiting := false }

/-- R48: the pacer stops; its active increment and preload are kept. A stop before the first step also ends
the fresh condition, which nothing reads of a stopped pacer (DESIGN CHOICE, log 37). -/
def Pacer.halt (p : Pacer) : Pacer := { p with running := false, fresh := false, acc := 0, waiting := false }

/-- R48: a start of the pacer where it is stopped; a move between OCCUPIED and CLEARING is no start. -/
def Pacer.ensureRunning (p : Pacer) (now : SiteTime) : Pacer := if p.running then p else p.begin_ now

/-- R45: the pacer after a warm reset. -/
def Pacer.warmReset (p : Pacer) : Pacer :=
  { p with running := false, fresh := false, acc := 0, active := 0, preload := 0, waiting := false }

/-- R49: the number of steps from `since` to the one that reaches or passes 2^32. -/
def Pacer.stepsToOverflow (p : Pacer) : Nat :=
  (4294967296 - p.acc.toNat + p.active.toNat - 1) / p.active.toNat

/-- R49: whether a step that overflows has been made by a site time: the steps since `since` reach
2^32. -/
def Pacer.tickDue (p : Pacer) (now : SiteTime) : Bool :=
  p.running && !p.fresh &&
    decide (4294967296 ≤ p.acc.toNat + interval p.since now * p.active.toNat)

/-- R49: the pacer after the step that overflows: the remainder stays, and a waiting write goes into the
active increment. -/
def Pacer.overflowed (p : Pacer) : Pacer :=
  let k := p.stepsToOverflow
  { p with
    acc := BitVec.ofNat 32 (p.acc.toNat + k * p.active.toNat)
    since := p.since + BitVec.ofNat 32 k
    active := if p.waiting then p.preload else p.active
    waiting := false }

/-- The accumulator at a site time before the next overflow (R49). -/
def Pacer.accAt (p : Pacer) (now : SiteTime) : Nat :=
  p.acc.toNat + interval p.since now * p.active.toNat

/-- R47: the section controller writes a speed to its pacer, with the Δx of the active area. -/
def State.writeSpeed (s : State) (t : TrackId) (v : Nat) : State :=
  s.setPacer t ((s.pacer t).write (incrementOf v (s.area t).paceSpacing))

/-- The pacer of a track started where it is stopped (R48). -/
def State.startPacer (s : State) (t : TrackId) : State :=
  s.setPacer t ((s.pacer t).ensureRunning s.siteTime)

/-- The pacer of a track stopped (R48). -/
def State.stopPacer (s : State) (t : TrackId) : State := s.setPacer t (s.pacer t).halt

/-! ### Positions, regions and gates -/

/-- R26: the entry pair of a direction. -/
def entryEnd : Direction → SectionEnd
  | .pq => .p
  | .qp => .q

/-- R26: the exit pair of a direction. -/
def exitEnd : Direction → SectionEnd
  | .pq => .q
  | .qp => .p

/-- R51: the direction sign. -/
def directionSign : Direction → Int
  | .pq => 1
  | .qp => -1

/-- R51: the position after a number of ticks. -/
def positionAt (a : TrackArea) (d : Direction) (ticks : Int) : Int :=
  a.sensorX (entryEnd d) .inner + directionSign d * ticks * a.paceSpacing

/-- R52: a position lies inside the region of a set bay. -/
def inRegion (slot : BaySlot) (margin : Nat) (x : Int) : Bool :=
  slot.set && decide ((slot.start : Int) + margin ≤ x) && decide (x ≤ (slot.stop : Int) - margin)

/-- R53: a position lies inside the gate of a scanner. -/
def inGate (a : TrackArea) (n : ScannerName) (x : Int) : Bool :=
  decide ((a.scannerX n : Int) - a.gateHalf n ≤ x) && decide (x ≤ (a.scannerX n : Int) + a.gateHalf n)

/-- The entries inside a bay's region (R54). -/
def insideBay (a : TrackArea) (d : Direction) (queue : List AxleEntry) (rail : Rail) (b : Fin 8) :
    List AxleEntry :=
  queue.filter fun e => inRegion (a.bay rail b) a.margin (positionAt a d e.ticks)

/-- The entries inside a scanner's gate (R54). -/
def insideGate (a : TrackArea) (d : Direction) (queue : List AxleEntry) (n : ScannerName) :
    List AxleEntry :=
  queue.filter fun e => inGate a n (positionAt a d e.ticks)

/-- R54: exactly one entry inside is the assigned one. -/
def onlyIndex (inside : List AxleEntry) : Option Nat :=
  match inside with
  | [e] => some e.index
  | _ => none

/-- R54: the bay part of the tick assignment. -/
def bayAssignment (a : TrackArea) (d : Direction) (queue : List AxleEntry) : BayAssignment :=
  ⟨tabulate fun b => onlyIndex (insideBay a d queue .l b),
    tabulate fun b => onlyIndex (insideBay a d queue .r b)⟩

/-- R55: two or more entries share a bay's region, and this one is among them. -/
def sharesBay (a : TrackArea) (d : Direction) (queue : List AxleEntry) (e : AxleEntry) (rail : Rail)
    (b : Fin 8) : Bool :=
  decide (2 ≤ (insideBay a d queue rail b).length) &&
    inRegion (a.bay rail b) a.margin (positionAt a d e.ticks)

/-- R55: an entry with its overlap marks and flag after a tick. -/
def AxleEntry.markOverlaps (e : AxleEntry) (shares : Rail → Fin 8 → Bool) : AxleEntry :=
  let mark := fun rail b =>
    let acc := bayGet e.bays rail b
    { acc with overlap := acc.overlap || shares rail b }
  { e with
    bays := ⟨tabulate fun b => mark .l b, tabulate fun b => mark .r b⟩
    flags := { e.flags with
      overlap := e.flags.overlap || allBays.any fun x => shares x.1 x.2 } }

/-- Whether an assignment names an entry (R56). -/
def BayAssignment.any (x : BayAssignment) : Bool := allBays.any fun y => (bayGet x y.1 y.2).isSome

/-- R50, R54 to R56: a pace tick taken by the section controller with its open pass. -/
def State.takeTick (s : State) (t : TrackId) (c : PassContext) : State :=
  let area := s.area t
  let moved := (s.section t).queue.map fun e => { e with ticks := e.ticks + 1 }
  let queue := moved.map fun e => e.markOverlaps (sharesBay area c.direction moved e)
  let s := s.setSection t { s.section t with
    queue := queue
    ctx := some { c with tickTotal := c.tickTotal + 1 } }
  let bays := bayAssignment area c.direction queue
  let s := if BayAssignment.any bays then s.requestScan t (.pace c.number bays) else s
  scannerNames.foldl (fun s n =>
    match onlyIndex (insideGate area c.direction queue n) with
    | none => s
    | some index => s.askScanner t c.number n index) s

/-- R58: an entry whose position lies inside at least one bay region. -/
def insideAnyBay (a : TrackArea) (d : Direction) (e : AxleEntry) : Bool :=
  allBays.any fun x => inRegion (a.bay x.1 x.2) a.margin (positionAt a d e.ticks)

/-- R58: on entering STANDING each entry inside a bay region receives STANDSTILL. -/
def flagStandstill (a : TrackArea) (d : Direction) (queue : List AxleEntry) : List AxleEntry :=
  queue.map fun e =>
    if insideAnyBay a d e then { e with flags := { e.flags with standstill := true } } else e

/-! ### Commands -/

/-- PACER_FIRST_STEP (R48): one microsecond after the start the first step is made, which clears the
fresh condition. -/
def execPacerFirstStep (now : SiteTime) (t : TrackId) (s : State) : Host.Outcome State Fault Refusal :=
  let s := s.atTime now
  let p := s.pacer t
  if p.running && p.fresh && decide (1 ≤ interval p.since now) then
    .next (s.setPacer t { p with fresh := false, acc := p.acc + p.active, since := p.since + 1 })
  else .next s

/-- PACE_TICK (R49, R50): a step that overflows makes a tick; the section controller takes it while it
has an open pass and its pacer runs. -/
def execPaceTick (now : SiteTime) (t : TrackId) (s : State) : Host.Outcome State Fault Refusal :=
  let s := s.atTime now
  let p := s.pacer t
  if p.tickDue now then
    let s := s.setPacer t p.overflowed
    match s.ctx t with
    | none => .next s
    | some c => .next (s.takeTick t c)
  else .next s

end Sys2Proof.Machine
end

