-- ==== Sys2Proof/Machine/Promotion.lean ====
section
/-! DEFINITION. Promotion of pending configuration areas (R186) and what each block does with a promoted
image (R4, R10, R23, R43, R66, R67, R70, R73, R74, R76, R157). -/

namespace Sys2Proof.Machine

open Sys2Proof

/-- R4, R23: a filter restarts with the present raw level as its filtered level and no pending change. -/
def InputFilter.restart (f : InputFilter) : InputFilter :=
  { f with level := f.raw, pendingSince := none }

/-- R4: a wheel sensor at a filter restart. A HELD sensor that is still high stays HELD with its
occupancy start; one that is low leaves HELD; any other high sensor starts an occupancy interval. -/
def Sensor.restart (x : Sensor) (now : SiteTime) : Sensor :=
  let f := x.filter.restart
  if x.held && f.level then { x with filter := f }
  else { x with filter := f, held := false, occupiedSince := if f.level then some now else none }

/-- R4: a sensor leaves HELD at a filter restart. -/
def Sensor.leavesHeld (x : Sensor) : Bool := x.held && !x.filter.raw

/-- The four sensors of a track restarted. -/
def restartSensors (x : PerEnd (PerRole Sensor)) (now : SiteTime) : PerEnd (PerRole Sensor) :=
  ⟨⟨x.p.outer.restart now, x.p.inner.restart now⟩, ⟨x.q.outer.restart now, x.q.inner.restart now⟩⟩

/-- The four inputs of a track in order. -/
def trackInputs (t : TrackId) : List (Fin 8) :=
  match t with
  | .t1 => [0, 1, 2, 3]
  | .t2 => [4, 5, 6, 7]

/-- The wheel sensor of an input. -/
def State.inputSensor (s : State) (i : Fin 8) : Sensor :=
  s.sensor (sensorOfInput i).1 (sensorOfInput i).2.1 (sensorOfInput i).2.2

/-- R8: the FAULT_CHANGED notices of the sensors that leave HELD at a filter restart. -/
def State.heldNotices (s : State) (t : TrackId) : List NoticeBody :=
  ((trackInputs t).filter fun i => (s.inputSensor i).leavesHeld).map fun i =>
    .faultChanged (.held i) 0

/-- R4, R10, R23: the filters and pair machines of a track restart. -/
def State.restartFilters (s : State) (t : TrackId) : State :=
  let s := { s with
    sensors := s.sensors.set t (restartSensors (s.sensors.get t) s.siteTime)
    pairs := s.pairs.set t resetPairs }
  s.setSection t { s.section t with
    approach := ⟨(s.section t).approach.p.restart, (s.section t).approach.q.restart⟩ }

/-- R70: the zero timer of a track starts with the zero interval of its active area. -/
def State.startZeroTimer (s : State) (t : TrackId) : State :=
  { s with strain := { s.strain with
      zeroTimers := s.strain.zeroTimers.set t (s.startTimer (s.area t).zeroInterval) } }

/-- R70: the zero timer of a track stops. -/
def State.stopZeroTimer (s : State) (t : TrackId) : State :=
  { s with strain := { s.strain with zeroTimers := s.strain.zeroTimers.set t none } }

/-- R43: an UNCONFIGURED track whose area is promoted goes to IDLE with count 0 and its timers stopped,
and its zero timer starts (R70); a track at rest keeps its state. -/
def State.configureTrack (s : State) (t : TrackId) : State :=
  let c := s.section t
  if c.state = .unconfigured then
    (s.setSection t { c with
      state := .idle, count := 0, approachTimer := none, holdTimer := none, clearTimer := none,
      quietTimer := none, closeDelay := none }).startZeroTimer t
  else s

/-- R186, steps 1 and 2, for one area. -/
def AreaStore.install {α : Type} (x : AreaStore α) (image : α) (generation : Nat) : AreaStore α :=
  { x with active := image, activeGeneration := generation, committed := none }

/-- R186: a track area may promote while its track is at rest. -/
def TrackState.atRest : TrackState → Bool
  | .unconfigured => true
  | .outOfService => true
  | .idle => true
  | .approach => false
  | .occupied => false
  | .standing => false
  | .clearing => false
  | .draining => false

/-- R186: the promotion of a track area. -/
def State.promoteTrack (s : State) (t : TrackId) (image : TrackArea) (generation : Nat) : State :=
  let before := s.area t
  let driftedBefore := s.strain.drifted.get t
  let held := s.heldNotices t
  let s := { s with config := { s.config with
    tracks := s.config.tracks.set t ((s.config.tracks.get t).install image generation) } }
  let s := ((s.configureTrack t).restartFilters t).realign t before
  let s := s.notifyTogether [held] (driftNotices t image driftedBefore (s.strain.drifted.get t))
  s.notify (.configPromoted (.track t) generation)

/-! ### A COMMIT and an event of one site time (R187) -/

/-- R24, R71: a track in IDLE or APPROACH waits for a train. -/
def TrackState.waits : TrackState → Bool
  | .unconfigured => false
  | .outOfService => false
  | .idle => true
  | .approach => true
  | .occupied => false
  | .standing => false
  | .clearing => false
  | .draining => false

/-- R187: what a COMMIT of the present site time has kept of a track that is still IDLE or in APPROACH. -/
def State.coinciding (s : State) (t : TrackId) : Option Coinciding :=
  match (s.section t).coinciding with
  | none => none
  | some x =>
    if decide (x.time = s.siteTime) && (s.section t).state.waits then some x else none

/-- The state with what a COMMIT of the present site time has kept of a track changed. -/
def State.changeCoinciding (s : State) (t : TrackId) (f : Coinciding → Coinciding) : State :=
  match s.coinciding t with
  | none => s
  | some x => s.setSection t { s.section t with coinciding := some (f x) }

/-- The filters of the four sensors of a track. -/
def filtersOf (x : PerEnd (PerRole Sensor)) : PerEnd (PerRole InputFilter) :=
  ⟨⟨x.p.outer.filter, x.p.inner.filter⟩, ⟨x.q.outer.filter, x.q.inner.filter⟩⟩

/-- R67: the bay samples of a scan of a track are in progress and still handled. -/
def StrainUnit.handling (u : StrainUnit) (t : TrackId) : Bool :=
  match u.scan with
  | none => false
  | some x => decide (x.track = t) && !x.promotedSince

/-- R187: what a COMMIT keeps of a track before it promotes its area. -/
def State.beforePromotion (s : State) (t : TrackId) : Coinciding where
  time := s.siteTime
  area := s.area t
  filters := filtersOf (s.sensors.get t)
  pairs := s.pairs.get t
  approach := (s.section t).approach
  zeros := s.strain.zeros.get t
  scanned := s.strain.handling t

/-- R187: a COMMIT that is about to promote the area of an IDLE track keeps what events of the same site time
are judged by; the first COMMIT of a site time keeps it for all. -/
def State.keepCoinciding (s : State) (t : TrackId) : State :=
  if (s.config.tracks.get t).committed.isSome ∧ (s.section t).state = .idle ∧ s.coinciding t = none then
    s.setSection t { s.section t with coinciding := some (s.beforePromotion t) }
  else s

/-- R186: a pending track area is promoted if its track is at rest. -/
def State.promoteTrackIfReady (s : State) (t : TrackId) : State :=
  match (s.config.tracks.get t).committed with
  | none => s
  | some x => if (s.section t).state.atRest then s.promoteTrack t x.1 x.2 else s

/-- R186: no pass is open on either track. -/
def State.noOpenPass (s : State) : Bool := (s.ctx .t1).isNone && (s.ctx .t2).isNone

/-- R186: the promotion of the site area; the alarm unit takes the new table and times as they are
(R157). -/
def State.promoteSite (s : State) (image : SiteArea) (generation : Nat) : State :=
  let before := s.siteArea
  let s := { s with
    config := { s.config with site := s.config.site.install image generation }
    strain := s.strain.takeSite before image }
  s.notify (.configPromoted .site generation)

/-- R186: a pending site area is promoted if no pass is open. -/
def State.promoteSiteIfReady (s : State) : State :=
  match s.config.site.committed with
  | none => s
  | some x => if s.noOpenPass then s.promoteSite x.1 x.2 else s

/-- R184, R188: every pending area that may promote is promoted, in the order SITE, TRACK 1, TRACK 2. -/
def State.promoteReady (s : State) : State :=
  (s.promoteSiteIfReady.promoteTrackIfReady .t1).promoteTrackIfReady .t2

end Sys2Proof.Machine
end

