-- ==== Sys2Proof/Machine/Approach.lean ====
section
/-! DEFINITION. The approach inputs and the waking of a track (R23, R24, R25), with their commands. -/

namespace Sys2Proof.Machine

open Sys2Proof

/-- The debounce time of an approach input in µs (R23). -/
def approachDebounce : Nat := 1000

/-- What stops as a track leaves IDLE: the zero timer (R70), a waiting ZERO request (R66), and the close
delay (R25). -/
def State.leaveIdle (s : State) (t : TrackId) : State :=
  let s := (s.stopZeroTimer t).withdrawZero t
  s.setSection t { s.section t with closeDelay := none }

/-- R102: the close delay of an IDLE track that is woken, or on which a pass opens, at the very site time
at which the delay ends: the two requests come together, and the close request may be taken second
(log 40). -/
def State.keepLateClose (s : State) (t : TrackId) : State :=
  s.setSection t { s.section t with
    lateClose := if timerDue (s.section t).closeDelay s.siteTime then some s.siteTime else none }

/-- R23, R24: an approach edge or a load wake taken by the section controller. -/
def State.wakeTrack (s : State) (t : TrackId) : State :=
  let timer := s.startTimer (s.area t).approachTimeout
  match (s.section t).state with
  | .idle =>
    let s := (s.keepLateClose t).leaveIdle t
    (s.setSection t { s.section t with state := .approach, approachTimer := timer }).openShutters t
  | .approach => s.setSection t { s.section t with approachTimer := timer }
  | .unconfigured => s
  | .outOfService => s
  | .occupied => s
  | .standing => s
  | .clearing => s
  | .draining => s

/-- R3: a raw change of a filtered input: away from the filtered level it becomes the pending change, back
to it it cancels the pending change. -/
def InputFilter.rawChange (f : InputFilter) (level : Bool) (now : SiteTime) : InputFilter :=
  if level = f.raw then f
  else if level = f.level then { f with raw := level, pendingSince := none }
  else { f with raw := level, pendingSince := some now }

/-- R3: the pending change has persisted for a time and is to the given level. -/
def InputFilter.confirms (f : InputFilter) (level : Bool) (time : Nat) (now : SiteTime) : Bool :=
  match f.pendingSince with
  | none => false
  | some stamp => decide (f.level = !level) && decide (time ≤ interval stamp now)

/-- R3: a pending change confirmed. -/
def InputFilter.confirm (f : InputFilter) : InputFilter :=
  { f with level := !f.level, pendingSince := none }

/-- An approach input of a track. -/
def State.approachInput (s : State) (t : TrackId) (e : SectionEnd) : InputFilter :=
  (s.section t).approach.get e

/-- The state with an approach input replaced. -/
def State.setApproachInput (s : State) (t : TrackId) (e : SectionEnd) (f : InputFilter) : State :=
  s.setSection t { s.section t with approach := (s.section t).approach.set e f }

/-- R187: an approach input as a COMMIT of the present site time has kept it changed. -/
def State.changeApproachBefore (s : State) (t : TrackId) (e : SectionEnd) (g : InputFilter → InputFilter) :
    State :=
  s.changeCoinciding t fun x => { x with approach := x.approach.set e (g (x.approach.get e)) }

/-- R187: an approach input as a COMMIT of the present site time has kept it confirms a change to active. -/
def State.edgeBefore (s : State) (t : TrackId) (e : SectionEnd) : Bool :=
  match s.coinciding t with
  | none => false
  | some x => (x.approach.get e).confirms true approachDebounce s.siteTime

/-- APPROACH_INPUT_CHANGE (R23): the filters of an UNCONFIGURED track do not run. -/
def execApproachInputChange (now : SiteTime) (t : TrackId) (e : SectionEnd) (level : Bool) (s : State) :
    Host.Outcome State Fault Refusal :=
  let s := s.atTime now
  let f := s.approachInput t e
  if s.configured t then
    .next ((s.setApproachInput t e (f.rawChange level now)).changeApproachBefore t e fun g =>
      g.rawChange level now)
  else .next (s.setApproachInput t e { f with raw := level })

/-- APPROACH_EDGE (R23): a pending change to active has persisted for 1,000 µs. R187: where a COMMIT of the
same site time has restarted the filter in which it had, the track is woken all the same. -/
def execApproachEdge (now : SiteTime) (t : TrackId) (e : SectionEnd) (s : State) :
    Host.Outcome State Fault Refusal :=
  let s := s.atTime now
  let f := s.approachInput t e
  if f.confirms true approachDebounce now then
    .next ((s.setApproachInput t e f.confirm).wakeTrack t)
  else if s.edgeBefore t e then
    .next ((s.changeApproachBefore t e InputFilter.confirm).wakeTrack t)
  else .next s

/-- APPROACH_INPUT_INACTIVE (R23): a pending change to inactive has persisted for 1,000 µs; no effect
follows. -/
def execApproachInputInactive (now : SiteTime) (t : TrackId) (e : SectionEnd) (s : State) :
    Host.Outcome State Fault Refusal :=
  let s := s.atTime now
  let f := s.approachInput t e
  if f.confirms false approachDebounce now then .next (s.setApproachInput t e f.confirm)
  else .next s

end Sys2Proof.Machine
end

