-- ==== Sys2Proof/Machine/Alarms.lean ====
section
/-! DEFINITION. The alarm unit (09_alarms_and_output_lines.md): taking an alarm, routing it, driving the
lines, acknowledgement, and the two line timers. -/

namespace Sys2Proof.Machine

open Sys2Proof

/-- The longest alarm list (R143). -/
def alarmCapacity : Nat := 256

/-- The number that stands for no number (R144). -/
def absentAlarmNumber : Nat := 4294967295

/-- A compared field of a routing entry agrees with the alarm's own value (R147). -/
def compares (field : Option Nat) (value : Nat) : Bool :=
  match field with
  | none => true
  | some v => decide (v = value)

/-- R147: an alarm matches a routing entry. -/
def RoutingEntry.matchesAlarm (e : RoutingEntry) (a : Alarm) : Bool :=
  e.enabled && decide (e.minLevel ≤ a.level.code) && compares e.kind a.kind.code &&
    compares e.track (trackNumber a.track) && compares e.side a.side.code &&
    compares e.direction a.direction.code

/-- R147, R148: the lines and modes an alarm is driven to: those of every matching entry, or the
default line's where no enabled entry matches. -/
def SiteArea.routes (site : SiteArea) (a : Alarm) : List (Fin 8 × LineMode) :=
  let hits := site.routingTable.filter fun e => e.matchesAlarm a
  if hits.isEmpty then
    match site.defaultLine with
    | none => []
    | some target => [target]
  else hits.map fun e => (e.line, e.mode)

/-- Whether a line is reached in a mode. -/
def reached (targets : List (Fin 8 × LineMode)) (line : Fin 8) (m : LineMode) : Bool :=
  targets.any fun x => decide (x = (line, m))

/-- R145: the list after an offer, and whether the record was stored. -/
def offer (list : List AlarmRecord) (r : AlarmRecord) : List AlarmRecord × Bool :=
  if list.length < alarmCapacity then (list ++ [r], true)
  else
    match list.findIdx? fun x => x.acknowledged.isSome with
    | some i => (list.eraseIdx i ++ [r], true)
    | none => (list, false)

/-- R151: a pulse asked on a line. -/
def OutputLine.askPulse (l : OutputLine) (now : SiteTime) (pulseTime : Nat) : OutputLine :=
  match l.phase with
  | .idle => { l with phase := .pulse ⟨now, pulseTime⟩ }
  | .pulse _ => { l with pendingPulse := true }
  | .recovery _ => { l with pendingPulse := true }

/-- R149: a holder joins a follow-holder set, which holds it once. -/
def OutputLine.addFollower (l : OutputLine) (h : Holder) : OutputLine :=
  if l.followers.contains h then l else { l with followers := l.followers ++ [h] }

/-- R149: one line driven by an alarm. `holder` is the alarm as a follow holder, none where the list
refused it; `passOpen` says whether the alarm's pass is the track's open pass. -/
def OutputLine.drive (l : OutputLine) (latch pulse follow : Bool) (holder : Option Holder)
    (passOpen : Bool) (now : SiteTime) (pulseTime : Nat) : OutputLine :=
  match holder with
  | none => if latch || pulse || follow then l.askPulse now pulseTime else l
  | some h =>
    let pulsed := if pulse || (follow && !passOpen) then l.askPulse now pulseTime else l
    if follow && passOpen then pulsed.addFollower h else pulsed

/-- A line of the alarm unit. -/
def AlarmUnit.line (u : AlarmUnit) (i : Fin 8) : OutputLine := u.lines.get i

/-- The alarm unit with a line replaced. -/
def AlarmUnit.setLine (u : AlarmUnit) (i : Fin 8) (l : OutputLine) : AlarmUnit :=
  { u with lines := u.lines.set i l }

/-- R149: every line an alarm reaches driven in each of its modes. -/
def AlarmUnit.driveLines (u : AlarmUnit) (site : SiteArea) (now : SiteTime)
    (targets : List (Fin 8 × LineMode)) (holder : Option Holder) (passOpen : Bool) : AlarmUnit :=
  eight.foldl (fun u i =>
    u.setLine i ((u.line i).drive (reached targets i .latch) (reached targets i .pulse)
      (reached targets i .follow) holder passOpen now (site.pulseTime i))) u

/-- R144: the number the next alarm takes, or none once 4,294,967,294 has been given. -/
def AlarmUnit.takeNumber (u : AlarmUnit) : Option Nat :=
  if u.next < absentAlarmNumber then some u.next else none

/-- R145, the last row: the list has no room and no record that an offer may remove. -/
def listExhausted (list : List AlarmRecord) : Bool :=
  decide (alarmCapacity ≤ list.length) && list.all fun r => r.acknowledged.isNone

/-- R144: an alarm taken by the alarm unit: numbered and stamped, offered to the list, counted in its
pass's header, routed to its lines, and announced. One that no number is left for is refused by a list of
any length, and sets LIST_FULL where the list would have refused it anyway (R145, log 19). -/
def State.raise (s : State) (a : Alarm) : State :=
  let u := s.alarms
  let targets := s.siteArea.routes a
  let latched := eight.filter fun i => reached targets i .latch
  let passOpen := decide (u.openPass.get a.track = some a.pass)
  let announce := fun (s : State) (number : Option Nat) (stored : Bool) =>
    (s.updatePass a.track a.pass fun p => { p with alarmCount := p.alarmCount + 1 }).notify
      (.alarmRaised number a.kind a.level (!stored))
  match u.takeNumber with
  | none =>
    let u := { u with listFull := u.listFull || listExhausted u.list }
    announce { s with alarms := u.driveLines s.siteArea s.siteTime targets none passOpen } none false
  | some number =>
    let offered := offer u.list ⟨number, a, s.siteTime, s.stationTime, latched, none⟩
    let holder := if offered.2 then some ⟨a.track, a.pass, number⟩ else none
    let u := { u with
      list := offered.1, next := u.next + 1, listFull := u.listFull || !offered.2 }
    announce { s with alarms := u.driveLines s.siteArea s.siteTime targets holder passOpen }
      (some number) offered.2

/-- Alarms raised one after another. -/
def State.raiseAll (s : State) (alarms : List Alarm) : State := alarms.foldl State.raise s

/-- R150: an unacknowledged record latches a line. -/
def AlarmRecord.holds (r : AlarmRecord) (i : Fin 8) : Bool :=
  r.acknowledged.isNone && r.latched.contains i

/-- R150: a line is active while it has a latch holder, a follow holder, or a pulse in phase PULSE. -/
def AlarmUnit.active (u : AlarmUnit) (i : Fin 8) : Bool :=
  u.list.any (fun r => r.holds i) || !(u.line i).followers.isEmpty ||
    match (u.line i).phase with
    | .pulse _ => true
    | .idle => false
    | .recovery _ => false

/-- R152: a pass's close begins: its track has no open pass, and its alarms leave every follow-holder
set. -/
def AlarmUnit.closeBegins (u : AlarmUnit) (t : TrackId) (pass : Nat) : AlarmUnit :=
  { u with
    openPass := u.openPass.set t none
    lines := ⟨⟨u.lines.toList.map fun l =>
      { l with followers := l.followers.filter fun h => !(decide (h.track = t ∧ h.pass = pass)) }⟩,
      by simp⟩ }

/-- R143: the section controller tells of a pass opening. -/
def AlarmUnit.passOpens (u : AlarmUnit) (t : TrackId) (pass : Nat) : AlarmUnit :=
  { u with openPass := u.openPass.set t (some pass) }

/-- R158: what a warm reset leaves of the alarm unit, after the alarms of the reset's closes. -/
def AlarmUnit.warmReset (u : AlarmUnit) : AlarmUnit :=
  { u with openPass := ⟨none, none⟩, lines := .replicate 8 .reset }

/-- R153: the record with a number acknowledged by a port. -/
def acknowledge (list : List AlarmRecord) (number : Nat) (by_ : Port) : List AlarmRecord :=
  list.map fun r => if r.number = number then { r with acknowledged := some by_ } else r

/-- R155: the list without its acknowledged records. -/
def withoutAcknowledged (list : List AlarmRecord) : List AlarmRecord :=
  list.filter fun r => r.acknowledged.isNone

/-- R151: the recovery timer of a line has expired. -/
def OutputLine.recovered (l : OutputLine) (now : SiteTime) (pulseTime : Nat) : OutputLine :=
  if l.pendingPulse then { l with phase := .pulse ⟨now, pulseTime⟩, pendingPulse := false }
  else { l with phase := .idle }

/-- R151: the pulse timer of a line has expired: RECOVERY, which a recovery time of 0 ends as it
starts. -/
def OutputLine.pulseEnded (l : OutputLine) (now : SiteTime) (pulseTime recoveryTime : Nat) :
    OutputLine :=
  if recoveryTime = 0 then OutputLine.recovered l now pulseTime
  else { l with phase := .recovery ⟨now, recoveryTime⟩ }

/-- PULSE_TIMER_EXPIRY (R151). -/
def execPulseTimerExpiry (now : SiteTime) (line : Fin 8) (s : State) :
    Host.Outcome State Fault Refusal :=
  let s := s.atTime now
  match (s.alarms.line line).phase with
  | .pulse timer =>
    if timer.due now then
      .next { s with alarms := s.alarms.setLine line ((s.alarms.line line).pulseEnded now
        (s.siteArea.pulseTime line) (s.siteArea.recoveryTime line)) }
    else .next s
  | .idle => .next s
  | .recovery _ => .next s

/-- RECOVERY_TIMER_EXPIRY (R151). -/
def execRecoveryTimerExpiry (now : SiteTime) (line : Fin 8) (s : State) :
    Host.Outcome State Fault Refusal :=
  let s := s.atTime now
  match (s.alarms.line line).phase with
  | .recovery timer =>
    if timer.due now then
      .next { s with alarms := s.alarms.setLine line ((s.alarms.line line).recovered now
        (s.siteArea.pulseTime line)) }
    else .next s
  | .idle => .next s
  | .pulse _ => .next s

end Sys2Proof.Machine
end

