-- ==== Sys2Proof/Machine/Vehicles.lean ====
section
/-! DEFINITION. The vehicle recognition unit (07_vehicle_recognition.md): spacings, judging types,
matching while a pass is open and at its close, and completing vehicles. -/

namespace Sys2Proof.Machine

open Sys2Proof

/-- The spacing limit in µs (R113). -/
def spacingLimit : Nat := 600000000

/-- R114: the spacing of an axle of speed v after an interval in µs. -/
def spacingOf (v elapsed : Nat) (limitPassed : Bool) : Nat :=
  if limitPassed then 65534 else min (roundNat (v * elapsed) 36000) 65534

/-! ### Judging a type (R117) -/

/-- A spacing lies within s ± t, both limits included; t = 0 means it is not compared. -/
def spacingFits (expected : Nat × Nat) (spacing : Option Nat) : Bool :=
  if expected.2 = 0 then true
  else
    match spacing with
    | none => false
    | some d => decide (expected.1 ≤ d + expected.2) && decide (d ≤ expected.1 + expected.2)

/-- Every spacing fits the pattern. -/
def patternFits (pattern : List (Nat × Nat)) (spacings : List (Option Nat)) : Bool :=
  decide (pattern.length ≤ spacings.length) &&
    (pattern.zip spacings).all fun x => spacingFits x.1 x.2

/-- The spacings s1 to s(n−1) of a type of n axles (R116). -/
def VehicleType.pattern (vt : VehicleType) : List (Nat × Nat) := vt.spacings.take (vt.axles - 1)

/-- The spacings of axles c + 1 to c + n − 1, the waiting list beginning at axle c. -/
def innerSpacings (waiting : List WaitingAxle) (n : Nat) : List (Option Nat) :=
  ((waiting.drop 1).take (n - 1)).map fun a => a.spacing

/-- R117, step 3: the after-gap; where axle c + n is not stored it is taken as met, which only the
closing match asks for (R120). -/
def VehicleType.gapHolds (vt : VehicleType) (waiting : List WaitingAxle) : Bool :=
  if vt.afterGap = 0 then true
  else
    match waiting[vt.axles]? with
    | none => true
    | some a =>
      match a.spacing with
      | none => false
      | some d => decide (vt.afterGap ≤ d)

/-- R117: the orientation in which a type matches the axles from the cursor, or none. -/
def VehicleType.judge (vt : VehicleType) (waiting : List WaitingAxle) : Option Orientation :=
  let spacings := innerSpacings waiting vt.axles
  if vt.gapHolds waiting then
    if patternFits vt.pattern spacings then some .forward
    else if vt.either && patternFits vt.pattern.reverse spacings then some .reversed
    else none
  else none

/-- R118: a type is evaluable when axles c to c + n − 1 are stored and, where its g is not 0, axle c + n
too. -/
def VehicleType.evaluable (vt : VehicleType) (waiting : List WaitingAxle) : Bool :=
  decide (vt.axles ≤ waiting.length) &&
    (decide (vt.afterGap = 0) || decide (vt.axles + 1 ≤ waiting.length))

/-- What one look at the type table comes to. -/
inductive Decision where
  | wait
  | make (vt : VehicleType) (orientation : Orientation)
  | unclassified
  deriving DecidableEq, Repr

/-- R118: the enabled types tried in table order while the pass is open. -/
def decideOpen (waiting : List WaitingAxle) : List VehicleType → Decision
  | [] => .unclassified
  | vt :: rest =>
    if vt.enabled then
      if vt.evaluable waiting then
        match vt.judge waiting with
        | some o => .make vt o
        | none => decideOpen waiting rest
      else .wait
    else decideOpen waiting rest

/-- R120: the enabled types tried in table order at the closing match. -/
def decideClosing (waiting : List WaitingAxle) : List VehicleType → Decision
  | [] => .unclassified
  | vt :: rest =>
    if vt.enabled && decide (vt.axles ≤ waiting.length) then
      match vt.judge waiting with
      | some o => .make vt o
      | none => decideClosing waiting rest
    else decideClosing waiting rest

/-! ### Vehicle records -/

/-- R124: the sum of the axle loads, absent when any is absent. -/
def sumLoads : List AxleRecord → Option Nat
  | [] => some 0
  | a :: rest =>
    match a.axleLoad, sumLoads rest with
    | some x, some y => some (x + y)
    | _, _ => none

/-- R124: the gross weight of a vehicle from its axles' records. -/
def HeldPass.grossOf (p : HeldPass) (v : VehicleRecord) : Option Nat :=
  sumLoads (p.axles.filter fun a =>
    decide (v.firstAxle ≤ a.index) && decide (a.index < v.firstAxle + v.axles))

/-- R124: the overload check; the gross weight that raises VEHICLE_OVERLOAD, if it does. -/
def overload (gross : Option Nat) (limit : Nat) : Option Nat :=
  match gross with
  | none => none
  | some g => if limit ≠ 0 ∧ limit < g then some g else none

/-- R124: a vehicle becomes FINAL, its gross weight is written and the overload check is made. -/
def State.completeVehicle (s : State) (t : TrackId) (n index : Nat) : State :=
  match s.store.ofTrack t n, s.vehicleRecord t n index with
  | some p, some v =>
    let gross := p.grossOf v
    match overload gross v.grossLimit with
    | none => s.updateVehicle t n index fun v => { v with final := true, gross := gross }
    | some g =>
      (s.updateVehicle t n index fun v => { v with final := true, gross := gross, worst := .alarm }).raise
        { kind := .vehicleOverload, level := .alarm, track := t, direction := p.direction,
          pass := n, axle := v.firstAxle, vehicle := some index, side := .none,
          value := g, threshold := v.grossLimit }
  | _, _ => s

/-- What a vehicle is made of (R119, R121): its axle count, type code, class, orientation, gross limit,
and the after-gap of its type. -/
structure VehicleShape where
  axles : Nat
  code : Nat
  classCode : Nat
  orientation : Orientation
  grossLimit : Nat
  afterGap : Nat
  deriving DecidableEq, Repr

/-- R119: an UNCLASSIFIED vehicle of one axle: code 0, class OTHER, orientation NONE, no gross limit. -/
def VehicleShape.unclassified : VehicleShape := ⟨1, 0, 3, .none, 0, 0⟩

/-- The shape of a vehicle of a type. -/
def VehicleShape.ofType (vt : VehicleType) (o : Orientation) : VehicleShape :=
  ⟨vt.axles, vt.code, vt.classCode, o, vt.grossLimit, vt.afterGap⟩

/-- R121: the record of a vehicle made at the cursor. DEGRADED_SPACING also looks at axle c + n where
the after-gap was compared; GAP_ASSUMED is set where it was taken as met for want of that axle. -/
def MatchContext.newVehicle (m : MatchContext) (shape : VehicleShape) : VehicleRecord where
  index := m.nextVehicle
  firstAxle := m.cursor
  axles := shape.axles
  code := shape.code
  classCode := shape.classCode
  orientation := shape.orientation
  final := false
  worst := (m.waiting.take shape.axles).foldl (fun l a => l.higher a.level) .none
  gross := none
  degradedSpacing :=
    (m.waiting.take shape.axles).any (fun a => a.degraded) ||
      (decide (shape.afterGap ≠ 0) &&
        ((m.waiting.drop shape.axles).take 1).any fun a => a.degraded)
  gapAssumed := decide (shape.afterGap ≠ 0) && decide (m.waiting.length ≤ shape.axles)
  axleAbandoned := (m.waiting.take shape.axles).any fun a => decide (a.outcome = .abandoned)
  grossLimit := shape.grossLimit

/-- R121: the context after a vehicle of n axles has been made. -/
def MatchContext.advance (m : MatchContext) (n : Nat) : MatchContext :=
  { m with cursor := m.cursor + n, waiting := m.waiting.drop n, nextVehicle := m.nextVehicle + 1 }

/-- R122: recording stops for the pass. -/
def MatchContext.stop (m : MatchContext) : MatchContext :=
  { m with recording := false, waiting := [] }

/-- R121, R122: a vehicle made at the cursor, or recording stopped where the store refuses the record. -/
def State.makeVehicle (s : State) (t : TrackId) (m : MatchContext) (shape : VehicleShape) : State :=
  let asked := s.requestVehicle t m.pass
  let s := asked.1
  if asked.2 then
    let v := m.newVehicle shape
    let s := s.updatePass t m.pass fun p =>
      { p with
        vehicles := p.vehicles ++ [v]
        axles := p.axles.map fun a =>
          if v.firstAxle ≤ a.index ∧ a.index < v.firstAxle + v.axles then
            { a with vehicle := some v.index }
          else a }
    let s := s.setContext t (some (m.advance shape.axles))
    if v.firstAxle + v.axles ≤ m.finishMark + 1 then s.completeVehicle t m.pass v.index else s
  else
    (s.flagPass t m.pass fun f => { f with vehiclesTruncated := true }).setContext t (some m.stop)

/-- R118, R120: attempts from the cursor until one waits, the waiting list is empty or recording stops.
`fuel` bounds their number by the length of the waiting list. -/
def State.attempts (look : List WaitingAxle → List VehicleType → Decision) (t : TrackId) :
    Nat → State → State
  | 0, s => s
  | fuel + 1, s =>
    match s.context t with
    | none => s
    | some m =>
      if m.recording && !m.waiting.isEmpty then
        match look m.waiting s.siteArea.vehicleTypes with
        | .wait => s
        | .make vt o =>
          State.attempts look t fuel (s.makeVehicle t m (.ofType vt o))
        | .unclassified =>
          State.attempts look t fuel (s.makeVehicle t m .unclassified)
      else s

/-- R113: the matching context formed at axle 1 of a pass. -/
def MatchContext.form (pass : Nat) (entryTime : SiteTime) : MatchContext :=
  ⟨pass, 1, 0, entryTime, false, [], 0, 1, true⟩

/-- R114: the context once an axle of entry time t has been told. -/
def MatchContext.toldOf (m : MatchContext) (entryTime : SiteTime) : MatchContext :=
  { m with previous := entryTime, limitPassed := false }

/-- R115: an axle with a stored record joins the tail of the waiting list. -/
def MatchContext.join (m : MatchContext) (e : AxleEntry) (spacing : Option Nat) : MatchContext :=
  { m with
    stored := m.stored + 1
    waiting := m.waiting ++ [⟨e.index, spacing, e.flags.degradedTiming, .neither, .none⟩] }

/-- R115: the unit is told of an axle counted in; `stored` says whether it has a stored record. -/
def State.tellCounted (s : State) (t : TrackId) (pass : Nat) (e : AxleEntry) (stored : Bool) : State :=
  let before := if e.index = 1 then some (MatchContext.form pass e.entryTime) else s.context t
  match before with
  | none => s
  | some m =>
    let spacing :=
      if e.index = 1 then none
      else some (spacingOf e.v (interval m.previous e.entryTime) m.limitPassed)
    let m := m.toldOf e.entryTime
    if stored then
      let s := s.updateAxle t pass e.index fun a => { a with spacing := spacing }
      if m.recording then
        let m := m.join e spacing
        (s.setContext t (some m)).attempts decideOpen t m.waiting.length
      else s.setContext t (some m)
    else s.setContext t (some m)

/-- R120: the closing match, after which the context is discarded. -/
def State.closingMatch (s : State) (t : TrackId) : State :=
  match s.context t with
  | none => s
  | some m => (s.attempts decideClosing t m.waiting.length).setContext t none

/-- R123: the waiting-list entry of a finished or abandoned axle. -/
def WaitingAxle.reported (a : WaitingAxle) (index : Nat) (o : AxleOutcome) (l : Level) : WaitingAxle :=
  if a.index = index then { a with outcome := o, level := l } else a

/-- R123: the report of a finished or abandoned axle with the worst level raised for it. -/
def State.tellEnded (s : State) (t : TrackId) (pass index : Nat) (o : AxleOutcome) (l : Level) : State :=
  match s.context t with
  | none => s
  | some m =>
    let s := s.setContext t (some { m with
      finishMark := index
      waiting := m.waiting.map fun a => a.reported index o l })
    match s.axleVehicle t pass index with
    | none => s
    | some v =>
      let s := s.updateVehicle t pass v fun r =>
        { r with
          worst := r.worst.higher l
          axleAbandoned := r.axleAbandoned || decide (o = .abandoned) }
      match s.vehicleRecord t pass v with
      | none => s
      | some r => if r.firstAxle + r.axles = index + 1 then s.completeVehicle t pass v else s

/-- SPACING_LIMIT_PASSED (R113, R114): 600 s have elapsed since the previous count-in. -/
def execSpacingLimitPassed (now : SiteTime) (t : TrackId) (s : State) :
    Host.Outcome State Fault Refusal :=
  let s := s.atTime now
  match s.context t with
  | none => .next s
  | some m =>
    if spacingLimit ≤ interval m.previous now then
      .next (s.setContext t (some { m with limitPassed := true }))
    else .next s

end Sys2Proof.Machine
end

