-- ==== Sys2Proof/Machine/Finishing.lean ====
section
/-! DEFINITION. Finishing and abandoning axle entries (R31, R32): drift (R30), the flags fixed at
finishing (R59), the two computation units' results and alarms (R78, R109), and the forced close. -/

namespace Sys2Proof.Machine

open Sys2Proof

/-- R59: V lies outside the weighing band of the pass's profile; a V equal to a limit is inside. -/
def outOfBand (p : Profile) (v : Nat) : Bool := decide (v < p.bandLower) || decide (p.bandUpper < v)

/-- R30: a present drift as it is written to the axle record. -/
def writtenDrift (drift : Option Int) : Option Int := drift.map (clampInt (-32767) 32767)

/-- R31, R59: an entry with the flags fixed at its finishing. -/
def AxleEntry.fixFlags (e : AxleEntry) (p : Profile) (uncertain forced : Bool) : AxleEntry :=
  { e with flags := { e.flags with
      speedOutOfBand := outOfBand p e.v
      positionUncertain := uncertain
      forcedFinish := forced } }

/-- R108: the thermal results of an entry. -/
def thermalResults (c : PassContext) (e : AxleEntry) : PerScanner ThermalResult :=
  e.scanners.map (thermalResult c.profile.minLines c.ambient)

/-- R78, R109: what the load computation unit and the thermal scanner interface write into the axle
record, with the flags and drift the section controller copies there (R31). -/
def AxleRecord.withResults (a : AxleRecord) (e : AxleEntry) (drift : Option Int)
    (wheels : PerRail WheelResult) (thermal : PerScanner ThermalResult) : AxleRecord :=
  { a with
    flags := e.flags
    drift := writtenDrift drift
    wheels := wheels
    axleLoad := axleLoadOf wheels.l.load wheels.r.load
    imbalance := imbalanceOf wheels.l.load wheels.r.load
    thermal := thermal }

/-- The worst level of some alarms (R123). -/
def worstLevel (alarms : List Alarm) : Level := alarms.foldl (fun l a => l.higher a.level) .none

/-- R78: the load and thermal alarms of one axle in the order they reach the alarm unit: each unit's in
its own order, the two interleaved by a free choice (log 12). Also answers the running number of the
choices. -/
def State.axleAlarms (s : State) (base : AlarmBase) (c : PassContext) (wheels : PerRail WheelResult)
    (thermal : PerScanner ThermalResult) : List Alarm × Nat :=
  let loads := loadAlarms base c.profile wheels
  let heats := thermalAlarms base c.profile c.rises thermal
  interleave Config.loadAlarmFirst (loads.length + heats.length) s.choice loads heats

/-- R111: the running sums of a pass after an axle's bearing rises have joined them. -/
def PassContext.addRises (c : PassContext) (thermal : PerScanner ThermalResult) : PassContext :=
  { c with rises := ⟨c.rises.l.add thermal.bl.rise, c.rises.r.add thermal.br.rise⟩ }

/-- R31: an entry that has left the queue is finished. `uncertain` is POSITION_UNCERTAIN by R30,
`forced` says that a forced close finishes it. -/
def State.finish (s : State) (t : TrackId) (c : PassContext) (e : AxleEntry) (drift : Option Int)
    (uncertain forced : Bool) : State :=
  let e := e.fixFlags c.profile uncertain forced
  let wheels := wheelResults (s.area t) (s.strain.drifted.get t) c.profile.nMin e
  let thermal := thermalResults c e
  let base : AlarmBase := ⟨t, c.direction, c.number, e.index, s.axleVehicle t c.number e.index⟩
  let alarms := s.axleAlarms base c wheels thermal
  let s := s.updateAxle t c.number e.index fun a => a.withResults e drift wheels thermal
  let s := { s with choice := alarms.2 }.raiseAll alarms.1
  let s := s.setCtx t (some (c.addRises thermal))
  let s := s.updateAxle t c.number e.index fun a => { a with status := .final }
  s.tellEnded t c.number e.index .finished (worstLevel alarms.1)

/-- R31: the entries of a queue taken out and finished one after another, head first, by a forced
close. -/
def State.finishForced (s : State) (t : TrackId) : List AxleEntry → State
  | [] => s
  | e :: rest =>
    match s.ctx t with
    | none => s
    | some c =>
      let s := s.setSection t { s.section t with queue := rest }
      (s.finish t c e none false true).finishForced t rest

/-- R31: a forced close of a track's queue. The section count is left as it is (R36, R37). -/
def State.forcedClose (s : State) (t : TrackId) : State := s.finishForced t (s.section t).queue

/-- R32: an entry that has left the queue is abandoned. -/
def State.abandonEntry (s : State) (t : TrackId) (pass : Nat) (e : AxleEntry) : State :=
  (s.updateAxle t pass e.index fun a => { a with status := .abandoned }).tellEnded t pass e.index
    .abandoned .none

/-- R32: the entries of a queue abandoned one after another, head first. -/
def State.abandonEach (s : State) (t : TrackId) : List AxleEntry → State
  | [] => s
  | e :: rest =>
    match s.ctx t with
    | none => s
    | some c =>
      let s := s.setSection t { s.section t with queue := rest }
      (s.abandonEntry t c.number e).abandonEach t rest

/-- R32: every entry of a track's queue abandoned. -/
def State.abandonAll (s : State) (t : TrackId) : State := s.abandonEach t (s.section t).queue

/-! ### Drift (R30) -/

/-- R30: the mark of a sensor with a stamp, among the two most recent. -/
def findMark (marks : List ExitMark) (stamp : SiteTime) : Option ExitMark :=
  marks.find? fun m => decide (m.stamp = stamp)

/-- R30: the two most recent marks of a sensor once one more is made. -/
def addMark (marks : List ExitMark) (m : ExitMark) : List ExitMark := (m :: marks).take 2

/-- R30: the drift of a head entry from a count-out's first edge, absent where no mark matches. -/
def State.driftAt (s : State) (t : TrackId) (c : PassContext) (e : AxleEntry) (first : Role)
    (stamp : SiteTime) : Option Int :=
  let area := s.area t
  match findMark ((s.section t).exitMarks.get first) stamp with
  | none => none
  | some m =>
    some (positionAt area c.direction ((e.ticks : Int) - c.tickTotal + m.total) -
      area.sensorX (exitEnd c.direction) first)

/-- R30: the magnitude of a drift exceeds the drift limit. -/
def exceedsDrift (a : TrackArea) (drift : Option Int) : Bool :=
  match drift with
  | none => false
  | some d => decide (a.driftLimit < d.natAbs)

end Sys2Proof.Machine
end

