-- ==== Sys2Proof/Machine/Sections.lean ====
section
/-! DEFINITION. The section controller (02_sections_and_passes.md): opening a pass, counting axles in and
out, reversal, overrun, draining, underflow, closing, the track commands' effects, and the commands of
its five timers. -/

namespace Sys2Proof.Machine

open Sys2Proof

/-- R19: a pair event as a pair machine hands it on. `pairEnd` is the pair it came from. -/
structure PairEvent where
  pairEnd : SectionEnd
  inward : Bool
  paired : Bool
  time : SiteTime
  firstStamp : SiteTime
  firstSensor : Role
  speed : Nat
  overspeed : Bool
  degraded : Bool
  deriving DecidableEq, Repr

/-! ### Held speed and hold time -/

/-- R33: the hold time for a held speed. -/
def holdTime (holdDistance v : Nat) : Nat := clampNat 1000000 60000000 (roundNat (holdDistance * 36000) v)

/-- R33: the hold timer of an open pass starts or restarts with a freshly computed hold time. -/
def State.startHold (s : State) (t : TrackId) : State :=
  match s.ctx t with
  | none => s
  | some c =>
    s.setSection t { s.section t with
      holdTimer := s.startTimer (holdTime (s.area t).holdDistance c.heldSpeed) }

/-- R27: a completed pair event sets the held speed of the open pass and writes it to the pacer. A
single-sensor count leaves it as it is. -/
def State.takeSpeed (s : State) (t : TrackId) (e : PairEvent) : State :=
  match s.ctx t with
  | none => s
  | some c =>
    if e.paired then (s.setCtx t (some { c with heldSpeed := e.speed })).writeSpeed t e.speed else s

/-! ### Counting in (R22, R28) -/

/-- An empty bay accumulator (R22). -/
def BayAccumulator.empty : BayAccumulator := ⟨0, 0, none, false, false⟩

/-- An empty scanner accumulator (R22). -/
def ScannerAccumulator.empty : ScannerAccumulator := ⟨0, none, .none⟩

/-- R22: the entry of an axle counted in. -/
def AxleEntry.ofCountIn (index : Nat) (e : PairEvent) : AxleEntry where
  index := index
  entryTime := e.time
  v := e.speed
  ticks := 0
  flags := .ofCountIn e.overspeed e.degraded
  bays := ⟨.replicate 8 .empty, .replicate 8 .empty⟩
  scanners := ⟨.empty, .empty, .empty, .empty⟩

/-- The lesser of a number and one that may be absent. -/
def lesser (x : Option Nat) (v : Nat) : Nat :=
  match x with
  | none => v
  | some y => min y v

/-- The greater of a number and one that may be absent. -/
def greater (x : Option Nat) (v : Nat) : Nat :=
  match x with
  | none => v
  | some y => max y v

/-- R27, R28: the pass context after an axle of speed v is counted in. -/
def PassContext.countedIn (c : PassContext) (v : Nat) : PassContext :=
  { c with
    entryCount := c.entryCount + 1
    speedMin := some (lesser c.speedMin v)
    speedMax := some (greater c.speedMax v)
    speedSum := c.speedSum + v }

/-- R28: the axle of a count-in enters the queue and the counts. -/
def State.joinQueue (s : State) (t : TrackId) (c : PassContext) (e : AxleEntry) : State :=
  s.setSection t { s.section t with
    ctx := some c
    count := (s.section t).count + 1
    queue := (s.section t).queue ++ [e] }

/-- R28: the pass store is asked for the axle's record, unless axle storing has stopped or the pass runs
unrecorded. -/
def State.askRecord (s : State) (t : TrackId) (c : PassContext) (e : AxleEntry) : State × Bool :=
  if c.storing then s.requestAxle t c e else (s, false)

/-- R28: a count-in with the pass adds an axle. The held speed has been set before. -/
def State.countIn (s : State) (t : TrackId) (ev : PairEvent) : State :=
  match s.ctx t with
  | none => s
  | some c =>
    let c := c.countedIn ev.speed
    let e := AxleEntry.ofCountIn c.entryCount ev
    let asked := (s.joinQueue t c e).askRecord t c e
    (asked.1.tellCounted t c.number e asked.2).startHold t

/-! ### Opening a pass (R26) -/

/-- R26: the pass number that follows another. -/
def nextPassNumber (n : Nat) : Nat := if n < 65534 then n + 1 else 1

/-- R26: the first number from a given one on that no held pass has. `fuel` bounds the numbers skipped by
the number of held passes. -/
def PassStore.freeNumber (st : PassStore) : Nat → Nat → Nat
  | 0, n => n
  | fuel + 1, n => if (st.find n).isSome then st.freeNumber fuel (nextPassNumber n) else n

/-- R26: the number the next pass takes. -/
def PassStore.takeNumber (st : PassStore) : Nat := st.freeNumber st.passes.length st.nextPass

/-- R26: the direction of a pass that a count-in at an end opens. -/
def directionFrom : SectionEnd → Direction
  | .p => .pq
  | .q => .qp

/-- R26, step 2: the context of a pass that opens. `recorded` is settled by step 3. -/
def State.newContext (s : State) (t : TrackId) (number : Nat) (d : Direction) (v : Nat)
    (recorded : Bool) : PassContext where
  number := number
  direction := d
  profile := (s.area t).profile d
  ambient := s.strain.ambient
  trackGeneration := (s.config.tracks.get t).activeGeneration
  siteGeneration := s.config.site.activeGeneration
  entryCount := 0
  exitCount := 0
  heldSpeed := v
  speedMin := none
  speedMax := none
  speedSum := 0
  rises := ⟨⟨0, 0⟩, ⟨0, 0⟩⟩
  tickTotal := 0
  recorded := recorded
  storing := recorded

/-- R26, step 3, with R128: the header of a pass that opens. -/
def State.newHeader (s : State) (t : TrackId) (number : Nat) (d : Direction) (time : SiteTime) :
    HeldPass where
  number := number
  track := t
  direction := d
  state := .opened
  endReason := none
  openSite := time
  openStation := s.stationTime
  closeSite := none
  closeStation := none
  entryCount := none
  exitCount := none
  speedMin := none
  speedMax := none
  speedMean := none
  ambient := s.strain.ambient
  trackGeneration := (s.config.tracks.get t).activeGeneration
  siteGeneration := s.config.site.activeGeneration
  alarmCount := 0
  flags := .clear
  retention := ⟨false, false⟩
  release := ⟨false, false⟩
  axles := []
  vehicles := []
  axleChunks := 0
  vehicleChunks := 0

/-- R26, steps 1 to 4: the pass is numbered, its context formed, its header asked for and PASS_OPENED
sent; the alarm unit is told of the opening (R143). -/
def State.formPass (s : State) (t : TrackId) (ev : PairEvent) : State :=
  let number := s.store.takeNumber
  let d := directionFrom ev.pairEnd
  let s := { s with store := { s.store with nextPass := nextPassNumber number } }
  let asked := s.requestHeader (s.newHeader t number d ev.time)
  let s := asked.1
  let s := s.setSection t { s.section t with
    ctx := some (s.newContext t number d ev.speed asked.2)
    exitMarks := ⟨[], []⟩ }
  let s := { s with alarms := s.alarms.passOpens t number }
  s.notify (.passOpened number t d (!asked.2))

/-- R26, step 5: the track goes to OCCUPIED. -/
def State.enterOccupied (s : State) (t : TrackId) : State :=
  (s.setSection t { s.section t with
    state := .occupied, approachTimer := none, closeDelay := none, clearTimer := none }).startPacer t

/-- R26: a count-in opens a pass. From IDLE the zero timer stops and a waiting ZERO request is withdrawn
(R66, R70), and the shutters are asked to open. -/
def State.openPass (s : State) (t : TrackId) (ev : PairEvent) : State :=
  let idle := decide ((s.section t).state = .idle)
  let s := if idle then (s.keepLateClose t).leaveIdle t else s
  let s := (s.formPass t ev).enterOccupied t
  let s := if idle then s.openShutters t else s
  ((s.writeSpeed t ev.speed).startHold t).countIn t ev

/-! ### Closing a pass (R40) -/

/-- R40, step 1, with R27: the header of a pass as its close begins; the state is CLOSING until step 4
(R133). -/
def HeldPass.closeHeader (p : HeldPass) (c : PassContext) (reason : EndReason) (site : SiteTime)
    (station : Word) : HeldPass :=
  { p with
    state := .closing
    endReason := some reason
    closeSite := some site
    closeStation := some station
    entryCount := some c.entryCount
    exitCount := some c.exitCount
    speedMin := c.speedMin
    speedMax := c.speedMax
    speedMean := if c.entryCount = 0 then none else some (roundNat c.speedSum c.entryCount) }

/-- R40, step 2: a NORMAL close with unequal counts. R158 speaks of COUNT_MISMATCH alarms of the closes of
a warm reset, which end RESET; R40 gives such a close none, and the model follows R40 (log 38). -/
def PassContext.mismatch (c : PassContext) (reason : EndReason) : Bool :=
  decide (reason = .normal) && decide (c.entryCount ≠ c.exitCount)

/-- R40, step 2: the COUNT_MISMATCH alarm. -/
def mismatchAlarm (t : TrackId) (c : PassContext) : Alarm :=
  ⟨.countMismatch, .warning, t, c.direction, c.number, 0, none, .none, c.entryCount, c.exitCount⟩

/-- R40, step 4, with R133: the close is complete. -/
def HeldPass.completeClose (p : HeldPass) (attachedPorts : PerPort Bool) : HeldPass :=
  { p with state := .closed, retention := attachedPorts, release := ⟨false, false⟩ }

/-- The ports attached at this moment (R164). -/
def State.attachedPorts (s : State) : PerPort Bool := s.ports.map fun x => x.attached

/-- R40: the open pass of a track closes. The track's state is left to the cause. The waiting PACE request
that names the pass is withdrawn (R66). -/
def State.closePass (s : State) (t : TrackId) (reason : EndReason) : State :=
  match s.ctx t with
  | none => s
  | some c =>
    let s := { s with alarms := s.alarms.closeBegins t c.number }
    let s := s.updatePass t c.number fun p => p.closeHeader c reason s.siteTime s.stationTime
    let s :=
      if c.mismatch reason then
        (s.flagPass t c.number fun f => { f with countMismatch := true }).raise (mismatchAlarm t c)
      else s
    let s := s.closingMatch t
    let s := s.updatePass t c.number fun p => p.completeClose s.attachedPorts
    let s := s.notify (.passClosed c.number t reason)
    (s.setSection t { s.section t with ctx := none, exitMarks := ⟨[], []⟩ }).withdrawPace t c.number

/-! ### Entering IDLE and DRAINING -/

/-- R25, R44: the section controller of a track that goes to IDLE. -/
def SectionController.toIdle (c : SectionController) (delay : Timer) : SectionController :=
  { c with
    state := .idle, count := 0, approachTimer := none, holdTimer := none, clearTimer := none,
    quietTimer := none, closeDelay := delay, lateClose := none, coinciding := none }

/-- A track goes to IDLE: its zero timer starts (R70), its pacer stops (R48), and the close delay starts
where its cause has it so (R25). No area is promoted yet. -/
def State.rest (s : State) (t : TrackId) (withDelay : Bool) : State :=
  let delay := if withDelay then s.startTimer (s.area t).closeDelay else none
  ((s.setSection t ((s.section t).toIdle delay)).startZeroTimer t).stopPacer t

/-- A track enters IDLE, and the areas that may then promote do so (R186, log 18). -/
def State.enterIdle (s : State) (t : TrackId) (withDelay : Bool) : State :=
  ((s.rest t withDelay).promoteSiteIfReady).promoteTrackIfReady t

/-- A track goes to DRAINING with a section count, its timers stopped but for the quiet timer, and its
pacer stopped (R36, R37, R41, R48). -/
def State.drain (s : State) (t : TrackId) (count : Nat) : State :=
  (s.setSection t { s.section t with
    state := .draining, count := count, approachTimer := none, holdTimer := none,
    clearTimer := none, quietTimer := s.startTimer (s.area t).clearTime,
    closeDelay := none }).stopPacer t

/-! ### Taking pair events -/

/-- R38: the section count after a count-in or a count-out of a DRAINING track. -/
def drainCount (count : Nat) (inward : Bool) : Nat := if inward then min (count + 1) 32 else count - 1

/-- R39: COUNT_UNDERFLOW is set, with a notice where it was clear. -/
def State.underflow (s : State) (t : TrackId) : State :=
  if (s.section t).underflow then s
  else (s.setSection t { s.section t with underflow := true }).notify (.faultChanged (.underflow t) 1)

/-- R36, R37: the track's queue is finished by a forced close, its pass closes and it goes to DRAINING
with a section count. -/
def State.forceOut (s : State) (t : TrackId) (reason : EndReason) (count : Nat) : State :=
  (((s.forcedClose t).closePass t reason).drain t count).promoteSiteIfReady

/-- R29: the flags of a count-out joined to its entry's. -/
def AxleEntry.countedOut (e : AxleEntry) (ev : PairEvent) : AxleEntry :=
  { e with flags := { e.flags with
      overspeedClamped := e.flags.overspeedClamped || ev.overspeed
      degradedTiming := e.flags.degradedTiming || ev.degraded } }

/-- R29: the section has emptied: the hold timer stops, the clear timer starts, and the track goes to
CLEARING. -/
def State.enterClearing (s : State) (t : TrackId) : State :=
  s.setSection t { s.section t with
    state := .clearing, holdTimer := none, clearTimer := s.startTimer (s.area t).clearTime }

/-- R29: a count-out with the pass. The held speed has been set before. -/
def State.countOut (s : State) (t : TrackId) (ev : PairEvent) : State :=
  match s.ctx t with
  | none => s
  | some c =>
    let c := { c with exitCount := c.exitCount + 1 }
    let left := (s.section t).count - 1
    let gone := s.setSection t { s.section t with
      ctx := some c, count := left, queue := (s.section t).queue.drop 1 }
    let done :=
      match (s.section t).queue with
      | [] => gone
      | e :: _ =>
        let drift := s.driftAt t c e ev.firstSensor ev.firstStamp
        gone.finish t c (e.countedOut ev) drift (exceedsDrift (s.area t) drift) false
    if left = 0 then done.enterClearing t else done.startHold t

/-- R28, R29, R36, R37: a pair event taken by an OCCUPIED track. -/
def State.takeOccupied (s : State) (t : TrackId) (c : PassContext) (ev : PairEvent) : State :=
  let count := (s.section t).count
  if ev.inward then
    if ev.pairEnd = entryEnd c.direction then
      let s := s.takeSpeed t ev
      if count < 32 then s.countIn t ev else s.forceOut t .countOverrun 32
    else s.forceOut t .reversed (drainCount count true)
  else if ev.pairEnd = exitEnd c.direction then (s.takeSpeed t ev).countOut t ev
  else s.forceOut t .reversed (drainCount count false)

/-- R33: a STANDING track returns to OCCUPIED at a pair event. -/
def State.resume (s : State) (t : TrackId) : State := (s.enterOccupied t).startHold t

/-- R34: a count-out ignored in CLEARING still adds to the exit count at the exit pair. -/
def State.lateCountOut (s : State) (t : TrackId) (c : PassContext) (ev : PairEvent) : State :=
  if ev.pairEnd = exitEnd c.direction then
    s.setCtx t (some { c with exitCount := c.exitCount + 1 })
  else s

/-- R34, R35: a pair event taken by a CLEARING track. -/
def State.takeClearing (s : State) (t : TrackId) (c : PassContext) (ev : PairEvent) : State :=
  if ev.inward then
    if ev.pairEnd = entryEnd c.direction then
      (((s.enterOccupied t).takeSpeed t ev).startHold t).countIn t ev
    else (s.closePass t .normal).openPass t ev
  else (s.lateCountOut t c ev).underflow t

/-- R18, R19: a pair event taken by the section controller of its track, by the track state. -/
def State.takeEvent (s : State) (t : TrackId) (ev : PairEvent) : State :=
  match (s.section t).state with
  | .unconfigured => s
  | .outOfService => s
  | .idle => if ev.inward then s.openPass t ev else s.underflow t
  | .approach => if ev.inward then s.openPass t ev else s.underflow t
  | .draining =>
    s.setSection t { s.section t with count := drainCount (s.section t).count ev.inward }
  | .clearing =>
    match s.ctx t with
    | none => s
    | some c => s.takeClearing t c ev
  | .standing =>
    match s.ctx t with
    | none => s
    | some c => (s.resume t).takeOccupied t c ev
  | .occupied =>
    match s.ctx t with
    | none => s
    | some c => s.takeOccupied t c ev

/-! ### Sensor activity (R6, R30, R38) -/

/-- R30: an exit mark made by a rising edge of an exit-pair sensor while a pass is open. -/
def State.markExit (s : State) (t : TrackId) (e : SectionEnd) (x : Edge) : State :=
  match s.ctx t with
  | none => s
  | some c =>
    if x.rising && decide (e = exitEnd c.direction) then
      let marks := (s.section t).exitMarks
      s.setSection t { s.section t with
        exitMarks := marks.set x.role (addMark (marks.get x.role) ⟨x.stamp, c.tickTotal⟩) }
    else s

/-- R30, R38: sensor activity taken by the section controller: an exit mark, and the quiet timer of a
DRAINING track, which runs from the present site time (log 11). -/
def State.sensorActivity (s : State) (t : TrackId) (e : SectionEnd) (x : Edge) : State :=
  let s := s.markExit t e x
  if (s.section t).state = .draining then
    s.setSection t { s.section t with quietTimer := s.startTimer (s.area t).clearTime }
  else s

/-! ### Track commands (R41, R42) -/

/-- R41, R42: every entry abandoned and an open pass closed. -/
def State.abandonPass (s : State) (t : TrackId) (reason : EndReason) : State :=
  (s.abandonAll t).closePass t reason

/-- R41: TRACK ABORT carried out. -/
def State.abortTrack (s : State) (t : TrackId) : State :=
  (((s.abandonPass t .aborted).leaveIdle t).drain t 0).promoteSiteIfReady

/-- R42: TRACK OUT carried out. -/
def State.takeOut (s : State) (t : TrackId) : State :=
  let s := (s.abandonPass t .aborted).leaveIdle t
  let s := (s.setSection t { s.section t with
    state := .outOfService, count := 0, approachTimer := none, holdTimer := none, clearTimer := none,
    quietTimer := none, closeDelay := none, lateClose := none, coinciding := none }).stopPacer t
  ((s.closeShutters t).promoteSiteIfReady).promoteTrackIfReady t

/-- R42: TRACK IN carried out. -/
def State.takeIn (s : State) (t : TrackId) : State := s.enterIdle t false

/-! ### Commands of the section timers -/

/-- APPROACH_TIMER_EXPIRY (R25). -/
def execApproachTimerExpiry (now : SiteTime) (t : TrackId) (s : State) :
    Host.Outcome State Fault Refusal :=
  let s := s.atTime now
  if timerDue (s.section t).approachTimer now then .next (s.enterIdle t true) else .next s

/-- CLOSE_DELAY_EXPIRY (R25). R102: taken second at the site time at which the track left IDLE, the close
request still reaches the scanners (log 40). -/
def execCloseDelayExpiry (now : SiteTime) (t : TrackId) (s : State) :
    Host.Outcome State Fault Refusal :=
  let s := s.atTime now
  if timerDue (s.section t).closeDelay now then
    .next ((s.setSection t { s.section t with closeDelay := none }).closeShutters t)
  else if (s.section t).lateClose = some now then
    .next ((s.setSection t { s.section t with lateClose := none }).closeShutters t)
  else .next s

/-- R33, R58: an OCCUPIED track goes to STANDING. -/
def State.enterStanding (s : State) (t : TrackId) (c : PassContext) : State :=
  (s.setSection t { s.section t with
    state := .standing
    holdTimer := none
    queue := flagStandstill (s.area t) c.direction (s.section t).queue }).stopPacer t

/-- HOLD_TIMER_EXPIRY (R33, R58). -/
def execHoldTimerExpiry (now : SiteTime) (t : TrackId) (s : State) :
    Host.Outcome State Fault Refusal :=
  let s := s.atTime now
  match s.ctx t with
  | none => .next s
  | some c => if timerDue (s.section t).holdTimer now then .next (s.enterStanding t c) else .next s

/-- CLEAR_TIMER_EXPIRY (R34). -/
def execClearTimerExpiry (now : SiteTime) (t : TrackId) (s : State) :
    Host.Outcome State Fault Refusal :=
  let s := s.atTime now
  if timerDue (s.section t).clearTimer now then .next ((s.closePass t .normal).enterIdle t true)
  else .next s

/-- QUIET_TIMER_EXPIRY (R38): with a count above 0 the timer waits, stopped, for the next sensor
activity. -/
def execQuietTimerExpiry (now : SiteTime) (t : TrackId) (s : State) :
    Host.Outcome State Fault Refusal :=
  let s := s.atTime now
  if timerDue (s.section t).quietTimer now then
    if (s.section t).count = 0 then .next (s.enterIdle t true)
    else .next (s.setSection t { s.section t with quietTimer := none })
  else .next s

end Sys2Proof.Machine
end

