-- ==== Sys2Proof/Machine/Sampling.lean ====
section
/-! DEFINITION. The two commands of the strain acquisition unit: ZERO_TIMER_EXPIRY (R70) and
CONVERSION_END (R67), with the handling of samples (R68, R71, R75). -/

namespace Sys2Proof.Machine

open Sys2Proof

/-- R70: a scan of a track is in progress. -/
def StrainUnit.scanning (u : StrainUnit) (t : TrackId) : Bool :=
  match u.scan with
  | none => false
  | some x => decide (x.track = t)

/-- ZERO_TIMER_EXPIRY (R70, R63). -/
def execZeroTimerExpiry (now : SiteTime) (t : TrackId) (s : State) : Host.Outcome State Fault Refusal :=
  let s := s.atTime now
  if timerDue (s.strain.zeroTimers.get t) now then
    let s := s.startZeroTimer t
    if (s.slot t).isNone && !s.strain.scanning t then .next (s.requestScan t .zero) else .next s
  else .next s

/-! ### Handling a sample -/

/-- R68: a sample of a PACE scan credited to the entry that its request assigned to the bay. -/
def State.creditPace (s : State) (t : TrackId) (pass : Nat) (bays : BayAssignment) (channel : Nat)
    (sample : Int) : State :=
  match (s.area t).bayOfChannel channel with
  | none => s
  | some b =>
    match bayGet bays b.1 b.2, s.zero t b.1 b.2 with
    | some index, some z =>
      match s.entry t pass index with
      | none => s
      | some _ => s.updateEntry t index fun e => e.creditBay b.1 b.2 sample z
    | _, _ => s

/-- R71, R72: a bay sample of a ZERO scan: it moves the working zero, raises a load wake, or is
discarded. -/
def State.takeZeroSample (s : State) (t : TrackId) (channel : Nat) (sample : Int) : State :=
  match (s.area t).bayOfChannel channel with
  | none => s
  | some b =>
    match s.zero t b.1 b.2 with
    | none => s
    | some z =>
      if wakes z sample (s.area t).wakeThreshold then s.wakeTrack t
      else if isClipped sample then s
      else (s.setZero t b.1 b.2 (some (nudge z sample))).checkDrift t b.1 b.2

/-- R187: a bay sample of a scan that a COMMIT of the present site time has outdated wakes the track by the
area and the working zeros from before it. -/
def State.wakesBefore (s : State) (t : TrackId) (channel : Nat) (sample : Int) : Bool :=
  match s.coinciding t with
  | none => false
  | some x =>
    match x.area.bayOfChannel channel with
    | none => false
    | some b =>
      match bayGet x.zeros b.1 b.2 with
      | none => false
      | some z => x.scanned && wakes z sample x.area.wakeThreshold

/-- R75: an ambient sample. -/
def State.takeAmbient (s : State) (sample : Int) : State :=
  if isClipped sample then s
  else { s with strain := { s.strain with ambient := some (ambientOf s.siteArea sample) } }

/-- R67: the sample of the present conversion of a scan handled by the scan's purpose. Zeros follow the samples
of a track that waits (R71). Bay samples of a
ZERO scan whose track's area has been promoted since its grant are discarded, but for a load wake that
comes together with the COMMIT (R187). -/
def State.takeSample (s : State) (x : Scan) (sample : Int) : State :=
  match x.entries[x.done]? with
  | none => s.takeAmbient sample
  | some entry =>
    match x.request with
    | .pace pass bays => s.creditPace x.track pass bays entry.1 sample
    | .zero =>
      if !(s.section x.track).state.waits then s
      else if x.promotedSince then
        if s.wakesBefore x.track entry.1 sample then s.wakeTrack x.track else s
      else s.takeZeroSample x.track entry.1 sample

/-- R67: the number of conversions of a scan. -/
def Scan.total (x : Scan) : Nat := x.entries.length + (if x.ambientChannel.isSome then 1 else 0)

/-- R67: the scan after its sample has been handled: the converter goes on, or is freed and the arbiter
acts (R64). -/
def State.endConversion (s : State) (x : Scan) : State :=
  if x.total ≤ x.done + 1 then { s with strain := { s.strain with scan := none } }.arbitrate
  else { s with strain := { s.strain with scan := some { x with done := x.done + 1 } } }

/-- CONVERSION_END (R67): the conversion in progress ends 4 µs after it began. -/
def execConversionEnd (now : SiteTime) (sample : BitVec 16) (s : State) :
    Host.Outcome State Fault Refusal :=
  let s := s.atTime now
  match s.strain.scan with
  | none => .next s
  | some x =>
    if 4 * (x.done + 1) ≤ interval x.grantedAt now then
      .next ((s.takeSample x (signedHalf sample)).endConversion x)
    else .next s

end Sys2Proof.Machine
end

