-- ==== Sys2Proof/Machine/Sensors.lean ====
section
/-! DEFINITION. The wheel sensor interface (01_wheel_sensors_and_pair_timing.md): handing edges on in stamp
order, HELD and SUSPECT, the pair machines, and its commands. -/

namespace Sys2Proof.Machine

open Sys2Proof

/-! ### Speeds and times of pair events -/

/-- R15: the speed of a completed pair event, and whether it was clamped. -/
def pairSpeed (spacing elapsed : Nat) : Nat × Bool :=
  let q := roundNat (spacing * 36000) (max elapsed 1)
  (min q 2500, decide (2500 < q))

/-- R12: the transit time at a held speed. -/
def transitTime (spacing v : Nat) : Nat := roundNat (spacing * 36000) v

/-- R10: the pair timeout in µs. -/
def pairTimeout (spacing : Nat) : Nat := spacing * 3600

/-- R16: the sensor of a pair that an axle in the pass direction reaches first. -/
def reachedFirst (d : Direction) (e : SectionEnd) : Role := if e = entryEnd d then .outer else .inner

/-- R16: the time of a single-sensor count made at site time `now`. -/
def singleTime (d : Direction) (e : SectionEnd) (seen : Role) (stamp : SiteTime) (transit : Nat)
    (now : SiteTime) : SiteTime :=
  if seen = reachedFirst d e then
    let projected := stamp + BitVec.ofNat 32 transit
    if isLater projected now then now else projected
  else stamp

/-- R16: the pair event that a single-sensor count becomes while a pass is open. -/
def singleEvent (c : PassContext) (spacing : Nat) (e : SectionEnd) (seen : Role) (stamp now : SiteTime) :
    PairEvent where
  pairEnd := e
  inward := decide (e = entryEnd c.direction)
  paired := false
  time := singleTime c.direction e seen stamp (transitTime spacing c.heldSpeed) now
  firstStamp := stamp
  firstSensor := seen
  speed := c.heldSpeed
  overspeed := false
  degraded := true

/-- R12, R15: the pair event that a second rising edge completes. -/
def pairedEvent (spacing : Nat) (e : SectionEnd) (first : Role) (firstStamp stamp : SiteTime) :
    PairEvent where
  pairEnd := e
  inward := decide (first = .outer)
  paired := true
  time := stamp
  firstStamp := firstStamp
  firstSensor := first
  speed := (pairSpeed spacing (interval firstStamp stamp)).1
  overspeed := (pairSpeed spacing (interval firstStamp stamp)).2
  degraded := false

/-! ### Pair machines -/

/-- The state of a pair machine that waits after a rising edge of a sensor (R11). -/
def seenState (seen : Role) (stamp : SiteTime) : PairState :=
  match seen with
  | .outer => .outerSeen stamp
  | .inner => .innerSeen stamp

/-- The sensor whose edge a waiting machine holds, with the first-edge stamp. -/
def PairState.waiting : PairState → Option (Role × SiteTime)
  | .quiet => none
  | .outerSeen stamp => some (.outer, stamp)
  | .innerSeen stamp => some (.inner, stamp)

/-- The state with a pair machine's state replaced; its withheld edges stay. -/
def State.setMachine (s : State) (t : TrackId) (e : SectionEnd) (m : PairState) : State :=
  s.setPair t e { s.pair t e with state := m }

/-- R9: a sensor becomes SUSPECT, with a notice where it was not. -/
def State.markSuspect (s : State) (t : TrackId) (e : SectionEnd) (x : Role) : State :=
  if (s.sensor t e x).suspect then s
  else
    (s.setSensor t e x { s.sensor t e x with suspect := true }).notify
      (.faultChanged (.suspect (inputOfSensor t e x)) 1)

/-- R16, R17: a single-sensor count from the edge that was seen. -/
def State.singleCount (s : State) (t : TrackId) (e : SectionEnd) (seen : Role) (stamp : SiteTime) :
    State :=
  let s := s.markSuspect t e (partner seen)
  match s.ctx t with
  | none => s
  | some c => s.takeEvent t (singleEvent c ((s.area t).pairSpacing e) e seen stamp s.siteTime)

/-- R13: the wait of a machine that holds a first edge ends without its partner. -/
def State.endWait (s : State) (t : TrackId) (e : SectionEnd) (seen : Role) (first : SiteTime) : State :=
  (s.setMachine t e .quiet).singleCount t e seen first

/-- R12: the axle a machine waits for is overdue at a further rising edge of the same sensor. -/
def State.overdue (s : State) (t : TrackId) (e : SectionEnd) (first stamp : SiteTime) : Bool :=
  match s.ctx t with
  | none => false
  | some c =>
    decide (2 * transitTime ((s.area t).pairSpacing e) c.heldSpeed < interval first stamp)

/-- R13: a wait whose pair timeout passed before the stamp of an edge now offered has expired before it
(log 10). -/
def State.expirePassed (s : State) (t : TrackId) (e : SectionEnd) (stamp : SiteTime) : State :=
  match (s.pair t e).state.waiting with
  | none => s
  | some w =>
    if pairTimeout ((s.area t).pairSpacing e) < interval w.2 stamp then s.endWait t e w.1 w.2 else s

/-- R11: a rising edge offered to a QUIET machine. -/
def State.firstRise (s : State) (t : TrackId) (e : SectionEnd) (x : Role) (stamp : SiteTime) : State :=
  if (s.sensor t e (partner x)).held then s.singleCount t e x stamp
  else s.setMachine t e (seenState x stamp)

/-- R12: a further rising edge of the sensor whose edge the machine holds. -/
def State.restartWait (s : State) (t : TrackId) (e : SectionEnd) (x : Role) (first stamp : SiteTime) :
    State :=
  let s := if s.overdue t e first stamp then s.singleCount t e x first else s
  s.setMachine t e (seenState x stamp)

/-- R10 to R12: a rising edge offered to its pair machine. -/
def State.offerRise (s : State) (t : TrackId) (e : SectionEnd) (x : Role) (stamp : SiteTime) : State :=
  let s := s.expirePassed t e stamp
  match (s.pair t e).state.waiting with
  | none => s.firstRise t e x stamp
  | some w =>
    if w.1 = x then s.restartWait t e x w.2 stamp
    else
      (s.setMachine t e .quiet).takeEvent t
        (pairedEvent ((s.area t).pairSpacing e) e w.1 w.2 stamp)

/-! ### Edges (R5, R6, R8) -/

/-- R8: a HELD sensor leaves HELD at its falling edge. -/
def State.leaveHeld (s : State) (t : TrackId) (e : SectionEnd) (x : Role) : State :=
  (s.setSensor t e x { s.sensor t e x with held := false, occupiedSince := none }).notify
    (.faultChanged (.held (inputOfSensor t e x)) 0)

/-- R6, R8: a filtered edge used once R5 hands it on. -/
def State.takeEdge (s : State) (t : TrackId) (e : SectionEnd) (x : Edge) : State :=
  if (s.sensor t e x.role).held then (if x.rising then s else s.leaveHeld t e x.role)
  else
    let s := s.setSensor t e x.role { s.sensor t e x.role with
      occupiedSince := if x.rising then some x.stamp else none }
    let s := s.sensorActivity t e x
    if x.rising then s.offerRise t e x.role x.stamp else s

/-- R5: an edge comes before another in its pair: by its stamp, the outer sensor's first where the stamps
are the same. -/
def Edge.before (x y : Edge) : Bool :=
  isLater y.stamp x.stamp || (decide (x.stamp = y.stamp) && decide (x.role = .outer ∧ y.role = .inner))

/-- R5: a confirmed edge put among the withheld edges of its pair in stamp order. -/
def insertEdge (x : Edge) : List Edge → List Edge
  | [] => [x]
  | y :: rest => if x.before y then x :: y :: rest else y :: insertEdge x rest

/-- R5: an edge is held back while the partner's filter has a pending change stamped earlier, or, for the
inner sensor's edge, with the same stamp (log 9). -/
def State.heldBack (s : State) (t : TrackId) (e : SectionEnd) (x : Edge) : Bool :=
  match (s.sensor t e (partner x.role)).filter.pendingSince with
  | none => false
  | some stamp => isLater x.stamp stamp || (decide (x.stamp = stamp) && decide (x.role = .inner))

/-- R5: the withheld edges of a pair handed on in their order, up to the first that is held back. `fuel`
bounds their number. -/
def State.release (t : TrackId) (e : SectionEnd) : Nat → State → State
  | 0, s => s
  | fuel + 1, s =>
    match (s.pair t e).withheld with
    | [] => s
    | x :: rest =>
      if s.heldBack t e x then s
      else
        State.release t e fuel ((s.setPair t e { s.pair t e with withheld := rest }).takeEdge t e x)

/-- R5: what can be handed on is handed on. -/
def State.releaseAll (s : State) (t : TrackId) (e : SectionEnd) : State :=
  State.release t e (s.pair t e).withheld.length s

/-- R3, R5: the pending change of a filter is confirmed, and its edge handed on in stamp order. -/
def State.confirmEdge (s : State) (t : TrackId) (e : SectionEnd) (x : Role) (stamp : SiteTime) : State :=
  let y := s.sensor t e x
  let edge : Edge := ⟨x, !y.filter.level, stamp⟩
  let s := s.setSensor t e x { y with filter := y.filter.confirm }
  (s.setPair t e { s.pair t e with withheld := insertEdge edge (s.pair t e).withheld }).releaseAll t e

/-- The state with a wheel sensor's filter replaced. -/
def State.setFilter (s : State) (t : TrackId) (e : SectionEnd) (x : Role) (f : InputFilter) : State :=
  s.setSensor t e x { s.sensor t e x with filter := f }

/-- R3: a raw change of the input of a configured track. With debounce off a change away from the
filtered level is confirmed at once; a change back cancels the pending change, which may release edges
of the partner (R5). -/
def State.rawChange (s : State) (t : TrackId) (e : SectionEnd) (x : Role) (level : Bool) : State :=
  let f := (s.sensor t e x).filter
  let s := s.setFilter t e x (f.rawChange level s.siteTime)
  match (s.area t).debounce e x, (f.rawChange level s.siteTime).pendingSince with
  | none, some stamp => s.confirmEdge t e x stamp
  | none, none => s.releaseAll t e
  | some _, none => s.releaseAll t e
  | some _, some _ => s

/-- R5: a raw change of an inner sensor makes its edge at once where its debounce is off. Where a raw change
of the outer sensor comes at the same site time and still waits, that one is taken first, so that of two
edges of one stamp the outer sensor's is the first (log 9); delivered in its turn, it then is no change. -/
def State.takeRawChange (s : State) (t : TrackId) (e : SectionEnd) (x : Role) (level : Bool) : State :=
  let edge := decide ((s.area t).debounce e x = none) && decide (level ≠ (s.sensor t e x).filter.level)
  if decide (x = .inner) && edge && s.changeWaits t e .outer then
    (s.rawChange t e .outer (!(s.sensor t e .outer).filter.raw)).rawChange t e x level
  else s.rawChange t e x level

/-- R3: the debounce time in µs of a sensor, 0 where debounce is off. -/
def TrackArea.debounceTime (a : TrackArea) (e : SectionEnd) (x : Role) : Nat :=
  match a.debounce e x with
  | none => 0
  | some d => d

/-- R3: a pending change confirmed once it has persisted for the debounce time. -/
def State.confirmDue (s : State) (t : TrackId) (e : SectionEnd) (x : Role) : State :=
  match (s.sensor t e x).filter.pendingSince with
  | none => s
  | some stamp =>
    if (s.area t).debounceTime e x ≤ interval stamp s.siteTime then s.confirmEdge t e x stamp else s

/-! ### An edge and a COMMIT of one site time (R187) -/

/-- The four sensors of a track, each changed by what stands in its place. -/
def zipSensors {α : Type} (f : Sensor → α → Sensor) (x : PerEnd (PerRole Sensor)) (y : PerEnd (PerRole α)) :
    PerEnd (PerRole Sensor) :=
  ⟨⟨f x.p.outer y.p.outer, f x.p.inner y.p.inner⟩, ⟨f x.q.outer y.q.outer, f x.q.inner y.q.inner⟩⟩

/-- An area with the sensor positions and debounce settings of another, its words 0 to 2 (R191). -/
def TrackArea.withSensorsOf (a b : TrackArea) : TrackArea :=
  ⟨((a.words.set 0 (b.word 0)).set 1 (b.word 1)).set 2 (b.word 2)⟩

/-- R187: the filters and pair machines of a track as a COMMIT has kept them, with the sensor positions and
debounce settings that they went by. -/
def State.inputsBefore (s : State) (t : TrackId) (x : Coinciding) : State :=
  let before : AreaStore TrackArea :=
    { s.config.tracks.get t with active := (s.area t).withSensorsOf x.area }
  { s with
    sensors := s.sensors.set t (zipSensors (fun (y : Sensor) f => { y with filter := f })
      (s.sensors.get t) x.filters)
    pairs := s.pairs.set t x.pairs
    config := { s.config with tracks := s.config.tracks.set t before } }

/-- R187: the filters, occupancy intervals, pair machines and area of a track as they are in another
state. -/
def State.inputsOf (s u : State) (t : TrackId) : State :=
  { s with
    sensors := s.sensors.set t (zipSensors (fun (y z : Sensor) =>
      { y with filter := z.filter, occupiedSince := z.occupiedSince }) (s.sensors.get t) (u.sensors.get t))
    pairs := s.pairs.set t (u.pairs.get t)
    config := { s.config with tracks := s.config.tracks.set t (u.config.tracks.get t) } }

/-- R187: what an input of a track does. Where a COMMIT of the same site time has restarted the filters and
pair machines, it is also run on what stood before it, and the pass that is opened so is opened, with the new
image; else nothing follows from it but what a further input of that site time meets (log 39). -/
def State.orAsBefore (s : State) (t : TrackId) (run : State → State) : State :=
  let u := run s
  match s.coinciding t with
  | none => u
  | some x =>
    let v := run (s.inputsBefore t x)
    if !(u.section t).state.waits then u
    else if !(v.section t).state.waits then v.inputsOf u t
    else u.changeCoinciding t fun x =>
      { x with filters := filtersOf (v.sensors.get t), pairs := v.pairs.get t }

/-! ### Commands -/

/-- SENSOR_RAW_CHANGE (R3): the filters of an UNCONFIGURED track do not run (R4), and a level that is the
present raw level is no change. -/
def execSensorRawChange (now : SiteTime) (input : Fin 8) (level : Bool) (s : State) :
    Host.Outcome State Fault Refusal :=
  let s := s.atTime now
  let name := sensorOfInput input
  let f := (s.sensor name.1 name.2.1 name.2.2).filter
  if level = f.raw then .next s
  else if s.configured name.1 then
    .next (s.orAsBefore name.1 fun u => u.takeRawChange name.1 name.2.1 name.2.2 level)
  else .next (s.setFilter name.1 name.2.1 name.2.2 { f with raw := level })

/-- DEBOUNCE_CONFIRM (R3). -/
def execDebounceConfirm (now : SiteTime) (input : Fin 8) (s : State) :
    Host.Outcome State Fault Refusal :=
  let s := s.atTime now
  let name := sensorOfInput input
  .next (s.orAsBefore name.1 fun u => u.confirmDue name.1 name.2.1 name.2.2)

/-- R7: the held timer of a sensor has expired: it is not HELD and its occupancy interval has lasted the
held limit of its track. -/
def State.heldDue (s : State) (t : TrackId) (e : SectionEnd) (x : Role) (now : SiteTime) : Bool :=
  match (s.sensor t e x).occupiedSince with
  | none => false
  | some since => !(s.sensor t e x).held && decide ((s.area t).heldLimit ≤ interval since now)

/-- R7: a sensor becomes HELD. -/
def State.enterHeld (s : State) (t : TrackId) (e : SectionEnd) (x : Role) : State :=
  (s.setSensor t e x { s.sensor t e x with held := true }).notify
    (.faultChanged (.held (inputOfSensor t e x)) 1)

/-- R14: the pair machine is offered a partner that becomes HELD. -/
def State.partnerHeld (s : State) (t : TrackId) (e : SectionEnd) (x : Role) : State :=
  match (s.pair t e).state.waiting with
  | none => s
  | some w => if w.1 = partner x then s.endWait t e w.1 w.2 else s

/-- HELD_TIMER_EXPIRY (R7, R14). -/
def execHeldTimerExpiry (now : SiteTime) (input : Fin 8) (s : State) :
    Host.Outcome State Fault Refusal :=
  let s := s.atTime now
  let name := sensorOfInput input
  if s.heldDue name.1 name.2.1 name.2.2 now then
    .next ((s.enterHeld name.1 name.2.1 name.2.2).partnerHeld name.1 name.2.1 name.2.2)
  else .next s

/-- R13: a change of the partner stamped at or before the end of the timeout is still to come: pending in
its filter, or confirmed and withheld (log 10). -/
def State.partnerToCome (s : State) (t : TrackId) (e : SectionEnd) (seen : Role) (first : SiteTime)
    (timeout : Nat) : Bool :=
  let inTime := fun stamp : SiteTime => decide (interval first stamp ≤ timeout)
  (match (s.sensor t e (partner seen)).filter.pendingSince with
    | none => false
    | some stamp => inTime stamp) ||
  (s.pair t e).withheld.any fun x => decide (x.role = partner seen) && x.rising && inTime x.stamp

/-- PAIR_TIMEOUT_EXPIRY (R13). The timeout has passed once site time reaches its end, and a partner change
of that very microsecond that is delivered after the expiry completes nothing (log 36). -/
def execPairTimeoutExpiry (now : SiteTime) (t : TrackId) (e : SectionEnd) (s : State) :
    Host.Outcome State Fault Refusal :=
  let s := s.atTime now
  match (s.pair t e).state.waiting with
  | none => .next s
  | some w =>
    let timeout := pairTimeout ((s.area t).pairSpacing e)
    if timeout ≤ interval w.2 now ∧ !s.partnerToCome t e w.1 w.2 timeout then
      .next (s.endWait t e w.1 w.2)
    else .next s

end Sys2Proof.Machine
end

