-- ==== Sys2Proof/Machine/Records.lean ====
section
/-! DEFINITION. Records, notices and the STATUS picture as words and bytes (R189, R190). -/

namespace Sys2Proof.Machine

open Sys2Proof

/-! ### Fields and bytes -/

/-- A number in a field of some bits that begins at bit lo. -/
def fieldAt (v width lo : Nat) : Word := atBit (v % 2 ^ width) lo

/-- A field of some bits, all ones where the number is absent (12_record_and_frame_layouts.md). -/
def presentOr (width : Nat) (v : Option Nat) : Nat :=
  match v with
  | none => 2 ^ width - 1
  | some n => n

/-- A signed 16-bit field, −32,768 where the number is absent. -/
def signedField (v : Option Int) : Nat :=
  match v with
  | none => 32768
  | some n => (BitVec.ofInt 16 n).toNat

/-- Two 16-bit fields, the upper one first. -/
def twoHalves (upper lower : Nat) : Word := fieldAt upper 16 16 ||| fieldAt lower 16 0

/-- Four 8-bit fields, the uppermost first. -/
def fourBytes (a b c d : Nat) : Word := fieldAt a 8 24 ||| fieldAt b 8 16 ||| fieldAt c 8 8 ||| fieldAt d 8 0

/-- A word as bytes, most significant first (R189). -/
def wordBytes (w : Word) : List Byte :=
  [w.extractLsb' 24 8, w.extractLsb' 16 8, w.extractLsb' 8 8, w.extractLsb' 0 8]

/-- Words as bytes. -/
def wordsBytes (ws : List Word) : List Byte := ws.flatMap wordBytes

/-- A 16-bit number as two bytes (R189). -/
def halfBytes (n : Nat) : List Byte := [BitVec.ofNat 8 (n / 256), BitVec.ofNat 8 n]

/-- A set of flags as bits from bit 0 on. -/
def flagBits (fs : List Bool) : Nat := fs.foldr (fun f rest => (if f then 1 else 0) + 2 * rest) 0

/-! ### The pass header -/

/-- R190: an entry or exit count as it is stored. -/
def storedCount (n : Option Nat) : Option Nat := n.map fun x => min x 65534

/-- The header's state code (R190). -/
def PassState.headerCode : PassState → Nat
  | .opened => 0
  | .closing => 1
  | .closed => 1

/-- The 16 words of a pass header. -/
def HeldPass.headerWords (p : HeldPass) : List Word :=
  [fieldAt p.number 16 16 ||| fieldAt (trackNumber p.track) 4 12 ||| fieldAt p.direction.code 4 8 |||
      fieldAt p.state.headerCode 4 4 ||| fieldAt (presentOr 4 (p.endReason.map EndReason.code)) 4 0,
    p.openSite, p.openStation,
    fieldAt (presentOr 32 (p.closeSite.map BitVec.toNat)) 32 0,
    fieldAt (presentOr 32 (p.closeStation.map BitVec.toNat)) 32 0,
    twoHalves (presentOr 16 (storedCount p.entryCount)) (presentOr 16 (storedCount p.exitCount)),
    twoHalves p.axles.length p.vehicles.length,
    twoHalves (presentOr 16 p.speedMin) (presentOr 16 p.speedMax),
    twoHalves (presentOr 16 p.speedMean) (signedField p.ambient),
    twoHalves p.trackGeneration p.siteGeneration,
    fieldAt p.alarmCount 32 0,
    p.flags.word,
    fieldAt (flagBits [p.release.b, p.release.a, p.retention.b, p.retention.a]) 4 0,
    0, 0, 0]

/-! ### The axle record -/

/-- The wheel flags: bit 0 SATURATED, bit 1 FEW_BAYS. -/
def WheelResult.flagField (w : WheelResult) : Nat := flagBits [w.saturated, w.fewBays]

/-- The 16 words of an axle record. -/
def AxleRecord.words (a : AxleRecord) : List Word :=
  let l := a.wheels.l
  let r := a.wheels.r
  let x := a.thermal
  [twoHalves a.index (presentOr 16 a.vehicle), a.entryTime, twoHalves a.v (presentOr 16 a.spacing),
    a.flags.word,
    twoHalves (presentOr 16 l.load) (presentOr 16 r.load),
    fieldAt (presentOr 32 a.axleLoad) 32 0,
    twoHalves (presentOr 16 l.peak) (presentOr 16 r.peak),
    twoHalves (presentOr 16 l.ratio) (presentOr 16 r.ratio),
    twoHalves (presentOr 16 a.imbalance) (signedField a.drift),
    fieldAt a.status.code 8 24 ||| fieldAt l.valid 4 20 ||| fieldAt r.valid 4 16 |||
      fieldAt (presentOr 4 l.impactBay) 4 12 ||| fieldAt (presentOr 4 r.impactBay) 4 8 |||
      fieldAt l.flagField 4 4 ||| fieldAt r.flagField 4 0,
    twoHalves (signedField x.bl.temperature) (signedField x.br.temperature),
    twoHalves (signedField x.wl.temperature) (signedField x.wr.temperature),
    twoHalves (signedField x.bl.rise) (signedField x.br.rise),
    twoHalves (signedField x.wl.rise) (signedField x.wr.rise),
    fourBytes x.bl.lines x.br.lines x.wl.lines x.wr.lines,
    fourBytes x.bl.reason.code x.br.reason.code x.wl.reason.code x.wr.reason.code]

/-! ### The vehicle record -/

/-- The 4 words of a vehicle record. -/
def VehicleRecord.words (v : VehicleRecord) : List Word :=
  [twoHalves v.index v.firstAxle,
    fieldAt v.axles 8 24 ||| fieldAt v.code 8 16 ||| fieldAt v.classCode 4 12 |||
      fieldAt v.orientation.code 4 8 ||| fieldAt (if v.final then 1 else 0) 4 4 |||
      fieldAt v.worst.code 4 0,
    fieldAt (presentOr 32 v.gross) 32 0,
    fieldAt (flagBits [v.degradedSpacing, v.gapAssumed, v.axleAbandoned]) 3 0]

/-! ### The alarm record -/

/-- The code of an acknowledgement (R190). -/
def acknowledgedCode : Option Port → Nat
  | none => 0
  | some .a => 1
  | some .b => 2

/-- The axle index field of an alarm record; what it holds for an index that does not fit is open
(log 20). -/
def axleIndexField (n : Nat) : Nat := if n ≤ 65535 then n else (Config.wideAxleIndexField n).toNat

/-- The lines a record latches as a set of bits. -/
def latchedField (lines : List (Fin 8)) : Nat := flagBits (eight.map lines.contains)

/-- The 8 words of an alarm record. -/
def AlarmRecord.words (r : AlarmRecord) : List Word :=
  let a := r.alarm
  [fieldAt r.number 32 0,
    fieldAt a.kind.code 8 24 ||| fieldAt a.level.code 4 20 ||| fieldAt (trackNumber a.track) 4 16 |||
      fieldAt a.pass 16 0,
    twoHalves (axleIndexField a.axle) (presentOr 16 a.vehicle),
    fieldAt a.direction.code 4 28 ||| fieldAt a.side.code 4 24 ||| fieldAt (latchedField r.latched) 8 16 |||
      fieldAt (acknowledgedCode r.acknowledged) 4 0,
    BitVec.ofInt 32 a.value, BitVec.ofInt 32 a.threshold, r.siteTime, r.stationTime]

/-! ### Notices -/

/-- The notice kind codes (R190). -/
def NoticeBody.kindCode : NoticeBody → Nat
  | .passOpened _ _ _ _ => 1
  | .passClosed _ _ _ => 2
  | .alarmRaised _ _ _ _ => 3
  | .passDropped _ => 4
  | .configPromoted _ _ => 5
  | .faultChanged _ _ => 6
  | .overflow _ => 7

/-- The flag of word 0: UNRECORDED or NOT_STORED. -/
def NoticeBody.flag : NoticeBody → Bool
  | .passOpened _ _ _ unrecorded => unrecorded
  | .alarmRaised _ _ _ notStored => notStored
  | .passClosed _ _ _ => false
  | .passDropped _ => false
  | .configPromoted _ _ => false
  | .faultChanged _ _ => false
  | .overflow _ => false

/-- The track, source and indication codes of a FAULT_CHANGED notice, and its word 3 (R190). -/
def FaultSource.fields : FaultSource → Nat × Nat × Nat × Word
  | .held i => (trackNumber (sensorOfInput i).1, 1, 1, fieldAt i.val 32 0)
  | .suspect i => (trackNumber (sensorOfInput i).1, 1, 2, fieldAt i.val 32 0)
  | .drifted t rail bay =>
    (trackNumber t, 2, 3, fieldAt (railCode rail) 8 24 ||| fieldAt (bay.val + 1) 8 16)
  | .underflow t => (trackNumber t, 4, 4, 0)
  | .scanner i => (trackNumber (scannerOfLink i).1, 3, 5, fieldAt i.val 32 0)

/-- Words 2 and 3 of a notice. -/
def NoticeBody.content : NoticeBody → List Word
  | .passOpened pass t d _ =>
    [fieldAt pass 16 16 ||| fieldAt (trackNumber t) 8 8 ||| fieldAt d.code 8 0, 0]
  | .passClosed pass t reason =>
    [fieldAt pass 16 16 ||| fieldAt (trackNumber t) 8 8 ||| fieldAt reason.code 8 0, 0]
  | .alarmRaised number kind level _ =>
    [fieldAt (presentOr 32 number) 32 0, fieldAt kind.code 8 24 ||| fieldAt level.code 8 16]
  | .passDropped pass => [fieldAt pass 16 16, 0]
  | .configPromoted area generation => [fieldAt area.code 8 24 ||| fieldAt generation 16 0, 0]
  | .faultChanged source value =>
    let f := source.fields
    [fourBytes f.1 f.2.1 f.2.2.1 value, f.2.2.2]
  | .overflow count => [fieldAt count 16 0, 0]

/-- The 4 words of a notice. -/
def Notice.words (n : Notice) : List Word :=
  [fieldAt n.body.kindCode 8 24 ||| flagBit n.body.flag 0, n.sentAt] ++ n.body.content

/-! ### LIST PASSES -/

/-- The state code of a LIST PASSES entry (R189). -/
def PassState.listCode : PassState → Nat
  | .opened => 0
  | .closed => 1
  | .closing => 2

/-- R142, R189: the two words of a LIST PASSES entry as a port sees it. -/
def HeldPass.listWords (p : HeldPass) (asking : Port) : List Word :=
  [fieldAt p.number 16 16 ||| fieldAt (trackNumber p.track) 4 12 ||| fieldAt p.direction.code 4 8 |||
      fieldAt p.state.listCode 4 4 ||| flagBit (p.retention.get asking) 3 |||
      flagBit (p.release.get asking) 2 ||| flagBit p.fullyReleased 1,
    twoHalves p.axles.length p.vehicles.length]

/-! ### STATUS (R168) -/

/-- The two words of a track. -/
def State.statusTrack (s : State) (t : TrackId) : List Word :=
  let c := s.section t
  let store := s.config.tracks.get t
  [fieldAt c.state.code 8 24 ||| fieldAt c.count 8 16 ||| flagBit c.underflow 2 |||
      flagBit (match c.ctx with
        | none => false
        | some x => !x.recorded) 1 |||
      flagBit store.committed.isSome 0,
    twoHalves (presentOr 16 (c.ctx.map fun x => x.number)) store.activeGeneration]

/-- The word of a scanner link. -/
def Scanner.statusWord (x : Scanner) : Word :=
  fieldAt x.view.code 4 28 ||| fieldAt (if x.wantedOpen then 2 else 0) 4 24 |||
    fieldAt (signedField x.housing) 16 0

/-- The scanner of a link. -/
def State.linkScanner (s : State) (i : Fin 8) : Scanner :=
  s.scanner (scannerOfLink i).1 (scannerOfLink i).2

/-- The DRIFTED conditions of a track in the order of word 8. -/
def State.driftedBits (s : State) (t : TrackId) : List Bool :=
  allBays.map fun x => s.isDrifted t x.1 x.2

/-- The 23 words of the STATUS reply as a port sees them. -/
def State.statusWords (s : State) (asking : Port) : List Word :=
  [s.siteTime, s.stationTime,
    flagBit s.ports.a.attached 31 ||| flagBit s.ports.b.attached 30 |||
      fieldAt (s.port asking).notices.length 8 0] ++
  s.statusTrack .t1 ++ s.statusTrack .t2 ++
  [fieldAt (flagBits (eight.map fun i => (s.inputSensor i).held)) 8 8 |||
      fieldAt (flagBits (eight.map fun i => (s.inputSensor i).suspect)) 8 0,
    fieldAt (flagBits (s.driftedBits .t1 ++ s.driftedBits .t2)) 32 0] ++
  (eight.map fun i => (s.linkScanner i).statusWord) ++
  [fieldAt (signedField s.strain.ambient) 16 16 ||| fieldAt s.store.freeSlots 8 0,
    fieldAt s.store.freeAxleChunks 8 24 ||| fieldAt s.store.freeVehicleChunks 8 16 |||
      flagBit s.alarms.listFull 8 ||| fieldAt (flagBits (eight.map s.alarms.active)) 8 0,
    twoHalves s.alarms.list.length
      (s.alarms.list.filter fun r => r.acknowledged.isNone).length,
    fieldAt s.alarms.next 32 0,
    twoHalves s.config.generation s.config.site.activeGeneration,
    flagBit s.config.site.committed.isSome 0]

end Sys2Proof.Machine
end

