-- ==== Sys2Proof/Machine/Operands.lean ====
section
/-! DEFINITION. The serial frames of the station ports: the transaction phase as bytes arrive (R159), the
frame a command row completes (log 6), the arguments of each command and their checks (R162, R189), and
the forming of replies (R160). -/

namespace Sys2Proof.Machine

open Sys2Proof

/-! ### Transactions (R159) -/

/-- What a byte shifted in does to a transaction: it moves the phase on, or it completes a command frame. -/
inductive Shifted where
  | partly (phase : Phase)
  | complete (cmd : Byte) (args : List Byte)
  deriving DecidableEq, Repr

/-- R159: a byte taken by the phase in which it arrives. In REPLY the part shifts out the next byte of the
reply and ignores the byte; in DISCARDED and DESELECTED it has no effect. -/
def Phase.shift (p : Phase) (b : Byte) : Shifted :=
  match p with
  | .deselected => .partly .deselected
  | .command => .partly (.length b)
  | .length cmd => if b = 0 then .complete cmd [] else .partly (.arguments cmd b.toNat [])
  | .arguments cmd len got =>
    if len ≤ got.length + 1 then .complete cmd (got ++ [b]) else .partly (.arguments cmd len (got ++ [b]))
  | .reply out => .partly (.reply (out.drop 1))
  | .discarded => .partly .discarded

/-- The byte shifted out while a byte is shifted in (R159, R160): zero but within a reply. -/
def Phase.outByte (p : Phase) : Byte :=
  match p with
  | .reply (b :: _) => b
  | .reply [] => 0
  | .deselected => 0
  | .command => 0
  | .length _ => 0
  | .arguments _ _ _ => 0
  | .discarded => 0

/-- The frame that bytes complete from a phase, its last byte with the last of them; none where they
complete none, or one too early (log 6). -/
def takeFrame (p : Phase) : List Byte → Option (Byte × List Byte)
  | [] => none
  | b :: rest =>
    match p.shift b with
    | .partly q => takeFrame q rest
    | .complete cmd args => if rest = [] then some (cmd, args) else none

/-! ### Replies (R160, R189) -/

/-- The status codes of a reply (R162, R189). -/
inductive StatusCode where
  | ok | finished | already | clamped | unknownCommand | badLength | badArgument | notAttached
  | notHeld | passOpen | noView | invalid | trackState
  deriving DecidableEq, Repr

/-- The byte of a status code (R189); `finished` is END. -/
def StatusCode.code : StatusCode → Nat
  | .ok => 1
  | .finished => 2
  | .already => 3
  | .clamped => 4
  | .unknownCommand => 5
  | .badLength => 6
  | .badArgument => 7
  | .notAttached => 8
  | .notHeld => 9
  | .passOpen => 10
  | .noView => 11
  | .invalid => 12
  | .trackState => 13

/-- A reply: its status and its data. -/
structure Reply where
  status : StatusCode
  data : List Byte
  deriving DecidableEq, Repr

/-- A reply as it is shifted out (R189). -/
def Reply.bytes (r : Reply) : List Byte :=
  BitVec.ofNat 8 r.status.code :: (halfBytes r.data.length ++ r.data)

/-- What executing a command answers: the state it leaves and its reply. -/
abbrev Executed := State × Reply

/-- A reply without data that leaves the state as it is (R162). -/
def answer (s : State) (status : StatusCode) : Executed := (s, ⟨status, []⟩)

/-- The state with a port's reply formed (R160). -/
def State.putReply (s : State) (p : Port) (r : Reply) : State :=
  s.setPort p { s.port p with phase := .reply r.bytes, dataOut := 0 }

/-- A command row with the bytes that complete its frame: where they complete a frame of the row, the
command is executed and its reply formed; otherwise the bytes are no step of this row and nothing changes
(log 6). -/
def State.transact (s : State) (p : Port) (bytes : List Byte) (row : Byte → List Byte → Bool)
    (run : List Byte → State → Executed) : State :=
  match takeFrame (s.port p).phase bytes with
  | none => s
  | some frame =>
    if row frame.1 frame.2 then
      let done := run frame.2 s
      done.1.putReply p done.2
    else s

/-- The rows of one command byte. -/
def isCommand (code : Nat) (cmd : Byte) (_args : List Byte) : Bool := decide (cmd.toNat = code)

/-- The command bytes of R189. -/
def knownCommands : List Nat :=
  [1, 2, 3, 16, 17, 18, 19, 20, 21, 32, 33, 34, 48, 49, 50, 51, 52, 64, 65, 66, 67]

/-! ### Arguments (R162, R189) -/

/-- Bytes as a number, most significant first (R189). -/
def bytesNat (bytes : List Byte) : Nat := bytes.foldl (fun n b => 256 * n + b.toNat) 0

/-- The argument of some bytes from a place on. -/
def argument (args : List Byte) (start width : Nat) : Nat := bytesNat ((args.drop start).take width)

/-- The whole words in some bytes; a partial word at the end is dropped. `fuel` bounds their number. -/
def wholeWords : Nat → List Byte → List Word
  | 0, _ => []
  | fuel + 1, bytes =>
    if bytes.length < 4 then []
    else BitVec.ofNat 32 (bytesNat (bytes.take 4)) :: wholeWords fuel (bytes.drop 4)

/-- The area of a code (R189). -/
def areaOfCode : Nat → Option Area
  | 1 => some .site
  | 2 => some (.track .t1)
  | 3 => some (.track .t2)
  | _ => none

/-- The track of a number (R162). -/
def trackOfNumber : Nat → Option TrackId
  | 1 => some .t1
  | 2 => some .t2
  | _ => none

/-- R162, step 3: a pass number lies from 1 to 65,534. -/
def passNumberOk (n : Nat) : Bool := decide (1 ≤ n) && decide (n ≤ 65534)

/-- R162, R170: a word count lies from 1 to 64. -/
def wordCountOk (n : Nat) : Bool := decide (1 ≤ n) && decide (n ≤ 64)

/-- R170, R189: a start is CONTINUE or a word offset up to 16,383. -/
def startOk (n : Nat) : Bool := decide (n ≤ 16383) || decide (n = 65535)

/-- R162, steps 2 and 3, of a command of a fixed argument length: the length, then the arguments' ranges,
then the command. -/
def checked (s : State) (args : List Byte) (length : Nat) (inRange : Bool) (run : Executed) : Executed :=
  if args.length = length then (if inRange then run else answer s .badArgument)
  else answer s .badLength

/-- R162, step 4: a command that needs an attached port. -/
def needsAttached (s : State) (p : Port) (run : Executed) : Executed :=
  if (s.port p).attached then run else answer s .notAttached

/-! ### TRACK CONTROL and PURGE frames (R162, R171, R173) -/

/-- The actions of TRACK CONTROL. -/
inductive TrackAction where
  | abort | out | in_
  deriving DecidableEq, Repr

/-- The action of a code (R189). -/
def actionOfCode : Nat → Option TrackAction
  | 1 => some .abort
  | 2 => some .out
  | 3 => some .in_
  | _ => none

/-- The track and action of a TRACK CONTROL frame, where its length and arguments are right. -/
def trackArguments (args : List Byte) : Option (TrackId × TrackAction) :=
  if args.length = 2 then
    match trackOfNumber (argument args 0 1), actionOfCode (argument args 1 1) with
    | some t, some x => some (t, x)
    | _, _ => none
  else none

/-- The TRACK CONTROL frames of one action's row: those of the action, and those refused at steps 2 or 3
of R162, which no row owns (log 7). -/
def trackRow (action : TrackAction) (cmd : Byte) (args : List Byte) : Bool :=
  isCommand 64 cmd args &&
    match trackArguments args with
    | none => true
    | some x => decide (x.2 = action)

/-- A PURGE target set (R189). -/
structure PurgeTargets where
  faults : Bool
  notices : Bool
  acked : Bool
  released : Bool
  deriving DecidableEq, Repr

/-- The target set of a code; none for an empty set or one with a bit of no target (R173, R189). -/
def targetsOfCode (n : Nat) : Option PurgeTargets :=
  if n = 0 ∨ 16 ≤ n then none
  else some ⟨n.testBit 0, n.testBit 1, n.testBit 2, n.testBit 3⟩

/-- The target set of a PURGE frame, where its length and argument are right. -/
def purgeArguments (args : List Byte) : Option PurgeTargets :=
  if args.length = 1 then targetsOfCode (argument args 0 1) else none

/-- The PURGE frames of one target's row: those whose set holds the target, and those refused at steps 2
or 3 of R162 (log 7). -/
def purgeRow (target : PurgeTargets → Bool) (cmd : Byte) (args : List Byte) : Bool :=
  isCommand 65 cmd args &&
    match purgeArguments args with
    | none => true
    | some x => target x

end Sys2Proof.Machine
end

