-- ==== Sys2Proof/Machine/ConfigStore.lean ====
section
/-! DEFINITION. The configuration store (11_configuration_and_profiles.md): staging, reading, validation,
commit and abandon. Promotion stands in Promotion.lean. -/

namespace Sys2Proof.Machine

open Sys2Proof

/-- The length of an area in words (R191). -/
def areaLength : Area → Nat
  | .site => 348
  | .track _ => 82

/-- Words staged into a track area from an offset on, in order, and whether a field was clamped (R181). -/
def TrackArea.stage (a : TrackArea) (offset : Nat) : List Word → TrackArea × Bool
  | [] => (a, false)
  | w :: rest =>
    let one := a.stageWord offset w
    let others := one.1.stage (offset + 1) rest
    (others.1, one.2 || others.2)

/-- Words staged into the site area from an offset on, in order, and whether a field was clamped
(R181). -/
def SiteArea.stage (a : SiteArea) (offset : Nat) : List Word → SiteArea × Bool
  | [] => (a, false)
  | w :: rest =>
    let one := a.stageWord offset w
    let others := one.1.stage (offset + 1) rest
    (others.1, one.2 || others.2)

/-- R181: words staged into the staged image of an area; words beyond its end are discarded, which only a
truncated STAGE WRITE asks for (R161). Answers whether a field was clamped. -/
def State.stage (s : State) (area : Area) (offset : Nat) (words : List Word) : State × Bool :=
  match area with
  | .site =>
    let x := s.config.site.staged.stage offset words
    ({ s with config := { s.config with site := { s.config.site with staged := x.1 } } }, x.2)
  | .track t =>
    let store := s.config.tracks.get t
    let x := store.staged.stage offset words
    ({ s with config :=
        { s.config with tracks := s.config.tracks.set t { store with staged := x.1 } } }, x.2)

/-- The words of an area's staged image. -/
def State.stagedWords (s : State) (area : Area) : List Word :=
  match area with
  | .site => s.config.site.staged.words.toList
  | .track t => (s.config.tracks.get t).staged.words.toList

/-- The words of an area's active image. -/
def State.activeWords (s : State) (area : Area) : List Word :=
  match area with
  | .site => s.siteArea.words.toList
  | .track t => (s.area t).words.toList

/-! ### Validation (R183) -/

/-- The bays of a rail in order. -/
def TrackArea.railBays (a : TrackArea) (rail : Rail) : List BaySlot := eight.map fun b => a.bay rail b

/-- The set bays of a track area, each with its place. -/
def TrackArea.setBays (a : TrackArea) : List ((Rail × Fin 8) × BaySlot) :=
  (allBays.map fun x => (x, a.bay x.1 x.2)).filter fun x => x.2.set

/-- Check 1: the sensor positions are above 0. -/
def TrackArea.hasGeometry (a : TrackArea) : Bool :=
  decide (0 < a.sensorX .p .outer) && decide (0 < a.sensorX .p .inner) &&
    decide (0 < a.sensorX .q .inner) && decide (0 < a.sensorX .q .outer)

/-- Check 2: the sensors stand in their order. -/
def TrackArea.sensorsOrdered (a : TrackArea) : Bool :=
  decide (a.sensorX .p .outer < a.sensorX .p .inner) &&
    decide (a.sensorX .p .inner < a.sensorX .q .inner) &&
    decide (a.sensorX .q .inner < a.sensorX .q .outer)

/-- A number lies between two limits, both included. -/
def within (least greatest v : Nat) : Bool := decide (least ≤ v) && decide (v ≤ greatest)

/-- Check 3: the pair spacings lie from 200 to 1,000 mm. -/
def TrackArea.spacingsOk (a : TrackArea) : Bool :=
  within 200 1000 (a.pairSpacing .p) && within 200 1000 (a.pairSpacing .q)

/-- Check 4: the length of each set bay. -/
def TrackArea.bayLengthsOk (a : TrackArea) : Bool :=
  a.setBays.all fun x => within 300 2000 (x.2.stop - x.2.start)

/-- Check 5: each set bay lies inside (P2, Q2). -/
def TrackArea.baysInside (a : TrackArea) : Bool :=
  a.setBays.all fun x =>
    decide (a.sensorX .p .inner < x.2.start) && decide (x.2.stop < a.sensorX .q .inner)

/-- Two bays do not overlap. -/
def BaySlot.clearOf (x y : BaySlot) : Bool := decide (x.stop ≤ y.start) || decide (y.stop ≤ x.start)

/-- Check 6: no two set bays of one rail overlap. -/
def TrackArea.baysApart (a : TrackArea) : Bool :=
  a.setBays.all fun x => a.setBays.all fun y =>
    decide (x.1.1 ≠ y.1.1) || decide (x.1.2 = y.1.2) || x.2.clearOf y.2

/-- Check 7: each set bay's channel appears once in the scan list. -/
def TrackArea.channelsListed (a : TrackArea) : Bool :=
  a.setBays.all fun x => decide ((a.scanList.filter fun y => decide (y.1 = x.2.channel)).length = 1)

/-- Check 8: no set bay of the area shares its channel with another set bay of either track. -/
def TrackArea.channelsOwn (a other : TrackArea) : Bool :=
  (a.setBays.all fun x => a.setBays.all fun y =>
    decide (x.1 = y.1) || decide (x.2.channel ≠ y.2.channel)) &&
  a.setBays.all fun x => other.setBays.all fun y => decide (x.2.channel ≠ y.2.channel)

/-- Check 9: each scanner's gate lies inside (P2, Q2). -/
def TrackArea.gatesInside (a : TrackArea) : Bool :=
  scannerNames.all fun n =>
    decide (a.sensorX .p .inner + a.gateHalf n < a.scannerX n) &&
      decide (a.scannerX n + a.gateHalf n < a.sensorX .q .inner)

/-- The checks of R183 on one track area, in their order. -/
def TrackArea.checks (a other : TrackArea) : List Bool :=
  [a.hasGeometry, a.sensorsOrdered, a.spacingsOk, a.bayLengthsOk, a.baysInside, a.baysApart,
    a.channelsListed, a.channelsOwn other, a.gatesInside]

/-- The number, counting from 1, of the first check that fails. -/
def TrackArea.firstFailure (a other : TrackArea) : Option Nat :=
  ((a.checks other).findIdx? fun ok => !ok).map fun i => i + 1

/-- R183 with R189: the detail code of the first check that fails, TRACK 1 before TRACK 2. -/
def validate (one two : TrackArea) : Option Nat :=
  match one.firstFailure two with
  | some order => some (16 + order)
  | none =>
    match two.firstFailure one with
    | some order => some (32 + order)
    | none => none

/-! ### Commit and abandon -/

/-- R184: an area changes when its staged image differs from its active image or it was never active. -/
def AreaStore.changes {α : Type} [DecidableEq α] (x : AreaStore α) : Bool :=
  decide (x.staged ≠ x.active) || decide (x.activeGeneration = 0)

/-- R184, step 3, for one area. -/
def AreaStore.commit {α : Type} [DecidableEq α] (x : AreaStore α) (generation : Nat) : AreaStore α :=
  { x with committed := if x.changes then some (x.staged, generation) else none }

/-- R184, step 1: the generation after another. -/
def nextGeneration (g : Nat) : Nat := if g < 65535 then g + 1 else 1

/-- R184, steps 1 to 3. -/
def ConfigStore.commit (c : ConfigStore) : ConfigStore :=
  let g := nextGeneration c.generation
  { generation := g
    site := c.site.commit g
    tracks := ⟨c.tracks.t1.commit g, c.tracks.t2.commit g⟩ }

/-- R183: the validation of the staged copy. -/
def ConfigStore.validate (c : ConfigStore) : Option Nat :=
  Machine.validate c.tracks.t1.staged c.tracks.t2.staged

/-- R184: a COMMIT whose validation passes. Of each IDLE track whose area it promotes it keeps what an event of
the same site time, taken second, is judged by (R187, log 39). -/
def State.commitConfig (s : State) : State :=
  (({ s with config := s.config.commit }.keepCoinciding .t1).keepCoinciding .t2).promoteReady

/-- R185, R188: an area's active image copied into its staged image. -/
def AreaStore.unstage {α : Type} (x : AreaStore α) : AreaStore α := { x with staged := x.active }

/-- R185 for one area. -/
def AreaStore.abandon {α : Type} (x : AreaStore α) : AreaStore α :=
  { x with staged := x.active, committed := none }

/-- R185: ABANDON. An area whose active generation is 0 has its default image active (R177). -/
def ConfigStore.abandon (c : ConfigStore) : ConfigStore :=
  { c with site := c.site.abandon, tracks := ⟨c.tracks.t1.abandon, c.tracks.t2.abandon⟩ }

/-- R188: the staged images after a warm reset. -/
def ConfigStore.unstage (c : ConfigStore) : ConfigStore :=
  { c with site := c.site.unstage, tracks := ⟨c.tracks.t1.unstage, c.tracks.t2.unstage⟩ }

end Sys2Proof.Machine
end

