-- ==== Sys2Proof/Machine/Resets.lean ====
section
/-! DEFINITION. The full reset (R176) and the warm reset (R175), with each block's part in them. -/

namespace Sys2Proof.Machine

open Sys2Proof

/-! ### Full reset -/

/-- R4, R23: an input filter after a full reset; the level of the pin is what it is (log 8). -/
def InputFilter.fullReset (f : InputFilter) : InputFilter := { InputFilter.reset with raw := f.raw }

/-- R4: a wheel sensor after a full reset. -/
def Sensor.fullReset (x : Sensor) : Sensor := { Sensor.reset with filter := x.filter.fullReset }

/-- The sensors of a track after a full reset. -/
def fullResetSensors (x : PerEnd (PerRole Sensor)) : PerEnd (PerRole Sensor) :=
  ⟨⟨x.p.outer.fullReset, x.p.inner.fullReset⟩, ⟨x.q.outer.fullReset, x.q.inner.fullReset⟩⟩

/-- R20: a section controller after a full reset; its approach pins keep their levels. -/
def SectionController.fullReset (c : SectionController) : SectionController :=
  { SectionController.reset with approach := ⟨c.approach.p.fullReset, c.approach.q.fullReset⟩ }

/-- R159, R176: a station port after a full reset; where select is held asserted it is DISCARDED. -/
def StationPort.fullReset (p : StationPort) : StationPort :=
  { StationPort.reset with phase := if p.phase = .deselected then .deselected else .discarded }

/-- R176: the state after a full reset. The queue of commands and the running number of the free choices
are the model's own and are kept (log 25). -/
def State.fullReset (s : State) : State :=
  { State.reset with
    sensors := ⟨fullResetSensors s.sensors.t1, fullResetSensors s.sensors.t2⟩
    sections := ⟨s.sections.t1.fullReset, s.sections.t2.fullReset⟩
    ports := s.ports.map StationPort.fullReset
    choice := s.choice
    pending := s.pending }

/-- FULL_RESET (R176). -/
def execFullReset (s : State) : Host.Outcome State Fault Refusal := .next s.fullReset

/-! ### Warm reset -/

/-- R4: HELD and SUSPECT cleared on a sensor. -/
def Sensor.clearIndications (x : Sensor) : Sensor := { x with held := false, suspect := false }

/-- R4: HELD and SUSPECT cleared on the sensors of a track. -/
def clearIndications (x : PerEnd (PerRole Sensor)) : PerEnd (PerRole Sensor) :=
  ⟨⟨x.p.outer.clearIndications, x.p.inner.clearIndications⟩,
    ⟨x.q.outer.clearIndications, x.q.inner.clearIndications⟩⟩

/-- R4: HELD and SUSPECT cleared on all eight sensors. -/
def State.clearAllIndications (s : State) : State :=
  { s with sensors := ⟨clearIndications s.sensors.t1, clearIndications s.sensors.t2⟩ }

/-- R44, R45, R70: a configured track at a warm reset, its open pass being closed: to IDLE with count 0,
COUNT_UNDERFLOW clear and its inputs restarted. An UNCONFIGURED track stays as it is. -/
def State.settle (s : State) (t : TrackId) : State :=
  if s.configured t then
    let s := s.rest t false
    (s.setSection t { s.section t with underflow := false }).restartFilters t
  else s

/-- R44: the open passes of both tracks close RESET, in an order that is a free choice where both have
one (log 14). -/
def State.closeForReset (s : State) : State :=
  if (s.ctx .t1).isSome && (s.ctx .t2).isSome then
    let first := if Config.track1ClosesFirst s.choice then TrackId.t1 else TrackId.t2
    let s := { s with choice := s.choice + 1 }
    (s.abandonPass first .reset).abandonPass (otherTrack first) .reset
  else (s.abandonPass .t1 .reset).abandonPass .t2 .reset

/-- R45, R62, R97, R158: the parts of the other blocks in a warm reset. -/
def State.resetBlocks (s : State) : State :=
  { s with
    pacers := ⟨s.pacers.t1.warmReset, s.pacers.t2.warmReset⟩
    strain := s.strain.warmReset
    scanners :=
      ⟨s.scanners.t1.map fun x => x.warmReset s.siteTime, s.scanners.t2.map fun x => x.warmReset s.siteTime⟩
    alarms := s.alarms.warmReset }

/-- R175: a transaction in progress at the port that did not send the RESET. -/
def Phase.afterReset (p : Phase) : Phase :=
  match p with
  | .command => .discarded
  | .length _ => .discarded
  | .arguments _ _ _ => .discarded
  | .deselected => .deselected
  | .reply out => .reply out
  | .discarded => .discarded

/-- R175: a port at a warm reset; its attachment is kept. -/
def StationPort.warmReset (p : StationPort) : StationPort :=
  { p with notices := [], view := .empty, phase := p.phase.afterReset }

/-- R175, R188: the warm reset. The port that sent the RESET has its reply put after it. -/
def State.warmReset (s : State) : State :=
  let s := ((s.closeForReset.clearAllIndications.settle .t1).settle .t2).resetBlocks
  let s := { s with ports := s.ports.map StationPort.warmReset }.promoteReady
  { s with config := s.config.unstage }

end Sys2Proof.Machine
end

