-- ==== Sys2Proof/Machine/StationPorts.lean ====
section
/-! DEFINITION. The station ports (10_station_ports.md): the commands of the serial link, the meaning of
every station command, and station time. -/

namespace Sys2Proof.Machine

open Sys2Proof

/-! ### The link (R159, R161) -/

/-- SELECT_ASSERT (R159): a DESELECTED port goes to COMMAND; the first bit presented is 0. -/
def execSelectAssert (now : SiteTime) (p : Port) (s : State) : Host.Outcome State Fault Refusal :=
  let s := s.atTime now
  match (s.port p).phase with
  | .deselected => .next (s.setPort p { s.port p with phase := .command, dataOut := 0 })
  | .command => .next s
  | .length _ => .next s
  | .arguments _ _ _ => .next s
  | .reply _ => .next s
  | .discarded => .next s

/-- R161: the words of a truncated STAGE WRITE that were received whole, staged without the length check
of R162. -/
def State.stageTruncated (s : State) (got : List Byte) : State :=
  match areaOfCode (argument got 0 1) with
  | none => s
  | some area =>
    if 7 ≤ got.length then
      (s.stage area (argument got 1 2) (wholeWords got.length (got.drop 3))).1
    else s

/-- R161: what a deassertion of select does with the transaction it ends. -/
def State.endTransaction (s : State) (p : Port) : State :=
  match (s.port p).phase with
  | .arguments cmd _ got => if cmd.toNat = 48 then s.stageTruncated got else s
  | .deselected => s
  | .command => s
  | .length _ => s
  | .reply _ => s
  | .discarded => s

/-- SELECT_DEASSERT (R159, R161). -/
def execSelectDeassert (now : SiteTime) (p : Port) (s : State) : Host.Outcome State Fault Refusal :=
  let s := (s.atTime now).endTransaction p
  .next (s.setPort p { s.port p with phase := .deselected })

/-- BYTE_SHIFTED_IN (R159): a byte that does not complete the frame. One that would complete it belongs
to the command's own row (log 6). -/
def execByteShiftedIn (now : SiteTime) (p : Port) (b : Byte) (s : State) :
    Host.Outcome State Fault Refusal :=
  let s := s.atTime now
  let x := s.port p
  match x.phase with
  | .deselected => .next s
  | _ =>
    match x.phase.shift b with
    | .partly q => .next (s.setPort p { x with phase := q, dataOut := x.phase.outByte })
    | .complete _ _ => .next s

/-- UNKNOWN_COMMAND (R162): a frame whose command byte names no command. -/
def execUnknownCommand (now : SiteTime) (p : Port) (bytes : List Byte) (s : State) :
    Host.Outcome State Fault Refusal :=
  .next ((s.atTime now).transact p bytes (fun cmd _ => !knownCommands.contains cmd.toNat)
    fun _ s => answer s .unknownCommand)

/-! ### STATUS and attachment (R164, R168) -/

/-- R168. -/
def State.runStatus (s : State) (p : Port) (args : List Byte) : Executed :=
  checked s args 0 true (s, ⟨.ok, wordsBytes (s.statusWords p)⟩)

/-- STATUS (R168). -/
def execStatus (now : SiteTime) (p : Port) (bytes : List Byte) (s : State) :
    Host.Outcome State Fault Refusal :=
  .next ((s.atTime now).transact p bytes (isCommand 1) fun args s => s.runStatus p args)

/-- R164: ATTACH. -/
def State.runAttach (s : State) (p : Port) (args : List Byte) : Executed :=
  checked s args 0 true
    (if (s.port p).attached then answer s .already
    else answer (s.setPort p { s.port p with attached := true }) .ok)

/-- ATTACH (R164). -/
def execAttach (now : SiteTime) (p : Port) (bytes : List Byte) (s : State) :
    Host.Outcome State Fault Refusal :=
  .next ((s.atTime now).transact p bytes (isCommand 2) fun args s => s.runAttach p args)

/-- R135: a closed pass that a port holds gets the port into its release set. -/
def HeldPass.releaseFor (x : HeldPass) (p : Port) : HeldPass :=
  if x.state = .closed ∧ x.retention.get p then { x with release := x.release.set p true } else x

/-- R164: DETACH carried out. -/
def State.detachPort (s : State) (p : Port) : State :=
  let s := { s with store := { s.store with passes := s.store.passes.map fun (x : HeldPass) => x.releaseFor p } }
  s.setPort p { s.port p with notices := [], attached := false }

/-- R164: DETACH. -/
def State.runDetach (s : State) (p : Port) (args : List Byte) : Executed :=
  checked s args 0 true
    (if (s.port p).attached then answer (s.detachPort p) .ok else answer s .already)

/-- DETACH (R164, R135). -/
def execDetach (now : SiteTime) (p : Port) (bytes : List Byte) (s : State) :
    Host.Outcome State Fault Refusal :=
  .next ((s.atTime now).transact p bytes (isCommand 3) fun args s => s.runDetach p args)

/-! ### Passes (R134, R139, R140, R142) -/

/-- R142, R189: LIST PASSES. -/
def State.runListPasses (s : State) (p : Port) (args : List Byte) : Executed :=
  checked s args 0 true
    (s, ⟨.ok, BitVec.ofNat 8 s.store.passes.length ::
      wordsBytes (s.store.passes.flatMap fun (x : HeldPass) => x.listWords p)⟩)

/-- LIST PASSES (R142). -/
def execListPasses (now : SiteTime) (p : Port) (bytes : List Byte) (s : State) :
    Host.Outcome State Fault Refusal :=
  .next ((s.atTime now).transact p bytes (isCommand 16) fun args s => s.runListPasses p args)

/-- The state with a port's view replaced. -/
def State.setView (s : State) (p : Port) (v : PassView) : State :=
  s.setPort p { s.port p with view := v }

/-- R139: SELECT PASS. -/
def State.runSelectPass (s : State) (p : Port) (args : List Byte) : Executed :=
  let n := argument args 0 2
  checked s args 2 (passNumberOk n)
    (if (s.store.find n).isSome then answer (s.setView p (.names n .header 0)) .ok
    else answer s .notHeld)

/-- SELECT PASS (R139). -/
def execSelectPass (now : SiteTime) (p : Port) (bytes : List Byte) (s : State) :
    Host.Outcome State Fault Refusal :=
  .next ((s.atTime now).transact p bytes (isCommand 17) fun args s => s.runSelectPass p args)

/-- R140: the words of a read section of a pass. -/
def HeldPass.partWords (p : HeldPass) : ReadPart → List Word
  | .header => p.headerWords
  | .axles => p.axles.flatMap AxleRecord.words
  | .vehicles => p.vehicles.flatMap VehicleRecord.words

/-- R140: where a read starts: at its offset, or with CONTINUE at the cursor in the same section. -/
def readStart (start : Nat) (part cursorPart : ReadPart) (offset : Nat) : Nat :=
  if start = 65535 then (if part = cursorPart then offset else 0) else start

/-- R140, R182: a read of a run of words: the words returned and the status, END where the run ended
before the count was met. -/
def readWords (words : List Word) (start count : Nat) : Reply :=
  let got := (words.drop start).take count
  ⟨if got.length = count then .ok else .finished, wordsBytes got⟩

/-- R140: the cursor after a read; it never passes the end of the section (log 33). -/
def cursorAfter (length start count : Nat) : Nat := min (start + count) length

/-- R139, R140: a read of a section through a port's view. -/
def State.readPart (s : State) (p : Port) (part : ReadPart) (start count : Nat) : Executed :=
  match (s.port p).view with
  | .empty => answer s .noView
  | .stale => answer (s.setView p .empty) .notHeld
  | .names n cursorPart offset =>
    match s.store.find n with
    | none => answer (s.setView p .empty) .notHeld
    | some x =>
      let words := x.partWords part
      let from_ := readStart start part cursorPart offset
      (s.setView p (.names n part (cursorAfter words.length from_ count)), readWords words from_ count)

/-- R162, R170: the arguments of the three READ commands. -/
def State.runRead (s : State) (p : Port) (part : ReadPart) (args : List Byte) : Executed :=
  let start := argument args 0 2
  let count := argument args 2 1
  checked s args 3 (startOk start && wordCountOk count) (s.readPart p part start count)

/-- READ HEADER (R140). -/
def execReadHeader (now : SiteTime) (p : Port) (bytes : List Byte) (s : State) :
    Host.Outcome State Fault Refusal :=
  .next ((s.atTime now).transact p bytes (isCommand 18) fun args s => s.runRead p .header args)

/-- READ AXLES (R140). -/
def execReadAxles (now : SiteTime) (p : Port) (bytes : List Byte) (s : State) :
    Host.Outcome State Fault Refusal :=
  .next ((s.atTime now).transact p bytes (isCommand 19) fun args s => s.runRead p .axles args)

/-- READ VEHICLES (R140). -/
def execReadVehicles (now : SiteTime) (p : Port) (bytes : List Byte) (s : State) :
    Host.Outcome State Fault Refusal :=
  .next ((s.atTime now).transact p bytes (isCommand 20) fun args s => s.runRead p .vehicles args)

/-- R134: a release taken at the store. -/
def State.releasePass (s : State) (p : Port) (n : Nat) : Executed :=
  match s.store.find n with
  | none => answer s .notHeld
  | some x =>
    if x.state ≠ .closed then answer s .passOpen
    else if !x.retention.get p || x.release.get p then answer s .already
    else
      answer { s with
        store := s.store.update n fun x => { x with release := x.release.set p true } } .ok

/-- R134, R162: RELEASE PASS. -/
def State.runReleasePass (s : State) (p : Port) (args : List Byte) : Executed :=
  let n := argument args 0 2
  checked s args 2 (passNumberOk n) (needsAttached s p (s.releasePass p n))

/-- RELEASE PASS (R134). -/
def execReleasePass (now : SiteTime) (p : Port) (bytes : List Byte) (s : State) :
    Host.Outcome State Fault Refusal :=
  .next ((s.atTime now).transact p bytes (isCommand 21) fun args s => s.runReleasePass p args)

/-! ### Notices and alarms (R153, R156, R167) -/

/-- R167: READ NOTICE at an attached port. -/
def State.readNotice (s : State) (p : Port) : Executed :=
  match (s.port p).notices with
  | [] => (s, ⟨.finished, wordsBytes [0]⟩)
  | n :: rest =>
    (s.setPort p { s.port p with notices := rest },
      ⟨.ok, wordsBytes (n.words ++ [fieldAt rest.length 32 0])⟩)

/-- R162, R167: READ NOTICE. -/
def State.runReadNotice (s : State) (p : Port) (args : List Byte) : Executed :=
  checked s args 0 true (needsAttached s p (s.readNotice p))

/-- READ NOTICE (R167). -/
def execReadNotice (now : SiteTime) (p : Port) (bytes : List Byte) (s : State) :
    Host.Outcome State Fault Refusal :=
  .next ((s.atTime now).transact p bytes (isCommand 32) fun args s => s.runReadNotice p args)

/-- R156: the records from a number on, up to a count, and whether there were fewer than asked for. -/
def readAlarms (list : List AlarmRecord) (start count : Nat) : Reply :=
  let got := (list.filter fun r => decide (start ≤ r.number)).take count
  ⟨if got.length = count then .ok else .finished, wordsBytes (got.flatMap AlarmRecord.words)⟩

/-- R156, R170: READ ALARMS; a starting number of 0 is taken as 1. -/
def State.runReadAlarms (s : State) (args : List Byte) : Executed :=
  let start := argument args 0 4
  let count := argument args 4 1
  checked s args 5 (decide (1 ≤ count) && decide (count ≤ 8))
    (s, readAlarms s.alarms.list (if start = 0 then 1 else start) count)

/-- READ ALARMS (R156). -/
def execReadAlarms (now : SiteTime) (p : Port) (bytes : List Byte) (s : State) :
    Host.Outcome State Fault Refusal :=
  .next ((s.atTime now).transact p bytes (isCommand 33) fun args s => s.runReadAlarms args)

/-- R153: an acknowledgement taken at the alarm list. -/
def State.ackAlarm (s : State) (p : Port) (number : Nat) : Executed :=
  match s.alarms.list.find? fun r => decide (r.number = number) with
  | none => answer s .notHeld
  | some r =>
    if r.acknowledged.isSome then answer s .already
    else
      answer { s with alarms := { s.alarms with
        list := acknowledge s.alarms.list number p, listFull := false } } .ok

/-- R153: ACK ALARM; no alarm has the number 0 (R170). -/
def State.runAckAlarm (s : State) (p : Port) (args : List Byte) : Executed :=
  checked s args 4 true (s.ackAlarm p (argument args 0 4))

/-- ACK ALARM (R153). -/
def execAckAlarm (now : SiteTime) (p : Port) (bytes : List Byte) (s : State) :
    Host.Outcome State Fault Refusal :=
  .next ((s.atTime now).transact p bytes (isCommand 34) fun args s => s.runAckAlarm p args)

/-! ### Configuration (R181 to R185) -/

/-- R181: words staged, unless the last would lie beyond the area's last word. -/
def State.stageWrite (s : State) (area : Area) (offset : Nat) (words : List Word) : Executed :=
  if areaLength area < offset + words.length then answer s .badArgument
  else
    let staged := s.stage area offset words
    answer staged.1 (if staged.2 then .clamped else .ok)

/-- R162, R181: STAGE WRITE: an area, an offset and at least one whole word. -/
def State.runStageWrite (s : State) (args : List Byte) : Executed :=
  if 7 ≤ args.length ∧ (args.length - 3) % 4 = 0 then
    match areaOfCode (argument args 0 1) with
    | none => answer s .badArgument
    | some area => s.stageWrite area (argument args 1 2) (wholeWords args.length (args.drop 3))
  else answer s .badLength

/-- STAGE WRITE (R181). -/
def execStageWrite (now : SiteTime) (p : Port) (bytes : List Byte) (s : State) :
    Host.Outcome State Fault Refusal :=
  .next ((s.atTime now).transact p bytes (isCommand 48) fun args s => s.runStageWrite args)

/-- R162, R172, R182: STAGE READ and ACTIVE READ, which differ in the image read. -/
def State.runAreaRead (s : State) (image : Area → List Word) (args : List Byte) : Executed :=
  let count := argument args 3 1
  match areaOfCode (argument args 0 1) with
  | none => checked s args 4 false (answer s .badArgument)
  | some area =>
    checked s args 4 (wordCountOk count) (s, readWords (image area) (argument args 1 2) count)

/-- STAGE READ (R182). -/
def execStageRead (now : SiteTime) (p : Port) (bytes : List Byte) (s : State) :
    Host.Outcome State Fault Refusal :=
  .next ((s.atTime now).transact p bytes (isCommand 49) fun args s => s.runAreaRead s.stagedWords args)

/-- ACTIVE READ (R182). -/
def execActiveRead (now : SiteTime) (p : Port) (bytes : List Byte) (s : State) :
    Host.Outcome State Fault Refusal :=
  .next ((s.atTime now).transact p bytes (isCommand 50) fun args s => s.runAreaRead s.activeWords args)

/-- R189: the byte of a COMMIT reply that shows which areas are still pending. -/
def ConfigStore.pendingBits (c : ConfigStore) : Nat :=
  flagBits [c.site.committed.isSome, c.tracks.t1.committed.isSome, c.tracks.t2.committed.isSome]

/-- R183, R184: COMMIT. -/
def State.runCommit (s : State) (args : List Byte) : Executed :=
  checked s args 0 true
    (match s.config.validate with
    | some detail => (s, ⟨.invalid, [BitVec.ofNat 8 detail]⟩)
    | none =>
      let done := s.commitConfig
      (done, ⟨.ok, halfBytes done.config.generation ++ [BitVec.ofNat 8 done.config.pendingBits]⟩))

/-- COMMIT (R184). -/
def execCommit (now : SiteTime) (p : Port) (bytes : List Byte) (s : State) :
    Host.Outcome State Fault Refusal :=
  .next ((s.atTime now).transact p bytes (isCommand 51) fun args s => s.runCommit args)

/-- R185: ABANDON. -/
def State.runAbandon (s : State) (args : List Byte) : Executed :=
  checked s args 0 true (answer { s with config := s.config.abandon } .ok)

/-- ABANDON (R185). -/
def execAbandon (now : SiteTime) (p : Port) (bytes : List Byte) (s : State) :
    Host.Outcome State Fault Refusal :=
  .next ((s.atTime now).transact p bytes (isCommand 52) fun args s => s.runAbandon args)

/-! ### TRACK CONTROL (R41, R42, R171) -/

/-- R41: TRACK ABORT. -/
def State.runTrackAbort (s : State) (t : TrackId) : Executed :=
  if s.configured t then answer (s.abortTrack t) .ok else answer s .trackState

/-- R42: TRACK OUT. -/
def State.runTrackOut (s : State) (t : TrackId) : Executed :=
  match (s.section t).state with
  | .unconfigured => answer s .trackState
  | .outOfService => answer s .already
  | .idle => answer (s.takeOut t) .ok
  | .approach => answer (s.takeOut t) .ok
  | .occupied => answer (s.takeOut t) .ok
  | .standing => answer (s.takeOut t) .ok
  | .clearing => answer (s.takeOut t) .ok
  | .draining => answer (s.takeOut t) .ok

/-- R42: TRACK IN. -/
def State.runTrackIn (s : State) (t : TrackId) : Executed :=
  if (s.section t).state = .outOfService then answer (s.takeIn t) .ok else answer s .trackState

/-- R162, R171: a TRACK CONTROL frame, its length and arguments checked. -/
def State.runTrackControl (s : State) (args : List Byte) (run : TrackId → Executed) : Executed :=
  match trackArguments args with
  | none => checked s args 2 false (answer s .badArgument)
  | some x => run x.1

/-- TRACK CONTROL, action ABORT (R41). -/
def execTrackAbort (now : SiteTime) (p : Port) (bytes : List Byte) (s : State) :
    Host.Outcome State Fault Refusal :=
  .next ((s.atTime now).transact p bytes (trackRow .abort)
    fun args s => s.runTrackControl args s.runTrackAbort)

/-- TRACK CONTROL, action OUT (R42). -/
def execTrackOut (now : SiteTime) (p : Port) (bytes : List Byte) (s : State) :
    Host.Outcome State Fault Refusal :=
  .next ((s.atTime now).transact p bytes (trackRow .out)
    fun args s => s.runTrackControl args s.runTrackOut)

/-- TRACK CONTROL, action IN (R42). -/
def execTrackIn (now : SiteTime) (p : Port) (bytes : List Byte) (s : State) :
    Host.Outcome State Fault Refusal :=
  .next ((s.atTime now).transact p bytes (trackRow .in_)
    fun args s => s.runTrackControl args s.runTrackIn)

/-! ### PURGE (R174) -/

/-- R9, R174: the notices of the SUSPECT indications that were set. -/
def State.suspectNotices (s : State) : List NoticeBody :=
  (eight.filter fun i => (s.inputSensor i).suspect).map fun i => .faultChanged (.suspect i) 0

/-- R39, R174: the notices of the COUNT_UNDERFLOW indications that were set. -/
def State.underflowNotices (s : State) : List NoticeBody :=
  ([TrackId.t1, .t2].filter fun t => (s.section t).underflow).map fun t => .faultChanged (.underflow t) 0

/-- R9: SUSPECT cleared on the sensors of a track. -/
def clearSuspects (x : PerEnd (PerRole Sensor)) : PerEnd (PerRole Sensor) :=
  ⟨⟨{ x.p.outer with suspect := false }, { x.p.inner with suspect := false }⟩,
    ⟨{ x.q.outer with suspect := false }, { x.q.inner with suspect := false }⟩⟩

/-- R174, target FAULTS. The two blocks' notices reach the queues in either order (log 13),
and those of one block are not ordered by any rule (log 24). -/
def State.purgeFaults (s : State) : State :=
  { s with
    sensors := ⟨clearSuspects s.sensors.t1, clearSuspects s.sensors.t2⟩
    sections :=
      ⟨{ s.sections.t1 with underflow := false }, { s.sections.t2 with underflow := false }⟩
  }.notifyTogether [s.suspectNotices] [s.underflowNotices]

/-- R174, target ACKED. -/
def State.purgeAcked (s : State) : State :=
  { s with alarms := { s.alarms with list := withoutAcknowledged s.alarms.list } }

/-- R138, R174, target RELEASED. -/
def State.purgeReleased (s : State) : State := State.reclaimReleased s.store.passes.length s

/-- R174, target NOTICES. -/
def State.purgeNotices (s : State) (p : Port) : State :=
  s.setPort p { s.port p with notices := [] }

/-- R174: the targets of a PURGE applied in their order. -/
def State.purge (s : State) (p : Port) (x : PurgeTargets) : State :=
  let s := if x.faults then s.purgeFaults else s
  let s := if x.acked then s.purgeAcked else s
  let s := if x.released then s.purgeReleased else s
  if x.notices then s.purgeNotices p else s

/-- R162, R173, R174: a PURGE frame. -/
def State.runPurge (s : State) (p : Port) (args : List Byte) : Executed :=
  match purgeArguments args with
  | none => checked s args 1 false (answer s .badArgument)
  | some x => answer (s.purge p x) .ok

/-- PURGE with FAULTS in its set (R174). -/
def execPurgeFaults (now : SiteTime) (p : Port) (bytes : List Byte) (s : State) :
    Host.Outcome State Fault Refusal :=
  .next ((s.atTime now).transact p bytes (purgeRow fun x => x.faults) fun args s => s.runPurge p args)

/-- PURGE with NOTICES in its set (R174). -/
def execPurgeNotices (now : SiteTime) (p : Port) (bytes : List Byte) (s : State) :
    Host.Outcome State Fault Refusal :=
  .next ((s.atTime now).transact p bytes (purgeRow fun x => x.notices) fun args s => s.runPurge p args)

/-- PURGE with ACKED in its set (R155, R174). -/
def execPurgeAcked (now : SiteTime) (p : Port) (bytes : List Byte) (s : State) :
    Host.Outcome State Fault Refusal :=
  .next ((s.atTime now).transact p bytes (purgeRow fun x => x.acked) fun args s => s.runPurge p args)

/-- PURGE with RELEASED in its set (R138, R174). -/
def execPurgeReleased (now : SiteTime) (p : Port) (bytes : List Byte) (s : State) :
    Host.Outcome State Fault Refusal :=
  .next ((s.atTime now).transact p bytes (purgeRow fun x => x.released) fun args s => s.runPurge p args)

/-! ### Station time (R169) -/

/-- R169: SET TIME. -/
def State.runSetTime (s : State) (args : List Byte) : Executed :=
  checked s args 4 true
    (answer { s with stationTime := BitVec.ofNat 32 (argument args 0 4), secondStart := s.siteTime } .ok)

/-- SET TIME (R169). -/
def execSetTime (now : SiteTime) (p : Port) (bytes : List Byte) (s : State) :
    Host.Outcome State Fault Refusal :=
  .next ((s.atTime now).transact p bytes (isCommand 66) fun args s => s.runSetTime args)

/-- R169: the second of station time in µs. -/
def secondLength : Nat := 1000000

/-- R169: the station time one second later; after the greatest value it goes on at 1. -/
def nextSecond (x : Word) : Word := if x = 4294967295 then 1 else x + 1

/-- STATION_TIME_ADVANCE (R169): a second of a set station time has passed. -/
def execStationTimeAdvance (now : SiteTime) (s : State) : Host.Outcome State Fault Refusal :=
  let s := s.atTime now
  if s.stationTime ≠ 0 ∧ secondLength ≤ interval s.secondStart now then
    .next { s with
      stationTime := nextSecond s.stationTime
      secondStart := s.secondStart + BitVec.ofNat 32 secondLength }
  else .next s

/-! ### RESET (R175) -/

/-- R175: RESET; the reply OK is formed before the reset and shifted out after it. -/
def State.runReset (s : State) (args : List Byte) : Executed :=
  checked s args 0 true (answer s.warmReset .ok)

/-- RESET (R175). -/
def execReset (now : SiteTime) (p : Port) (bytes : List Byte) (s : State) :
    Host.Outcome State Fault Refusal :=
  .next ((s.atTime now).transact p bytes (isCommand 67) fun args s => s.runReset args)

end Sys2Proof.Machine
end

