-- ==== Sys2Proof/Machine/Dispatch.lean ====
section
/-! DEFINITION. The dispatch of a command to its meaning: one arm per constructor of Instr. -/

namespace Sys2Proof.Machine

open Sys2Proof

def exec (i : Instr) (s : State) : Host.Outcome State Fault Refusal :=
  match i with
  | .fullReset => Sys2Proof.Machine.execFullReset s
  | .sensorRawChange now input level => Sys2Proof.Machine.execSensorRawChange now input level s
  | .debounceConfirm now input => Sys2Proof.Machine.execDebounceConfirm now input s
  | .heldTimerExpiry now input => Sys2Proof.Machine.execHeldTimerExpiry now input s
  | .pairTimeoutExpiry now track pairEnd => Sys2Proof.Machine.execPairTimeoutExpiry now track pairEnd s
  | .approachInputChange now track inputEnd level => Sys2Proof.Machine.execApproachInputChange now track inputEnd level s
  | .approachEdge now track inputEnd => Sys2Proof.Machine.execApproachEdge now track inputEnd s
  | .approachTimerExpiry now track => Sys2Proof.Machine.execApproachTimerExpiry now track s
  | .closeDelayExpiry now track => Sys2Proof.Machine.execCloseDelayExpiry now track s
  | .holdTimerExpiry now track => Sys2Proof.Machine.execHoldTimerExpiry now track s
  | .clearTimerExpiry now track => Sys2Proof.Machine.execClearTimerExpiry now track s
  | .quietTimerExpiry now track => Sys2Proof.Machine.execQuietTimerExpiry now track s
  | .paceTick now track => Sys2Proof.Machine.execPaceTick now track s
  | .zeroTimerExpiry now track => Sys2Proof.Machine.execZeroTimerExpiry now track s
  | .conversionEnd now sample => Sys2Proof.Machine.execConversionEnd now sample s
  | .linkMessageDiscarded now link => Sys2Proof.Machine.execLinkMessageDiscarded now link s
  | .scannerStatus now link report housing => Sys2Proof.Machine.execScannerStatus now link report housing s
  | .scannerLine now link seqNo pixels => Sys2Proof.Machine.execScannerLine now link seqNo pixels s
  | .silenceTimerExpiry now link => Sys2Proof.Machine.execSilenceTimerExpiry now link s
  | .openingTimerExpiry now link => Sys2Proof.Machine.execOpeningTimerExpiry now link s
  | .lineTimerExpiry now link => Sys2Proof.Machine.execLineTimerExpiry now link s
  | .spacingLimitPassed now track => Sys2Proof.Machine.execSpacingLimitPassed now track s
  | .pulseTimerExpiry now line => Sys2Proof.Machine.execPulseTimerExpiry now line s
  | .recoveryTimerExpiry now line => Sys2Proof.Machine.execRecoveryTimerExpiry now line s
  | .stationTimeAdvance now => Sys2Proof.Machine.execStationTimeAdvance now s
  | .selectAssert now port => Sys2Proof.Machine.execSelectAssert now port s
  | .selectDeassert now port => Sys2Proof.Machine.execSelectDeassert now port s
  | .unknownCommand now port bytes => Sys2Proof.Machine.execUnknownCommand now port bytes s
  | .status now port bytes => Sys2Proof.Machine.execStatus now port bytes s
  | .attach now port bytes => Sys2Proof.Machine.execAttach now port bytes s
  | .detach now port bytes => Sys2Proof.Machine.execDetach now port bytes s
  | .listPasses now port bytes => Sys2Proof.Machine.execListPasses now port bytes s
  | .selectPass now port bytes => Sys2Proof.Machine.execSelectPass now port bytes s
  | .readHeader now port bytes => Sys2Proof.Machine.execReadHeader now port bytes s
  | .readAxles now port bytes => Sys2Proof.Machine.execReadAxles now port bytes s
  | .readVehicles now port bytes => Sys2Proof.Machine.execReadVehicles now port bytes s
  | .releasePass now port bytes => Sys2Proof.Machine.execReleasePass now port bytes s
  | .readNotice now port bytes => Sys2Proof.Machine.execReadNotice now port bytes s
  | .readAlarms now port bytes => Sys2Proof.Machine.execReadAlarms now port bytes s
  | .ackAlarm now port bytes => Sys2Proof.Machine.execAckAlarm now port bytes s
  | .stageWrite now port bytes => Sys2Proof.Machine.execStageWrite now port bytes s
  | .stageRead now port bytes => Sys2Proof.Machine.execStageRead now port bytes s
  | .activeRead now port bytes => Sys2Proof.Machine.execActiveRead now port bytes s
  | .commit now port bytes => Sys2Proof.Machine.execCommit now port bytes s
  | .abandon now port bytes => Sys2Proof.Machine.execAbandon now port bytes s
  | .trackAbort now port bytes => Sys2Proof.Machine.execTrackAbort now port bytes s
  | .trackOut now port bytes => Sys2Proof.Machine.execTrackOut now port bytes s
  | .trackIn now port bytes => Sys2Proof.Machine.execTrackIn now port bytes s
  | .purgeFaults now port bytes => Sys2Proof.Machine.execPurgeFaults now port bytes s
  | .purgeNotices now port bytes => Sys2Proof.Machine.execPurgeNotices now port bytes s
  | .purgeAcked now port bytes => Sys2Proof.Machine.execPurgeAcked now port bytes s
  | .purgeReleased now port bytes => Sys2Proof.Machine.execPurgeReleased now port bytes s
  | .setTime now port bytes => Sys2Proof.Machine.execSetTime now port bytes s
  | .reset now port bytes => Sys2Proof.Machine.execReset now port bytes s
  | .byteShiftedIn now port byte => Sys2Proof.Machine.execByteShiftedIn now port byte s
  | .pacerFirstStep now track => Sys2Proof.Machine.execPacerFirstStep now track s
  | .approachInputInactive now track inputEnd => Sys2Proof.Machine.execApproachInputInactive now track inputEnd s

end Sys2Proof.Machine
end

