-- ==== Sys2Proof/Safety.lean ====
section
/-! DEFINITION. What counts as a safe state: the invariants that claims about every step are stated with,
each the part of the state a rule of spec/ keeps in order. -/

namespace Sys2Proof.Machine

open Sys2Proof

/-! ### Notice queues (R166, R167) -/

/-- The notice is an OVERFLOW. -/
def Notice.isOverflow (n : Notice) : Bool :=
  match n.body with
  | .overflow _ => true
  | .passOpened _ _ _ _ => false
  | .passClosed _ _ _ => false
  | .alarmRaised _ _ _ _ => false
  | .passDropped _ => false
  | .configPromoted _ _ => false
  | .faultChanged _ _ => false

/-- The newest notice of a queue is an OVERFLOW. -/
def newestIsOverflow (q : List Notice) : Bool :=
  match q.getLast? with
  | none => false
  | some n => n.isOverflow

/-- R166: at most 32 notices, an OVERFLOW only as the newest, and the 32nd entry always an OVERFLOW. -/
def queueOk (q : List Notice) : Bool :=
  decide (q.length ≤ 32) && q.dropLast.all (fun n => !n.isOverflow) &&
    (decide (q.length < 32) || newestIsOverflow q)

/-- R166, R167: a port's queue is in order, and a DETACHED port's queue is empty. -/
def StationPort.noticesOk (p : StationPort) : Bool := queueOk p.notices && (p.attached || p.notices.isEmpty)

/-- Both ports' notice queues are in order. -/
def State.noticesOk (s : State) : Bool := s.ports.a.noticesOk && s.ports.b.noticesOk

/-! ### The alarm list (R143, R145) -/

/-- R143, R145: at most 256 records, their numbers strictly increasing and below the next number, which
lies from 1 to 4,294,967,295. -/
def AlarmUnit.listOk (u : AlarmUnit) : Bool :=
  decide (u.list.length ≤ 256) && decide ((u.list.map fun r => r.number).Pairwise (· < ·)) &&
    u.list.all (fun r => decide (r.number < u.next)) && decide (1 ≤ u.next) &&
    decide (u.next ≤ 4294967295)

/-! ### Sections and pacers (R20, R21, R45) -/

/-- R20: each timer is stopped outside the state it runs in. -/
def SectionController.timersOk (c : SectionController) : Bool :=
  (c.approachTimer.isNone || decide (c.state = .approach)) &&
    (c.holdTimer.isNone || decide (c.state = .occupied)) &&
    (c.clearTimer.isNone || decide (c.state = .clearing)) &&
    (c.quietTimer.isNone || decide (c.state = .draining)) &&
    (c.closeDelay.isNone || decide (c.state = .idle))

/-- R20, R21: the count is at most 32, the queue holds count entries while a pass is open and none
otherwise, and a pass is open exactly in OCCUPIED, STANDING and CLEARING. -/
def SectionController.countsOk (c : SectionController) : Bool :=
  decide (c.count ≤ 32) &&
    match c.state with
    | .occupied => decide (c.queue.length = c.count) && decide (1 ≤ c.count) && c.ctx.isSome
    | .standing => decide (c.queue.length = c.count) && decide (1 ≤ c.count) && c.ctx.isSome
    | .clearing => c.queue.isEmpty && decide (c.count = 0) && c.ctx.isSome
    | .draining => c.queue.isEmpty && c.ctx.isNone
    | .unconfigured => c.queue.isEmpty && decide (c.count = 0) && c.ctx.isNone
    | .outOfService => c.queue.isEmpty && decide (c.count = 0) && c.ctx.isNone
    | .idle => c.queue.isEmpty && decide (c.count = 0) && c.ctx.isNone
    | .approach => c.queue.isEmpty && decide (c.count = 0) && c.ctx.isNone

/-- Both section controllers are in order. -/
def State.sectionsOk (s : State) : Bool :=
  s.sections.t1.countsOk && s.sections.t1.timersOk && s.sections.t2.countsOk && s.sections.t2.timersOk

/-- R45: the states in which a pacer runs. -/
def TrackState.pacing : TrackState → Bool
  | .occupied => true
  | .clearing => true
  | .unconfigured => false
  | .outOfService => false
  | .idle => false
  | .approach => false
  | .standing => false
  | .draining => false

/-- R45: a pacer runs while its track is OCCUPIED or CLEARING, and a stopped pacer holds its accumulator
at 0. -/
def Pacer.okIn (p : Pacer) (state : TrackState) : Bool :=
  decide (p.running = state.pacing) && (p.running || (decide (p.acc = 0) && !p.fresh))

/-- Both pacers are in order. -/
def State.pacersOk (s : State) : Bool :=
  s.pacers.t1.okIn s.sections.t1.state && s.pacers.t2.okIn s.sections.t2.state

/-! ### The pass store (R127) -/

/-- R127, R26: at most sixteen held passes, no two with one number, the chunks held and free together
exactly the two pools of 64, and the pass counter from 1 to 65,534. -/
def PassStore.poolsOk (st : PassStore) : Bool :=
  decide (st.passes.length ≤ 16) && decide ((st.passes.map fun p => p.number).Pairwise (· ≠ ·)) &&
    decide (st.freeAxleChunks + (st.passes.map fun p => p.axleChunks).sum = 64) &&
    decide (st.freeVehicleChunks + (st.passes.map fun p => p.vehicleChunks).sum = 64) &&
    decide (1 ≤ st.nextPass) && decide (st.nextPass ≤ 65534)

/-- R128, R136: the held pass of a track's open pass is OPEN. -/
def State.openPassesOk (s : State) : Bool :=
  [TrackId.t1, .t2].all fun t =>
    match s.ctx t with
    | none => true
    | some c => s.store.passes.all fun p =>
      !decide (p.number = c.number ∧ p.track = t) || decide (p.state = .opened)

/-! ### Frames and replies, as statements speak of them -/

/-- The bytes complete, from the port's present phase, the frame of a command byte with some arguments
(R159). -/
abbrev Completes (s : State) (p : Port) (bytes : List Byte) (cmd : Nat) (args : List Byte) : Prop :=
  takeFrame (s.port p).phase bytes = some (BitVec.ofNat 8 cmd, args)

/-- A state at a site time with a port's reply formed: its status, its length in two bytes, its data
(R160, R189). -/
def State.replying (s : State) (now : SiteTime) (p : Port) (status : Nat) (data : List Byte) : State :=
  { s with
    siteTime := now
    ports := s.ports.set p { s.ports.get p with
      phase := .reply ([BitVec.ofNat 8 status, BitVec.ofNat 8 (data.length / 256),
        BitVec.ofNat 8 data.length] ++ data)
      dataOut := 0 } }

/-- R162, R189: the rows of a fixed argument length but TRACK CONTROL and PURGE, each with its command
byte and the length. -/
def fixedLengthRows : List ((SiteTime → Port → List Byte → Instr) × Nat × Nat) :=
  [(.status, 1, 0), (.attach, 2, 0), (.detach, 3, 0), (.listPasses, 16, 0), (.selectPass, 17, 2),
    (.readHeader, 18, 3), (.readAxles, 19, 3), (.readVehicles, 20, 3), (.releasePass, 21, 2),
    (.readNotice, 32, 0), (.readAlarms, 33, 5), (.ackAlarm, 34, 4), (.stageRead, 49, 4),
    (.activeRead, 50, 4), (.commit, 51, 0), (.abandon, 52, 0), (.setTime, 66, 4), (.reset, 67, 0)]

/-! ### Edges and pair events, as statements speak of them -/

/-- A rise of a sensor is confirmed at a site time and completes its pair's wait (R3, R12): it is pending
since `stamp` and has persisted for the debounce time, its sensor is not HELD, nothing is pending at the
partner and no edge is withheld, and the pair machine has held the partner's edge since `first`, not longer
than the pair timeout. -/
abbrev CompletesWait (s : State) (now stamp first : SiteTime) (input : Fin 8) (t : TrackId)
    (e : SectionEnd) (x : Role) : Prop :=
  sensorOfInput input = (t, e, x) ∧ (s.sensor t e x).filter = ⟨true, false, some stamp⟩ ∧
    (s.area t).debounceTime e x ≤ interval stamp now ∧ (s.sensor t e x).held = false ∧
    (s.sensor t e (partner x)).filter.pendingSince = none ∧
    s.pair t e = ⟨seenState (partner x) first, []⟩ ∧
    interval first stamp ≤ (s.area t).pairSpacing e * 3600

/-- The state at a site time in which a confirmed rise has set its sensor's level and occupancy start and
its pair machine is QUIET. -/
def State.afterRise (s : State) (now stamp : SiteTime) (t : TrackId) (e : SectionEnd) (x : Role) : State :=
  ({ s with siteTime := now }.setSensor t e x
    { s.sensor t e x with filter := ⟨true, true, none⟩, occupiedSince := some stamp }).setPair t e
      ⟨.quiet, []⟩

/-- The pacer with which a track takes a pair event of a pass: that of a STANDING track is started first (R33,
R48). -/
def State.pacerTaking (s : State) (t : TrackId) (now : SiteTime) : Pacer :=
  if (s.section t).state = .standing ∧ (s.pacer t).running = false then
    { s.pacer t with
      running := true, fresh := true, acc := 0, since := now, active := (s.pacer t).preload,
      waiting := false }
  else s.pacer t

/-- What an OCCUPIED track's single-sensor count from an edge of `seen` leaves (R9, R16, R27 to R29): the
silent sensor SUSPECT, the held speed and the pacers as they were; at the entry pair one axle more, at the
held speed, at the exit pair the head of the queue out and its record final, both with DEGRADED_TIMING. The
time of a count from the sensor reached first is its stamp and the transit time at the held speed, but not
later than `now`. -/
def CountedSingle (s u : State) (now first : SiteTime) (t : TrackId) (e : SectionEnd) (seen : Role)
    (c : PassContext) : Prop :=
  let transit := (2 * ((s.area t).pairSpacing e * 36000) + c.heldSpeed) / (2 * c.heldSpeed)
  let projected := first + BitVec.ofNat 32 transit
  let reachedFirst : Role := if e = entryEnd c.direction then .outer else .inner
  let time := if seen = reachedFirst then (if isLater projected now then now else projected) else first
  (u.sensor t e (partner seen)).suspect = true ∧ u.pacers = s.pacers ∧
  ∃ d, u.ctx t = some d ∧ d.number = c.number ∧ d.heldSpeed = c.heldSpeed ∧
    (e = entryEnd c.direction → ∃ a, (u.section t).queue = (s.section t).queue ++ [a] ∧
      (u.section t).count = (s.section t).count + 1 ∧
      d.entryCount = c.entryCount + 1 ∧ d.exitCount = c.exitCount ∧ a.index = c.entryCount + 1 ∧
      a.entryTime = time ∧ a.v = c.heldSpeed ∧ a.flags.degradedTiming = true ∧
      a.flags.overspeedClamped = false) ∧
    (e = exitEnd c.direction → ∀ a rest, (s.section t).queue = a :: rest →
      (u.section t).queue = rest ∧ (u.section t).count = (s.section t).count - 1 ∧
      d.entryCount = c.entryCount ∧ d.exitCount = c.exitCount + 1 ∧
      ∀ q, u.store.find c.number = some q → q.track = t → ∀ r ∈ q.axles, r.index = a.index →
        r.status = .final ∧ r.flags.degradedTiming = true)

/-! ### Promotion, as statements speak of it -/

/-- At a site time the inputs of a track are judged by the present state alone: no COMMIT of that site time
has kept what stood before it, or the track no longer waits for a train (R187, log 39). -/
abbrev Settled (s : State) (now : SiteTime) (t : TrackId) : Prop :=
  ∀ x, (s.section t).coinciding = some x → x.time = now →
    (s.section t).state ≠ .idle ∧ (s.section t).state ≠ .approach

/-- A COMMIT at a site time, the first of that site time, whose staged copy is valid, changes the area of a
track that is IDLE, and leaves `u` (R187). -/
abbrev CommittedFirst (s u : State) (now : SiteTime) (t : TrackId) : Prop :=
  (s.section t).state = .idle ∧ Settled s now t ∧ s.config.validate = none ∧
    (s.config.tracks.get t).changes = true ∧
    ∃ p bytes, Completes s p bytes 51 [] ∧ exec (.commit now p bytes) s = .next u

/-- What the promotion of a track area at a site time leaves of the state before it: the active image and
its generation with no pending mark (R186), an UNCONFIGURED track in IDLE with its zero timer started (R43,
R70), the filters and pair machines restarted (R4, R10, R23), and the working zeros and DRIFTED conditions
of the new area (R73, R74). -/
def Promoted (s u : State) (now : SiteTime) (t : TrackId) (image : TrackArea) (generation : Nat) : Prop :=
  u.area t = image ∧ (u.config.tracks.get t).activeGeneration = generation ∧
  (u.config.tracks.get t).committed = none ∧
  ((s.section t).state = .unconfigured → (u.section t).state = .idle ∧ (u.section t).count = 0 ∧
    (u.section t).approachTimer = none ∧ (u.section t).closeDelay = none ∧
    u.strain.zeroTimers.get t = some ⟨now, image.zeroInterval⟩) ∧
  (∀ e, u.pair t e = ⟨.quiet, []⟩ ∧
    (u.section t).approach.get e =
      ⟨((s.section t).approach.get e).raw, ((s.section t).approach.get e).raw, none⟩) ∧
  (∀ e x, let before := s.sensor t e x
    u.sensor t e x =
      { filter := ⟨before.filter.raw, before.filter.raw, none⟩
        occupiedSince :=
          if before.filter.raw = false then none
          else if before.held = true then before.occupiedSince else some now
        held := before.held && before.filter.raw
        suspect := before.suspect }) ∧
  (∀ rail b, u.zero t rail b =
    (if (image.bay rail b).set = false then none
    else if ((s.area t).bay rail b).set = true ∧
        ((s.area t).bay rail b).channel = (image.bay rail b).channel ∧
        ((s.area t).bay rail b).factoryZero = (image.bay rail b).factoryZero then s.zero t rail b
    else some (image.bay rail b).factoryZero)) ∧
  (∀ rail b, u.isDrifted t rail b = true ↔
    ∃ z, u.zero t rail b = some z ∧ image.zeroLimit < (z - (image.bay rail b).factoryZero).natAbs) ∧
  (∀ x, s.strain.scan = some x → x.track = t → u.strain.scan = some { x with promotedSince := true })

end Sys2Proof.Machine
end

