-- ==== Sys2Proof/Certificates/Slice0/Obligations.lean ====
section
/-! DEFINITION. The statements for the provers. -/

open Sys2Proof Sys2Proof.Machine

/-! ### The queue of commands and time -/

/-- A step takes the command at the front of the queue and runs it with the queue's rest. The model's choice
(log 2): on an empty queue it lets one microsecond pass and changes nothing else. -/
def Obligations.StepRunsTheFrontCommand : Prop :=
  (∀ (c : Instr) (rest : List Instr) (s : State), s.pending = c :: rest →
    step s = exec c { s with pending := rest }) ∧
  ∀ s : State, s.pending = [] → step s = .next { s with siteTime := s.siteTime + 1 }

/-- The spec gives no step a way to stop: every command answers a next state. The model's convention (log 1,
log 25): it leaves the queue as it is and, but for FULL_RESET, leaves the site time it carries. -/
def Obligations.EveryCommandAnswersANextState : Prop :=
  ∀ (c : Instr) (s : State), ∃ t, exec c s = .next t ∧ t.pending = s.pending ∧
    ∀ now, commandTime c = some now → t.siteTime = now

/-- R169: only SET TIME, the advance of a second and a full reset change station time. R164: only ATTACH,
DETACH and a full reset change a port's attachment, the first two only that of their own port. -/
def Obligations.StationTimeAndAttachmentChangeByTheirOwnSteps : Prop :=
  ∀ (c : Instr) (s t : State), exec c s = .next t →
    (t.stationTime ≠ s.stationTime →
      c = .fullReset ∨ (∃ now, c = .stationTimeAdvance now) ∨ ∃ now p bytes, c = .setTime now p bytes) ∧
    ∀ p, (t.port p).attached ≠ (s.port p).attached →
      c = .fullReset ∨ (∃ now bytes, c = .attach now p bytes ∧ (t.port p).attached = true) ∨
        ∃ now bytes, c = .detach now p bytes ∧ (t.port p).attached = false

/-- R186: a track area of the active configuration changes only while its track is at rest, and the site
area only while no pass is open. -/
def Obligations.ActiveAreasChangeOnlyAtRest : Prop :=
  ∀ (c : Instr) (s t : State), exec c s = .next t →
    (∀ tr, t.area tr ≠ s.area tr →
      (t.section tr).state = .idle ∨ (t.section tr).state = .outOfService ∨
        (t.section tr).state = .unconfigured) ∧
    (t.siteArea ≠ s.siteArea → t.ctx .t1 = none ∧ t.ctx .t2 = none)

/-! ### Invariants -/

/-- R166, R167: every step keeps the notice queues in order. -/
def Obligations.EveryStepKeepsNoticeQueues : Prop :=
  ∀ s t : State, s.noticesOk = true → step s = .next t → t.noticesOk = true

/-- R145, R143: every step keeps the alarm list in order. -/
def Obligations.EveryStepKeepsTheAlarmList : Prop :=
  ∀ s t : State, s.alarms.listOk = true → step s = .next t → t.alarms.listOk = true

/-- R20, R21: every step keeps the section counts, queues, open passes and timers in order. -/
def Obligations.EveryStepKeepsSections : Prop :=
  ∀ s t : State, s.sectionsOk = true → step s = .next t → t.sectionsOk = true

/-- R45: after every step each pacer runs exactly while its track is OCCUPIED or CLEARING, and a stopped one
holds its accumulator at 0. That a stopped pacer is not fresh, as the invariant asks too, is the model's
choice (log 37). -/
def Obligations.EveryStepKeepsPacers : Prop :=
  ∀ s t : State, s.pacersOk = true → step s = .next t → t.pacersOk = true

/-- R127, R26: every step keeps the pass store's slots and numbers in order, the chunks free and held together
exactly the 64 of each pool. R128: with it, every step keeps the held pass of each open pass OPEN. -/
def Obligations.EveryStepKeepsTheStorePools : Prop :=
  ∀ s t : State, s.store.poolsOk = true → step s = .next t →
    t.store.poolsOk = true ∧ (s.openPassesOk = true → t.openPassesOk = true)

/-- The state after reset meets each of the invariants. -/
def Obligations.InvariantsHoldAtReset : Prop :=
  State.reset.noticesOk = true ∧ State.reset.alarms.listOk = true ∧ State.reset.sectionsOk = true ∧
    State.reset.pacersOk = true ∧ State.reset.store.poolsOk = true ∧ State.reset.openPassesOk = true

/-- R145: but for a full reset, an unacknowledged alarm stays in the list; at most its acknowledgement
changes. -/
def Obligations.UnacknowledgedAlarmStaysListed : Prop :=
  ∀ (c : Instr) (s t : State) (r : AlarmRecord), c ≠ .fullReset → exec c s = .next t →
    r ∈ s.alarms.list → r.acknowledged = none →
    ∃ who, { r with acknowledged := who } ∈ t.alarms.list

/-! ### Resets -/

/-- What the spec gives for the state after a full reset (R20, R45, R60, R62, R74, R76, R97, R113, R127, R143,
R164, R166, R169, R177): among it the generations 0, no pending mark, and in every area the default image,
staged and active, with the defaults of R178 to R180. -/
def Obligations.ResetLeavesTheSpecValues : Prop :=
  (∀ t : TrackId,
    (State.reset.section t).state = .unconfigured ∧ (State.reset.section t).count = 0 ∧
    (State.reset.section t).queue = [] ∧ (State.reset.section t).ctx = none ∧
    (State.reset.section t).exitMarks = ⟨[], []⟩ ∧ (State.reset.section t).approachTimer = none ∧
    (State.reset.section t).holdTimer = none ∧ (State.reset.section t).clearTimer = none ∧
    (State.reset.section t).quietTimer = none ∧ (State.reset.section t).closeDelay = none ∧
    (State.reset.section t).underflow = false ∧
    (State.reset.pacer t).running = false ∧ (State.reset.pacer t).fresh = false ∧
    (State.reset.pacer t).acc = 0 ∧ (State.reset.pacer t).active = 0 ∧
    (State.reset.pacer t).preload = 0 ∧
    (∀ n, (State.reset.scanner t n).view = .closed ∧ (State.reset.scanner t n).wantedOpen = false ∧
      (State.reset.scanner t n).housing = none ∧ (State.reset.scanner t n).request = none ∧
      (State.reset.scanner t n).nextSeq = 0 ∧ (State.reset.scanner t n).openingTimer = none ∧
      (State.reset.scanner t n).openingFault = false ∧
      (State.reset.scanner t n).silence = some ⟨0, 3000000⟩) ∧
    State.reset.context t = none ∧ State.reset.alarms.openPass.get t = none ∧
    (State.reset.config.tracks.get t).activeGeneration = 0 ∧
    (State.reset.config.tracks.get t).committed = none ∧
    (∀ a ∈ [(State.reset.config.tracks.get t).staged, (State.reset.config.tracks.get t).active],
      (∀ e x, a.sensorX e x = 0 ∧ a.debounce e x = some 100) ∧ a.heldLimit = 120000000 ∧
      (∀ rail b, a.bay rail b = ⟨false, 0, 0, 0, 65536, 0⟩) ∧
      (∀ n, a.scannerX n = 0 ∧ a.gateHalf n = 200) ∧ a.paceSpacing = 10 ∧ a.margin = 50 ∧
      a.scanList = [(0, 0)] ∧ a.clearTime = 3000000 ∧ a.approachTimeout = 180000000 ∧
      a.closeDelay = 10000000 ∧ a.holdDistance = 25000 ∧ a.driftLimit = 150 ∧
      a.zeroInterval = 5000000 ∧ a.zeroLimit = 2000 ∧ a.wakeThreshold = 3000 ∧
      ∀ d, a.profile d = {
        bandLower := 50, bandUpper := 1600, nMin := 6, minLines := 3, diffMinAxles := 8,
        impactWarning := 28000, impactAlarm := 35000, ratioWarning := 180, hotWheel := 2500,
        axleAlarm := 34300, imbalanceLower := 380, imbalanceUpper := 620, bearingWarm := 600,
        bearingHot := 900, bearingDiff := 500, bearingCross := 400 }) ∧
    (∀ rail b, State.reset.zero t rail b = none ∧ State.reset.isDrifted t rail b = false) ∧
    State.reset.slot t = none ∧ State.reset.strain.zeroTimers.get t = none ∧
    (∀ e, (State.reset.pair t e).state = .quiet ∧
      ∀ x, (State.reset.sensor t e x).held = false ∧ (State.reset.sensor t e x).suspect = false)) ∧
  State.reset.strain.scan = none ∧ State.reset.strain.lastServed = .t2 ∧
  State.reset.strain.ambient = none ∧
  State.reset.store.passes = [] ∧ State.reset.store.freeAxleChunks = 64 ∧
  State.reset.store.freeVehicleChunks = 64 ∧ State.reset.store.nextPass = 1 ∧
  State.reset.alarms.list = [] ∧ State.reset.alarms.next = 1 ∧ State.reset.alarms.listFull = false ∧
  (∀ i, State.reset.alarms.active i = false ∧ State.reset.alarms.line i = ⟨[], .idle, false⟩) ∧
  State.reset.config.site.activeGeneration = 0 ∧ State.reset.config.site.committed = none ∧
  (∀ a ∈ [State.reset.config.site.staged, State.reset.config.site.active],
    (∀ vt ∈ a.vehicleTypes, vt.enabled = false ∧ vt.code = 1 ∧ vt.classCode = 3 ∧ vt.axles = 2 ∧
      vt.spacings = List.replicate 7 (0, 0) ∧ vt.afterGap = 0 ∧ vt.either = false ∧
      vt.grossLimit = 0) ∧
    (∀ x ∈ a.routingTable, x = ⟨false, none, 1, none, none, none, 0, .latch⟩) ∧ a.defaultLine = none ∧
    (∀ i, a.pulseTime i = 1000000 ∧ a.recoveryTime i = 1000000) ∧ a.ambientChannel = none ∧
    a.ambientZero = 0 ∧ a.ambientScale = 65536) ∧
  (∀ p, (State.reset.port p).attached = false ∧ (State.reset.port p).notices = [] ∧
    (State.reset.port p).view = .empty) ∧
  State.reset.siteTime = 0 ∧ State.reset.stationTime = 0 ∧ State.reset.config.generation = 0

/-- R176, R159: FULL_RESET brings every block to its reset state; a port whose select is asserted is
DISCARDED. The levels of the sensor and approach pins, the queue and the running number of the choices stay
(log 8, log 25), and no change is pending at any input. -/
def Obligations.FullResetRestoresReset : Prop :=
  ∀ s : State, ∃ t, exec .fullReset s = .next t ∧
    t.siteTime = 0 ∧ t.stationTime = 0 ∧ t.pairs = State.reset.pairs ∧ t.pacers = State.reset.pacers ∧
    t.strain = State.reset.strain ∧ t.scanners = State.reset.scanners ∧
    t.contexts = State.reset.contexts ∧ t.store = State.reset.store ∧ t.alarms = State.reset.alarms ∧
    t.config = State.reset.config ∧ t.pending = s.pending ∧ t.choice = s.choice ∧
    (∀ tr, (t.section tr) = { State.reset.section tr with approach := (t.section tr).approach }) ∧
    (∀ tr e, ((t.section tr).approach.get e).raw = ((s.section tr).approach.get e).raw ∧
      ((t.section tr).approach.get e).pendingSince = none) ∧
    (∀ tr e x, (t.sensor tr e x).held = false ∧ (t.sensor tr e x).suspect = false ∧
      (t.sensor tr e x).occupiedSince = none ∧ (t.sensor tr e x).filter.pendingSince = none ∧
      (t.sensor tr e x).filter.raw = (s.sensor tr e x).filter.raw) ∧
    ∀ p, (t.port p).attached = false ∧ (t.port p).notices = [] ∧ (t.port p).view = .empty ∧
      (t.port p).phase = (if (s.port p).phase = .deselected then .deselected else .discarded)

/-- R175, R44, R45, R62, R97, R158, R4, R8, R9: RESET is answered OK; no pass is open and each configured
track is IDLE with count 0 and COUNT_UNDERFLOW clear, HELD and SUSPECT are clear on every sensor, the pacers,
the converter, the scanners and the lines are at rest, the ports keep their attachment with an empty view,
and the other port's unfinished transaction is discarded. The ambient value is kept where no site area is
pending (R188, R76). R4, R10, R23, R70: on a configured track the filters of the sensors and approach inputs
restart at their raw levels, a high sensor starting an occupancy interval now, the pair machines are QUIET,
and of the section's timers and the zero timer only the zero timer runs, with the zero interval of the area
before a pending one (log 18). -/
def Obligations.WarmResetBringsTheTracksToRest : Prop :=
  ∀ (now : SiteTime) (p : Port) (bytes : List Byte) (s : State), Completes s p bytes 67 [] →
    ∃ t, exec (.reset now p bytes) s = .next t ∧
      t.siteTime = now ∧ t.stationTime = s.stationTime ∧ t.secondStart = s.secondStart ∧
      (t.port p).phase = .reply [1, 0, 0] ∧
      (∀ q, q ≠ p → (t.port q).phase = (s.port q).phase.afterReset) ∧
      (∀ q, (t.port q).attached = (s.port q).attached ∧ (t.port q).view = .empty) ∧
      t.config.generation = s.config.generation ∧
      (s.config.site.committed = none → t.strain.ambient = s.strain.ambient) ∧
      t.strain.scan = none ∧ t.strain.slots = ⟨none, none⟩ ∧
      (∀ i, (t.alarms.line i) = ⟨[], .idle, false⟩) ∧
      (∀ tr, t.ctx tr = none ∧ (s.configured tr = true →
        (t.section tr).state = .idle ∧ (t.section tr).count = 0 ∧ (t.section tr).underflow = false ∧
        (t.section tr).closeDelay = none ∧ (t.section tr).approachTimer = none ∧
        (t.section tr).holdTimer = none ∧ (t.section tr).clearTimer = none ∧
        (t.section tr).quietTimer = none ∧
        t.strain.zeroTimers.get tr = some ⟨now, (s.area tr).zeroInterval⟩ ∧
        ∀ e, t.pair tr e = ⟨.quiet, []⟩ ∧
          (let raw := ((s.section tr).approach.get e).raw
          (t.section tr).approach.get e = ⟨raw, raw, none⟩) ∧
          ∀ x, let raw := (s.sensor tr e x).filter.raw
            (t.sensor tr e x).filter = ⟨raw, raw, none⟩ ∧
            (t.sensor tr e x).occupiedSince = (if raw = true then some now else none))) ∧
      (∀ tr, (t.pacer tr).running = false ∧ (t.pacer tr).fresh = false ∧ (t.pacer tr).acc = 0 ∧
        (t.pacer tr).active = 0 ∧ (t.pacer tr).preload = 0) ∧
      (∀ tr n, t.scanner tr n = { s.scanner tr n with
        view := .closed, wantedOpen := false, openingTimer := none, openingFault := false,
        silence := some ⟨now, 3000000⟩, request := none,
        sent := .shutterClose :: (s.scanner tr n).sent }) ∧
      (∀ tr e x, (t.sensor tr e x).held = false ∧ (t.sensor tr e x).suspect = false)

/-- What a warm reset keeps. R158, R145: the alarm list, its next number and LIST_FULL where no pass was open;
where one was, every unacknowledged alarm stays, the next number is no less and LIST_FULL does not clear.
R188, R74, R73: where an area has no pending image, its active image and generation, and a track's working
zeros and DRIFTED conditions; a pending area's committed image is active with its generation. Every staged
image is the active one. R175: the notice queues were emptied before the promotions, so that they hold what
promotions send only, and nothing where none is pending. R127, R44, R133: the held passes stay where no pass
was open; a recorded open pass is CLOSED with RESET, its retention set the attached ports, and, where the
held passes of the open ones are OPEN, still held where a port is attached; any other pass, of no matching
context either, that some port holds and none has released stays as it is. -/
def Obligations.WarmResetKeepsRecordsAndImages : Prop :=
  ∀ (now : SiteTime) (p : Port) (bytes : List Byte) (s : State), Completes s p bytes 67 [] →
    ∃ u, exec (.reset now p bytes) s = .next u ∧
      (s.ctx .t1 = none → s.ctx .t2 = none → u.store = s.store ∧ u.alarms.list = s.alarms.list ∧
        u.alarms.next = s.alarms.next ∧ u.alarms.listFull = s.alarms.listFull) ∧
      (∀ r ∈ s.alarms.list, r.acknowledged = none → r ∈ u.alarms.list) ∧
      s.alarms.next ≤ u.alarms.next ∧ (s.alarms.listFull = true → u.alarms.listFull = true) ∧
      (∀ t, (s.config.tracks.get t).committed = none → u.area t = s.area t ∧
        (u.config.tracks.get t).activeGeneration = (s.config.tracks.get t).activeGeneration ∧
        u.strain.zeros.get t = s.strain.zeros.get t ∧ u.strain.drifted.get t = s.strain.drifted.get t) ∧
      (s.config.site.committed = none → u.siteArea = s.siteArea ∧
        u.config.site.activeGeneration = s.config.site.activeGeneration) ∧
      (∀ t x, (s.config.tracks.get t).committed = some x →
        u.area t = x.1 ∧ (u.config.tracks.get t).activeGeneration = x.2) ∧
      (∀ x, s.config.site.committed = some x →
        u.siteArea = x.1 ∧ u.config.site.activeGeneration = x.2) ∧
      (∀ t, (u.config.tracks.get t).committed = none ∧ (u.config.tracks.get t).staged = u.area t) ∧
      u.config.site.committed = none ∧ u.config.site.staged = u.siteArea ∧
      (s.config.site.committed = none → (∀ t, (s.config.tracks.get t).committed = none) →
        ∀ q, (u.port q).notices = []) ∧
      (∀ q, ∀ n ∈ (u.port q).notices, n.sentAt = now ∧
        ((∃ area g, n.body = .configPromoted area g) ∨ (∃ source v, n.body = .faultChanged source v) ∨
          ∃ k, n.body = .overflow k)) ∧
      (s.store.poolsOk = true → ∀ t c x, s.ctx t = some c → s.store.find c.number = some x →
        x.track = t →
        (∀ q, u.store.find c.number = some q → q.state = .closed ∧ q.endReason = some .reset ∧
          q.closeSite = some now ∧ q.release = ⟨false, false⟩ ∧
          q.retention = ⟨s.ports.a.attached, s.ports.b.attached⟩) ∧
        (s.openPassesOk = true → s.ports.a.attached = true ∨ s.ports.b.attached = true →
          (u.store.find c.number).isSome = true)) ∧
      (s.store.poolsOk = true → ∀ y ∈ s.store.passes, (∀ t c, s.ctx t = some c → c.number ≠ y.number) →
        (∀ t m, s.context t = some m → m.pass ≠ y.number) → y.release = ⟨false, false⟩ →
        (y.retention.a = true ∨ y.retention.b = true) → y ∈ u.store.passes)

/-! ### Wheel sensors -/

/-- R3, R4: a raw change away from the filtered level becomes the pending change with its site time as
stamp, a change back cancels it, the inputs of an UNCONFIGURED track are not filtered, and a level that is
the present one is no change. The first two are stated where no COMMIT of the same site time counts (R187). -/
def Obligations.RawChangeFollowsTheFilter : Prop :=
  ∀ (now : SiteTime) (input : Fin 8) (level : Bool) (s : State) (t : TrackId) (e : SectionEnd) (x : Role),
    sensorOfInput input = (t, e, x) →
    let f := (s.sensor t e x).filter
    let withFilter := fun g : InputFilter =>
      ({ s with siteTime := now }.setSensor t e x { s.sensor t e x with filter := g })
    (Settled s now t → s.configured t = true → (s.area t).debounce e x ≠ none → level ≠ f.raw →
      f.raw = f.level →
      exec (.sensorRawChange now input level) s = .next (withFilter ⟨level, f.level, some now⟩)) ∧
    (Settled s now t → s.configured t = true → level ≠ f.raw → level = f.level →
      (s.pair t e).withheld = [] →
      exec (.sensorRawChange now input level) s = .next (withFilter ⟨level, f.level, none⟩)) ∧
    (s.configured t = false → level ≠ f.raw →
      exec (.sensorRawChange now input level) s = .next (withFilter { f with raw := level })) ∧
    (level = f.raw →
      exec (.sensorRawChange now input level) s = .next { s with siteTime := now })

/-- R3, R6, R8, R7: with debounce off a fall is confirmed as it occurs and ends the occupancy interval of a
sensor that is not HELD; the next filtered fall of a HELD sensor ends HELD and the interval, with a notice,
and is not used in any other way; a sensor whose interval has lasted the held limit becomes HELD, with a
notice, and a machine that does not wait for it is not touched. The first is stated where no raw change of
the pair's outer sensor of the same microsecond waits in the queue (R5, log 9), and both falls where no
COMMIT of the same site time counts (R187). -/
def Obligations.OccupancyAndHeldFollowTheSensor : Prop :=
  ∀ (now stamp : SiteTime) (input : Fin 8) (s : State) (t : TrackId) (e : SectionEnd) (x : Role),
    sensorOfInput input = (t, e, x) →
    (Settled s now t → s.configured t = true → (s.area t).debounce e x = none →
      (s.sensor t e x).filter = ⟨true, true, none⟩ → (s.sensor t e x).held = false →
      (s.pair t e).withheld = [] → (s.sensor t e (partner x)).filter.pendingSince = none →
      (s.section t).state ≠ .draining →
      (∀ level, Instr.sensorRawChange now (inputOfSensor t e .outer) level ∉
        simultaneous now s.pending) →
      exec (.sensorRawChange now input false) s = .next ({ s with siteTime := now }.setSensor t e x
        { s.sensor t e x with filter := ⟨false, false, none⟩, occupiedSince := none })) ∧
    (Settled s now t → (s.sensor t e x).filter = ⟨false, true, some stamp⟩ →
      (s.area t).debounceTime e x ≤ interval stamp now → (s.sensor t e x).held = true →
      (s.pair t e).withheld = [] → (s.sensor t e (partner x)).filter.pendingSince = none →
      exec (.debounceConfirm now input) s =
        .next (({ s with siteTime := now }.setSensor t e x
          { s.sensor t e x with
            filter := ⟨false, false, none⟩, held := false, occupiedSince := none }).notify
          (.faultChanged (.held input) 0))) ∧
    ((s.sensor t e x).held = false → (s.sensor t e x).occupiedSince = some stamp →
      (s.area t).heldLimit ≤ interval stamp now → (s.pair t e).state = .quiet →
      exec (.heldTimerExpiry now input) s =
        .next (({ s with siteTime := now }.setSensor t e x { s.sensor t e x with held := true }).notify
          (.faultChanged (.held input) 1)))

/-- R3, R6, R11: a confirmed rise at a QUIET pair starts the occupancy interval and the machine's wait, both
with the pending stamp. R30: at the exit pair of an open pass it is the newest of the sensor's two exit marks,
with the pass tick total. R38: on a DRAINING track it restarts the quiet timer (from the present site time,
log 11). Stated where no COMMIT of the same site time counts (R187). -/
def Obligations.FirstRiseStartsTheWait : Prop :=
  ∀ (now stamp : SiteTime) (input : Fin 8) (s : State) (t : TrackId) (e : SectionEnd) (x : Role),
    sensorOfInput input = (t, e, x) → (s.sensor t e x).filter = ⟨true, false, some stamp⟩ →
    (s.area t).debounceTime e x ≤ interval stamp now → (s.sensor t e x).held = false →
    (s.sensor t e (partner x)).held = false →
    (s.sensor t e (partner x)).filter.pendingSince = none → s.pair t e = ⟨.quiet, []⟩ →
    Settled s now t →
    let marks := (s.section t).exitMarks
    let made : PerRole (List ExitMark) := match s.ctx t with
      | none => marks
      | some c =>
        if e = exitEnd c.direction then marks.set x ((⟨stamp, c.tickTotal⟩ :: marks.get x).take 2)
        else marks
    let quiet : Timer := if (s.section t).state = .draining then some ⟨now, (s.area t).clearTime⟩
      else (s.section t).quietTimer
    exec (.debounceConfirm now input) s =
      .next ((({ s with siteTime := now }.setSensor t e x
        { s.sensor t e x with
          filter := ⟨true, true, none⟩, occupiedSince := some stamp }).setPair t e
        ⟨match x with
          | .outer => .outerSeen stamp
          | .inner => .innerSeen stamp, []⟩).setSection t { s.section t with
        exitMarks := made, quietTimer := quiet })

/-- R12, R19, R38: the second rise of a pair completes an event, which a DRAINING track counts with
saturation, and the sensor activity restarts the quiet timer (from the present site time, log 11). R5, R15:
with debounce off at both sensors and both rises in one microsecond, the outer sensor's edge is taken first
although the inner sensor's change is delivered first (log 9), so that the event is inward. -/
def Obligations.SecondRiseCountsWhileDraining : Prop :=
  (∀ (now stamp first : SiteTime) (input : Fin 8) (s : State) (t : TrackId) (e : SectionEnd) (x : Role),
    CompletesWait s now stamp first input t e x →
    (s.section t).state = .draining → s.ctx t = none →
    exec (.debounceConfirm now input) s =
      .next ((s.afterRise now stamp t e x).setSection t { s.section t with
        quietTimer := some ⟨now, (s.area t).clearTime⟩
        count := match x with
          | .inner => min ((s.section t).count + 1) 32
          | .outer => (s.section t).count - 1 })) ∧
  ∀ (now : SiteTime) (s : State) (t : TrackId) (e : SectionEnd),
    (∀ x, (s.area t).debounce e x = none ∧ (s.sensor t e x).filter = ⟨false, false, none⟩ ∧
      (s.sensor t e x).held = false) →
    s.pair t e = ⟨.quiet, []⟩ → (s.section t).state = .draining → s.ctx t = none →
    Instr.sensorRawChange now (inputOfSensor t e .outer) true ∈ simultaneous now s.pending →
    let rise := fun (u : State) (x : Role) => u.setSensor t e x { s.sensor t e x with
      filter := ⟨true, true, none⟩, occupiedSince := some now }
    exec (.sensorRawChange now (inputOfSensor t e .inner) true) s =
      .next ((rise (rise { s with siteTime := now } .outer) .inner).setSection t { s.section t with
        quietTimer := some ⟨now, (s.area t).clearTime⟩
        count := min ((s.section t).count + 1) 32 })

/-- R26 to R28, R12: an inward event at rest opens a pass: it takes the next number, joins the store's list
OPEN, and its first axle is counted in. Stated for a next number that no held pass has, with a header slot
free. R187: where a COMMIT of the same site time is taken first, the area promotes and the pass opens with the
new image and its generation, and the inputs stay as the promotion has left them; that the event is the one
that the image before it measures is the model's choice (log 39). -/
def Obligations.InwardEventOpensAPass : Prop :=
  (∀ (now stamp first : SiteTime) (input : Fin 8) (s : State) (t : TrackId) (e : SectionEnd),
    CompletesWait s now stamp first input t e .inner →
    ((s.section t).state = .idle ∨ (s.section t).state = .approach) →
    s.ctx t = none → (s.section t).count = 0 → (s.section t).queue = [] →
    s.store.find s.store.nextPass = none → s.store.passes.length < 16 →
    ∃ u c a p, exec (.debounceConfirm now input) s = .next u ∧
      u = { s.afterRise now stamp t e .inner with
        sections := u.sections, pacers := u.pacers, strain := u.strain, scanners := u.scanners,
        contexts := u.contexts, store := u.store, alarms := u.alarms, ports := u.ports } ∧
      (u.section t).state = .occupied ∧ (u.section t).count = 1 ∧ (u.section t).queue = [a] ∧
      (u.section t).approachTimer = none ∧ (u.section t).closeDelay = none ∧
      a.index = 1 ∧ a.entryTime = stamp ∧ a.ticks = 0 ∧
      a.v = (pairSpeed ((s.area t).pairSpacing e) (interval first stamp)).1 ∧
      u.ctx t = some c ∧ c.number = s.store.nextPass ∧
      c.direction = (match e with
        | .p => .pq
        | .q => .qp) ∧
      c.entryCount = 1 ∧ c.exitCount = 0 ∧ c.heldSpeed = a.v ∧ c.ambient = s.strain.ambient ∧
      c.profile = (s.area t).profile c.direction ∧
      u.store.find c.number = some p ∧ p.state = .opened ∧ p.track = t ∧ p.direction = c.direction ∧
      p.openSite = stamp ∧ p.openStation = s.stationTime ∧
      (u.pacer t).running = true ∧
      u.section (otherTrack t) = s.section (otherTrack t) ∧
      u.pacer (otherTrack t) = s.pacer (otherTrack t) ∧
      u.context (otherTrack t) = s.context (otherTrack t) ∧
      (∀ n, u.scanner (otherTrack t) n = s.scanner (otherTrack t) n)) ∧
  ∀ (now stamp first : SiteTime) (input : Fin 8) (s u : State) (t : TrackId) (e : SectionEnd),
    CompletesWait s now stamp first input t e .inner → CommittedFirst s u now t →
    s.ctx t = none → (s.section t).count = 0 → (s.section t).queue = [] →
    s.store.find s.store.nextPass = none → s.store.passes.length < 16 →
    let generation := if s.config.generation < 65535 then s.config.generation + 1 else 1
    let image := (s.config.tracks.get t).staged
    u.area t = image ∧ (u.section t).state = .idle ∧
    ∃ v c a p, exec (.debounceConfirm now input) u = .next v ∧
      (v.section t).state = .occupied ∧ (v.section t).count = 1 ∧ (v.section t).queue = [a] ∧
      a.index = 1 ∧ a.entryTime = stamp ∧
      a.v = (pairSpeed ((s.area t).pairSpacing e) (interval first stamp)).1 ∧
      v.ctx t = some c ∧ c.number = s.store.nextPass ∧ c.heldSpeed = a.v ∧
      c.profile = image.profile c.direction ∧ c.trackGeneration = generation ∧
      c.siteGeneration = u.config.site.activeGeneration ∧ c.ambient = u.strain.ambient ∧
      v.store.find c.number = some p ∧ p.state = .opened ∧ p.track = t ∧
      p.trackGeneration = generation ∧ p.siteGeneration = c.siteGeneration ∧
      (v.pacer t).running = true ∧
      ((s.pacer t).running = false → (v.pacer t).active = incrementOf a.v image.paceSpacing) ∧
      (v.section t).holdTimer = some ⟨now, holdTime image.holdDistance a.v⟩ ∧
      v.config = u.config ∧ v.sensors = u.sensors ∧ v.pairs = u.pairs ∧
      v.section (otherTrack t) = u.section (otherTrack t)

/-- R28, R27, R33, R47: an inward event at the entry pair of an OCCUPIED track with fewer than 32 axles adds
an axle at the tail of the queue, sets the held speed, writes it to the pacer and restarts the hold timer.
R33, R48: a STANDING track first returns to OCCUPIED, its pacer started. -/
def Obligations.InwardEventCountsAnAxleIn : Prop :=
  ∀ (now stamp first : SiteTime) (input : Fin 8) (s : State) (t : TrackId) (e : SectionEnd)
    (c : PassContext), CompletesWait s now stamp first input t e .inner →
    ((s.section t).state = .occupied ∨ (s.section t).state = .standing) → s.ctx t = some c →
    e = entryEnd c.direction → (s.section t).count < 32 →
    let v := (pairSpeed ((s.area t).pairSpacing e) (interval first stamp)).1
    let standing := decide ((s.section t).state = .standing)
    let other := fun x : Timer => if standing = true then none else x
    ∃ u d a, exec (.debounceConfirm now input) s = .next u ∧
      u = { s.afterRise now stamp t e .inner with
        pacers := (s.setPacer t
          ((s.pacerTaking t now).write (incrementOf v (s.area t).paceSpacing))).pacers
        sections := u.sections, contexts := u.contexts, store := u.store, alarms := u.alarms,
        ports := u.ports } ∧
      u.section t = { s.section t with
        state := .occupied
        count := (s.section t).count + 1
        queue := (s.section t).queue ++ [a]
        ctx := some d
        approachTimer := other (s.section t).approachTimer
        clearTimer := other (s.section t).clearTimer
        closeDelay := other (s.section t).closeDelay
        holdTimer := some ⟨now, holdTime (s.area t).holdDistance v⟩ } ∧
      d = { c with
        entryCount := c.entryCount + 1, heldSpeed := v, speedMin := d.speedMin, speedMax := d.speedMax,
        speedSum := c.speedSum + v, storing := d.storing } ∧
      a = { a with index := c.entryCount + 1, entryTime := stamp, v := v, ticks := 0 } ∧
      u.section (otherTrack t) = s.section (otherTrack t) ∧
      u.context (otherTrack t) = s.context (otherTrack t)

/-- R29, R30, R31, R59: an outward event at the exit pair of an OCCUPIED track takes the head of the queue out
and finishes it: its stored record is FINAL, holds the load and thermal results of its accumulators (R78,
R109), and has the entry's flags with the event's joined to them, without FORCED_FINISH, with
SPEED_OUT_OF_BAND by the profile's weighing band. R30: its drift is that of the exit mark of the event's first
edge, absent where there is none, and one beyond the drift limit makes it POSITION_UNCERTAIN; the completing
edge makes an exit mark. The track goes to CLEARING when the section empties. R33, R48: a STANDING track first
returns to OCCUPIED, its pacer started. -/
def Obligations.OutwardEventTakesTheHeadOut : Prop :=
  ∀ (now stamp first : SiteTime) (input : Fin 8) (s : State) (t : TrackId) (e : SectionEnd)
    (c : PassContext) (a : AxleEntry) (rest : List AxleEntry),
    CompletesWait s now stamp first input t e .outer →
    ((s.section t).state = .occupied ∨ (s.section t).state = .standing) → s.ctx t = some c →
    e = exitEnd c.direction →
    (s.section t).queue = a :: rest → (s.section t).count = rest.length + 1 →
    let area := s.area t
    let speed := pairSpeed (area.pairSpacing e) (interval first stamp)
    let v := speed.1
    let wheels := wheelResults area (s.strain.drifted.get t) c.profile.nMin a
    let marks := (s.section t).exitMarks
    let sign : Int := match c.direction with
      | .pq => 1
      | .qp => -1
    let drift : Option Int := (marks.inner.find? fun m => decide (m.stamp = first)).map fun m =>
      (area.sensorX (entryEnd c.direction) .inner : Int) +
        sign * ((a.ticks : Int) - c.tickTotal + m.total) * area.paceSpacing - area.sensorX e .inner
    ∃ u d, exec (.debounceConfirm now input) s = .next u ∧
      u = { s.afterRise now stamp t e .outer with
        pacers := (s.setPacer t
          ((s.pacerTaking t now).write (incrementOf v area.paceSpacing))).pacers
        sections := u.sections, contexts := u.contexts, store := u.store, alarms := u.alarms,
        ports := u.ports, choice := u.choice } ∧
      (u.section t).queue = rest ∧ (u.section t).count = rest.length ∧ u.ctx t = some d ∧
      d = { c with exitCount := c.exitCount + 1, heldSpeed := v, rises := d.rises } ∧
      (u.section t).exitMarks = ⟨(⟨stamp, c.tickTotal⟩ :: marks.outer).take 2, marks.inner⟩ ∧
      (∀ q, u.store.find c.number = some q → q.track = t →
        ∀ r ∈ q.axles, r.index = a.index →
          r.status = .final ∧ r.wheels = wheels ∧ r.thermal = thermalResults c a ∧
          r.axleLoad = axleLoadOf wheels.l.load wheels.r.load ∧
          r.imbalance = imbalanceOf wheels.l.load wheels.r.load ∧
          r.drift = drift.map (fun x => max (-32767) (min 32767 x)) ∧
          r.flags = { a.flags with
            overspeedClamped := a.flags.overspeedClamped || speed.2
            forcedFinish := false
            speedOutOfBand := decide (a.v < c.profile.bandLower ∨ c.profile.bandUpper < a.v)
            positionUncertain := decide (∃ x ∈ drift, area.driftLimit < x.natAbs) }) ∧
      (rest = [] → (u.section t).state = .clearing ∧
        (u.section t).clearTimer = some ⟨now, (s.area t).clearTime⟩ ∧ (u.section t).holdTimer = none) ∧
      (rest ≠ [] → (u.section t).state = .occupied ∧
        (u.section t).holdTimer = some ⟨now, holdTime (s.area t).holdDistance v⟩) ∧
      u.section (otherTrack t) = s.section (otherTrack t) ∧
      u.context (otherTrack t) = s.context (otherTrack t)

/-- R36, R40, R31: an outward event at the entry pair of an OCCUPIED track, or an inward one at the exit pair,
is a reversal: every queued entry is finished, its stored record FINAL with FORCED_FINISH and no drift, the
pass closes and the track goes to DRAINING, one axle less or one more, at most 32. R37: an inward event at the
entry pair of an OCCUPIED track with count 32 is an overrun: the entries are finished so too, the pass closes
COUNT_OVERRUN without counting the axle, and the track goes to DRAINING with count 32. R33: a STANDING track
takes them so too. That the pacer, as it stops, is no longer fresh is the model's choice (log 37). -/
def Obligations.ReversalAndOverrunForceThePassOut : Prop :=
  ∀ (now stamp first : SiteTime) (input : Fin 8) (s : State) (t : TrackId) (e : SectionEnd) (x : Role)
    (c : PassContext), CompletesWait s now stamp first input t e x →
    ((s.section t).state = .occupied ∨ (s.section t).state = .standing) → s.ctx t = some c →
    let reversal := (x = .outer ∧ e = entryEnd c.direction) ∨ (x = .inner ∧ e = exitEnd c.direction)
    (reversal ∨ (x = .inner ∧ e = entryEnd c.direction ∧ (s.section t).count = 32)) →
    s.store.poolsOk = true →
    ∃ u, exec (.debounceConfirm now input) s = .next u ∧
      u = { s.afterRise now stamp t e x with
        pacers := u.pacers, sections := u.sections, strain := u.strain, contexts := u.contexts,
        store := u.store, alarms := u.alarms, ports := u.ports, config := u.config,
        choice := u.choice } ∧
      (reversal → (s.section t).state = .occupied → u.pacer t = { s.pacer t with
        running := false, fresh := false, acc := 0, waiting := false }) ∧
      (u.pacer t).running = false ∧ (u.pacer t).acc = 0 ∧
      (u.section t).state = .draining ∧ (u.section t).queue = [] ∧ u.ctx t = none ∧
      (u.section t).count = (if x = .outer then (s.section t).count - 1
        else if e = exitEnd c.direction then min ((s.section t).count + 1) 32 else 32) ∧
      (u.section t).quietTimer = some ⟨now, (s.area t).clearTime⟩ ∧
      (u.section t).holdTimer = none ∧
      (∀ p, s.store.find c.number = some p → p.track = t → ∃ q, u.store.find c.number = some q ∧
        q.state = .closed ∧
        q.endReason = some (if e = entryEnd c.direction ∧ x = .inner then .countOverrun else .reversed) ∧
        q.entryCount = some c.entryCount ∧ q.exitCount = some c.exitCount ∧
        ∀ r ∈ q.axles, (∃ a ∈ (s.section t).queue, a.index = r.index) →
          r.status = .final ∧ r.flags.forcedFinish = true ∧ r.drift = none) ∧
      u.config.tracks = s.config.tracks ∧ (s.config.site.committed = none → u.config = s.config) ∧
      u.section (otherTrack t) = s.section (otherTrack t) ∧
      u.pacer (otherTrack t) = s.pacer (otherTrack t) ∧
      u.context (otherTrack t) = s.context (otherTrack t)

/-- R34, R35, R39: the pair events of a CLEARING track. One inward at the entry pair returns it to OCCUPIED
and adds the axle to the same pass; one inward at the exit pair closes the pass NORMAL and opens the next
one in the opposite direction, the shutters not asked again, PASS_OPENED following PASS_CLOSED; one outward
at either pair sets COUNT_UNDERFLOW, with a notice where it was clear, and at the exit pair still counts.
R39: so does one outward at rest (stated where no COMMIT of the same site time counts, R187). -/
def Obligations.ClearingTrackTakesItsEvents : Prop :=
  ∀ (now stamp first : SiteTime) (input : Fin 8) (s : State) (t : TrackId) (e : SectionEnd) (x : Role),
    CompletesWait s now stamp first input t e x →
    let v := (pairSpeed ((s.area t).pairSpacing e) (interval first stamp)).1
    let underflowed := fun u : State => if (s.section t).underflow = true then u
      else u.notify (.faultChanged (.underflow t) 1)
    (x = .outer → ((s.section t).state = .idle ∨ (s.section t).state = .approach) → s.ctx t = none →
      Settled s now t →
      exec (.debounceConfirm now input) s = .next (underflowed
        ((s.afterRise now stamp t e x).setSection t { s.section t with underflow := true }))) ∧
    ∀ c, (s.section t).state = .clearing → s.ctx t = some c →
      (x = .outer → ∃ u, exec (.debounceConfirm now input) s = .next u ∧
        u = underflowed ((s.afterRise now stamp t e x).setSection t { s.section t with
          underflow := true
          exitMarks := (u.section t).exitMarks
          ctx := some { c with
            exitCount := if e = exitEnd c.direction then c.exitCount + 1 else c.exitCount } })) ∧
      (x = .inner → e = entryEnd c.direction → (s.section t).count = 0 → (s.section t).queue = [] →
        (s.pacer t).running = true → ∃ u d a, exec (.debounceConfirm now input) s = .next u ∧
          u = { s.afterRise now stamp t e x with
            pacers := (s.setPacer t ((s.pacer t).write (incrementOf v (s.area t).paceSpacing))).pacers
            sections := u.sections, contexts := u.contexts, store := u.store, alarms := u.alarms,
            ports := u.ports } ∧
          u.section t = { s.section t with
            state := .occupied, count := 1, queue := [a], ctx := some d,
            approachTimer := none, closeDelay := none, clearTimer := none,
            holdTimer := some ⟨now, holdTime (s.area t).holdDistance v⟩ } ∧
          d.number = c.number ∧ d.heldSpeed = v ∧ d.entryCount = c.entryCount + 1 ∧
          d.exitCount = c.exitCount ∧ a.index = c.entryCount + 1 ∧ a.entryTime = stamp ∧ a.v = v ∧
          u.section (otherTrack t) = s.section (otherTrack t)) ∧
      (x = .inner → e = exitEnd c.direction → (s.section t).count = 0 → (s.section t).queue = [] →
        s.store.poolsOk = true → s.store.find s.store.nextPass = none → s.store.passes.length < 16 →
        ∃ u d a y, exec (.debounceConfirm now input) s = .next u ∧
          (u.section t).state = .occupied ∧ (u.section t).count = 1 ∧ (u.section t).queue = [a] ∧
          (u.section t).clearTimer = none ∧ (u.section t).closeDelay = none ∧
          a.index = 1 ∧ a.entryTime = stamp ∧ a.v = v ∧
          u.ctx t = some d ∧ d.number = s.store.nextPass ∧ d.direction ≠ c.direction ∧
          d.entryCount = 1 ∧ d.exitCount = 0 ∧ d.heldSpeed = v ∧
          u.store.find d.number = some y ∧ y.state = .opened ∧ y.track = t ∧ y.openSite = stamp ∧
          (∀ q, s.store.find c.number = some q → q.track = t →
            ∀ r, u.store.find c.number = some r → r.state = .closed ∧ r.endReason = some .normal ∧
              r.entryCount = some c.entryCount ∧ r.exitCount = some c.exitCount) ∧
          (∀ p, (s.port p).attached = true → (s.port p).notices = [] → s.context t = none →
            [⟨.passClosed c.number t .normal, now⟩, ⟨.passOpened d.number t d.direction false, now⟩] <:+:
              (u.port p).notices) ∧
          u.scanners = s.scanners ∧ u.section (otherTrack t) = s.section (otherTrack t) ∧
          u.pacer (otherTrack t) = s.pacer (otherTrack t))

/-- R1: a quotient is rounded to the nearest, halves away from zero. R15: V is the rounded quotient clamped to
2,500, flagged exactly where it exceeded it, with an interval of 0 taken as 1; within the pair timeout it
lies from 10 to 2,500. R46: the increment is V · 2^32 over 36,000 Δx, rounded. R33: the hold time is the
hold distance over V, rounded and clamped to 1 to 60 s. -/
def Obligations.SpeedsIncrementsAndHoldTimesAreRounded : Prop :=
  (∀ a b : Nat, 0 < b → 2 * b * roundNat a b ≤ 2 * a + b ∧ 2 * a + b < 2 * b * (roundNat a b + 1) ∧
    roundDiv a b = roundNat a b ∧ roundDiv (-a) b = -roundNat a b) ∧
  (∀ spacing elapsed : Nat,
    let d := if elapsed = 0 then 1 else elapsed
    let q := (2 * (spacing * 36000) + d) / (2 * d)
    pairSpeed spacing elapsed = (if 2500 < q then 2500 else q, decide (2500 < q)) ∧
    (200 ≤ spacing → spacing ≤ 1000 → elapsed ≤ spacing * 3600 →
      10 ≤ (pairSpeed spacing elapsed).1 ∧ (pairSpeed spacing elapsed).1 ≤ 2500)) ∧
  (∀ v dx : Nat, 5 ≤ dx → v ≤ 2500 →
    (incrementOf v dx).toNat = (v * 8589934592 + 36000 * dx) / (72000 * dx)) ∧
  ∀ distance v : Nat, 0 < v →
    let q := (2 * (distance * 36000) + v) / (2 * v)
    holdTime distance v = if q < 1000000 then 1000000 else if 60000000 < q then 60000000 else q

/-- R17, R13, R9: a pair timeout without an open pass discards the count; the machine is QUIET and the silent
sensor SUSPECT, with a notice where it was not. R16: while a pass is open, a single-sensor count is taken in
the pass direction at the held speed (as `CountedSingle` says of an OCCUPIED track), at the pair timeout
(R13), at a rise whose partner is HELD (R11), as the partner becomes HELD (R14), and at a further rise of the
same sensor where the waiting axle is overdue (R12), which then restarts the wait. R12: a further rise that
finds no axle overdue restarts the wait and counts nothing (stated where no COMMIT of the same site time
counts, R187). -/
def Obligations.SingleSensorCountsFollowTheirRules : Prop :=
  ∀ (now first : SiteTime) (s : State) (t : TrackId) (e : SectionEnd) (seen : Role),
    let open_ := fun c : PassContext => (s.section t).state = .occupied ∧ s.ctx t = some c ∧
      (s.section t).queue ≠ [] ∧ (s.section t).count < 32
    let riseOf := fun (stamp : SiteTime) => (s.sensor t e seen).filter = ⟨true, false, some stamp⟩ ∧
      (s.area t).debounceTime e seen ≤ interval stamp now ∧ (s.sensor t e seen).held = false ∧
      (s.sensor t e (partner seen)).filter.pendingSince = none
    (s.pair t e = ⟨seenState seen first, []⟩ →
      (s.area t).pairSpacing e * 3600 ≤ interval first now →
      (s.sensor t e (partner seen)).filter.pendingSince = none →
      (s.ctx t = none → (s.sensor t e (partner seen)).suspect = true →
        exec (.pairTimeoutExpiry now t e) s =
          .next ({ s with siteTime := now }.setPair t e ⟨.quiet, []⟩)) ∧
      (s.ctx t = none → (s.sensor t e (partner seen)).suspect = false →
        exec (.pairTimeoutExpiry now t e) s =
          .next ((({ s with siteTime := now }.setPair t e ⟨.quiet, []⟩).setSensor t e (partner seen)
            { s.sensor t e (partner seen) with suspect := true }).notify
            (.faultChanged (.suspect (inputOfSensor t e (partner seen))) 1))) ∧
      (∀ c, open_ c → ∃ u, exec (.pairTimeoutExpiry now t e) s = .next u ∧
        u.pair t e = ⟨.quiet, []⟩ ∧ CountedSingle s u now first t e seen c)) ∧
    (∀ c, riseOf first → (s.sensor t e (partner seen)).held = true → s.pair t e = ⟨.quiet, []⟩ →
      open_ c → ∃ u, exec (.debounceConfirm now (inputOfSensor t e seen)) s = .next u ∧
        u.pair t e = ⟨.quiet, []⟩ ∧ CountedSingle s u now first t e seen c) ∧
    (∀ c since, (s.sensor t e (partner seen)).held = false →
      (s.sensor t e (partner seen)).occupiedSince = some since →
      (s.area t).heldLimit ≤ interval since now → s.pair t e = ⟨seenState seen first, []⟩ →
      open_ c → ∃ u, exec (.heldTimerExpiry now (inputOfSensor t e (partner seen))) s = .next u ∧
        (u.sensor t e (partner seen)).held = true ∧ u.pair t e = ⟨.quiet, []⟩ ∧
        CountedSingle s u now first t e seen c) ∧
    ∀ stamp, riseOf stamp → s.pair t e = ⟨seenState seen first, []⟩ →
      interval first stamp ≤ (s.area t).pairSpacing e * 3600 →
      (∀ c, open_ c →
        2 * ((2 * ((s.area t).pairSpacing e * 36000) + c.heldSpeed) / (2 * c.heldSpeed)) <
          interval first stamp →
        ∃ u, exec (.debounceConfirm now (inputOfSensor t e seen)) s = .next u ∧
          u.pair t e = ⟨seenState seen stamp, []⟩ ∧ CountedSingle s u now first t e seen c) ∧
      ((s.section t).state ≠ .draining → Settled s now t →
        (∀ c, s.ctx t = some c → e ≠ exitEnd c.direction ∧ interval first stamp ≤
          2 * ((2 * ((s.area t).pairSpacing e * 36000) + c.heldSpeed) / (2 * c.heldSpeed))) →
        exec (.debounceConfirm now (inputOfSensor t e seen)) s =
          .next (({ s with siteTime := now }.setSensor t e seen
            { s.sensor t e seen with
              filter := ⟨true, true, none⟩, occupiedSince := some stamp }).setPair t e
            ⟨seenState seen stamp, []⟩))

/-! ### Approach inputs -/

/-- R23, R66, R70, R100: the approach inputs of a configured track are filtered; a confirmed change to inactive
has no effect but on the filtered level. An approach edge takes an IDLE track to APPROACH with its timer
started (at the present site time, log 11), the close delay, the zero timer and a waiting ZERO request
stopped, and the shutters asked to open; in APPROACH it restarts the timer; in any other state it only
confirms the level. R102: a close delay that ends in the same microsecond is kept in mind (log 40). R187:
where a COMMIT of the same site time is taken first, the area promotes, then the edge takes the track to
APPROACH, with the timer of the new image (log 39); the changes of inputs are stated where none counts. -/
def Obligations.ApproachInputsWakeTheTrack : Prop :=
  (∀ (now stamp : SiteTime) (t : TrackId) (e : SectionEnd) (s u : State),
    (s.section t).approach.get e = ⟨true, false, some stamp⟩ → 1000 ≤ interval stamp now →
    CommittedFirst s u now t →
    let generation := if s.config.generation < 65535 then s.config.generation + 1 else 1
    let image := (s.config.tracks.get t).staged
    (u.section t).state = .idle ∧ u.area t = image ∧
    (u.config.tracks.get t).activeGeneration = generation ∧
    ∃ v, exec (.approachEdge now t e) u = .next v ∧
      v.section t = { u.section t with
        state := .approach, approachTimer := some ⟨now, image.approachTimeout⟩, closeDelay := none,
        lateClose := (v.section t).lateClose, coinciding := (v.section t).coinciding } ∧
      v = { u with sections := v.sections, strain := v.strain, scanners := v.scanners } ∧
      (∀ n, (v.scanner t n).wantedOpen = true) ∧ v.strain.zeroTimers.get t = none ∧
      v.section (otherTrack t) = u.section (otherTrack t)) ∧
  ∀ (now : SiteTime) (t : TrackId) (e : SectionEnd) (level : Bool) (s : State),
    let f := (s.section t).approach.get e
    let withInput := fun g : InputFilter =>
      ({ s with siteTime := now }.setSection t
        { s.section t with approach := (s.section t).approach.set e g })
    (Settled s now t → s.configured t = true → level ≠ f.raw → f.raw = f.level →
      exec (.approachInputChange now t e level) s = .next (withInput ⟨level, f.level, some now⟩)) ∧
    (Settled s now t → s.configured t = true → level ≠ f.raw → level = f.level →
      exec (.approachInputChange now t e level) s = .next (withInput ⟨level, f.level, none⟩)) ∧
    (s.configured t = false →
      exec (.approachInputChange now t e level) s = .next (withInput { f with raw := level })) ∧
    (∀ stamp, f = ⟨false, true, some stamp⟩ → 1000 ≤ interval stamp now →
      exec (.approachInputInactive now t e) s = .next (withInput ⟨false, false, none⟩)) ∧
    ∀ stamp, f = ⟨true, false, some stamp⟩ → 1000 ≤ interval stamp now →
      let c := { s.section t with approach := (s.section t).approach.set e ⟨true, true, none⟩ }
      let timer : Timer := some ⟨now, (s.area t).approachTimeout⟩
      ((s.section t).state = .idle →
        exec (.approachEdge now t e) s = .next { s with
          siteTime := now
          sections := s.sections.set t { c with
            state := .approach, approachTimer := timer, closeDelay := none
            lateClose := match (s.section t).closeDelay with
              | none => none
              | some r => if r.length ≤ interval r.start now then some now else none }
          strain := { s.strain with
            zeroTimers := s.strain.zeroTimers.set t none
            slots := s.strain.slots.set t
              (if s.slot t = some .zero then none else s.slot t) }
          scanners := s.scanners.set t ((s.scanners.get t).map fun x =>
            if x.wantedOpen = true ∧ (x.view = .opened ∨ x.view = .opening) then x
            else { x with
              wantedOpen := true, openingFault := false, openingTimer := some ⟨now, 1500000⟩,
              sent := .shutterOpen :: x.sent }) }) ∧
      ((s.section t).state = .approach →
        exec (.approachEdge now t e) s =
          .next ({ s with siteTime := now }.setSection t { c with approachTimer := timer })) ∧
      ((s.section t).state ≠ .idle → (s.section t).state ≠ .approach →
        exec (.approachEdge now t e) s = .next ({ s with siteTime := now }.setSection t c))

/-! ### Section timers -/

/-- R25, R38, R48, R70: a track whose approach timer expires, or whose quiet timer expires with count 0, goes
to IDLE with count 0; the close delay and the zero timer start. Stated where no area is pending. R186: where
an area of the track is pending (and none of the site), it is promoted as the track enters IDLE, the close
delay and the zero timer having the lengths of the area before it (log 18), with CONFIG_PROMOTED the newest
notice. A quiet timer that expires with the count above 0 stops, and the track stays DRAINING. R25, R102: at
the end of the close delay SHUTTER CLOSE is sent to the track's four scanners, whatever their views, also
where the track has left IDLE in that same microsecond (log 40). That a pacer, as it stops, is no longer fresh
is the model's choice (log 37), and `lateClose` and `coinciding` are its own fields (logs 39 and 40). -/
def Obligations.ApproachQuietAndCloseDelayExpire : Prop :=
  ∀ (now : SiteTime) (t : TrackId) (r : Running) (s : State),
    let closed := s.scanners.set t ((s.scanners.get t).map fun x => { x with
      wantedOpen := false, openingFault := false, openingTimer := none,
      sent := .shutterClose :: x.sent })
    (r.length ≤ interval r.start now →
      let zeroTimer : Timer := some ⟨now, (s.area t).zeroInterval⟩
      let closeDelay : Timer := some ⟨now, (s.area t).closeDelay⟩
      let idle : State := { s with
        siteTime := now
        sections := s.sections.set t { s.section t with
          state := .idle, count := 0, approachTimer := none, holdTimer := none, clearTimer := none,
          quietTimer := none, closeDelay := closeDelay, lateClose := none, coinciding := none }
        strain := { s.strain with zeroTimers := s.strain.zeroTimers.set t zeroTimer }
        pacers := s.pacers.set t { s.pacer t with
          running := false, fresh := false, acc := 0, waiting := false } }
      (s.config.site.committed = none → ∀ c ∈ [Instr.approachTimerExpiry now t, .quietTimerExpiry now t],
        (c = .approachTimerExpiry now t → (s.section t).approachTimer = some r) →
        (c = .quietTimerExpiry now t → (s.section t).quietTimer = some r ∧ (s.section t).count = 0) →
        ((s.config.tracks.get t).committed = none → exec c s = .next idle) ∧
        ∀ x, (s.config.tracks.get t).committed = some x → (s.section t).state ≠ .unconfigured →
          ∃ u, exec c s = .next u ∧ Promoted s u now t x.1 x.2 ∧
            u = { idle with
              sections := u.sections, sensors := u.sensors, pairs := u.pairs, strain := u.strain,
              config := u.config, ports := u.ports, choice := u.choice } ∧
            u.section t = { idle.section t with approach := (u.section t).approach } ∧
            u.strain.zeroTimers.get t = zeroTimer ∧
            u.config.site = s.config.site ∧
            (∀ p, (s.port p).attached = true → (s.port p).notices = [] →
              (u.port p).notices.getLast? = some ⟨.configPromoted (.track t) x.2, now⟩) ∧
            u.section (otherTrack t) = s.section (otherTrack t)) ∧
      ((s.section t).quietTimer = some r → (s.section t).count ≠ 0 →
        exec (.quietTimerExpiry now t) s =
          .next ({ s with siteTime := now }.setSection t { s.section t with quietTimer := none })) ∧
      ((s.section t).closeDelay = some r → exec (.closeDelayExpiry now t) s = .next { s with
        siteTime := now
        sections := s.sections.set t { s.section t with closeDelay := none }
        scanners := closed })) ∧
    ((s.section t).closeDelay = none → (s.section t).lateClose = some now →
      exec (.closeDelayExpiry now t) s = .next { s with
        siteTime := now
        sections := s.sections.set t { s.section t with lateClose := none }
        scanners := closed })

/-- R33, R48, R58: at the end of the hold time the track goes to STANDING, its pacer stops, and the entries
inside a bay region get STANDSTILL. That the pacer, as it stops, is no longer fresh is the model's choice
(log 37). -/
def Obligations.HoldExpiryStandsTheTrack : Prop :=
  ∀ (now : SiteTime) (t : TrackId) (r : Running) (c : PassContext) (s : State),
    (s.section t).holdTimer = some r → r.length ≤ interval r.start now → s.ctx t = some c →
    exec (.holdTimerExpiry now t) s = .next { s with
      siteTime := now
      sections := s.sections.set t { s.section t with
        state := .standing
        holdTimer := none
        queue := (s.section t).queue.map fun e =>
          if insideAnyBay (s.area t) c.direction e then
            { e with flags := { e.flags with standstill := true } }
          else e }
      pacers := s.pacers.set t { s.pacer t with
        running := false, fresh := false, acc := 0, waiting := false } }

/-- R34, R40: at the end of the clear time the pass closes NORMAL and the track goes to IDLE; where the
counts differ the header is marked and an alarm is raised. R120: the matching context is discarded; R152:
the pass's follow holders are gone from every line. Where a track area is pending and promotes in the same
step, the close delay has the length of the area active before it (log 18). -/
def Obligations.ClearExpiryClosesThePass : Prop :=
  ∀ (now : SiteTime) (t : TrackId) (r : Running) (c : PassContext) (s : State),
    (s.section t).clearTimer = some r → r.length ≤ interval r.start now → s.ctx t = some c →
    ∃ u, exec (.clearTimerExpiry now t) s = .next u ∧
      (u.section t).state = .idle ∧ (u.section t).count = 0 ∧ u.ctx t = none ∧
      (u.section t).clearTimer = none ∧ u.context t = none ∧
      (u.section t).closeDelay = some ⟨now, (s.area t).closeDelay⟩ ∧
      (s.store.poolsOk = true → ∀ p, s.store.find c.number = some p → p.track = t →
        ∃ q, u.store.find c.number = some q ∧
        q.state = .closed ∧ q.endReason = some .normal ∧ q.closeSite = some now ∧
        q.closeStation = some s.stationTime ∧ q.entryCount = some c.entryCount ∧
        q.exitCount = some c.exitCount ∧
        q.retention = ⟨s.ports.a.attached, s.ports.b.attached⟩ ∧ q.release = ⟨false, false⟩ ∧
        (c.entryCount ≠ c.exitCount → q.flags.countMismatch = true)) ∧
      (c.entryCount ≠ c.exitCount → s.alarms.next < 4294967295 → s.alarms.list.length < 256 →
        ∃ x ∈ u.alarms.list, x.number = s.alarms.next ∧ x.siteTime = now ∧ x.alarm =
          ⟨.countMismatch, .warning, t, c.direction, c.number, 0, none, .none, c.entryCount,
            c.exitCount⟩) ∧
      (∀ i, ∀ h ∈ (u.alarms.lines.get i).followers,
        h ∈ (s.alarms.lines.get i).followers ∧ ¬(h.track = t ∧ h.pass = c.number)) ∧
      u.siteTime = now ∧ u.stationTime = s.stationTime ∧ u.secondStart = s.secondStart ∧
      u.scanners = s.scanners ∧ u.pending = s.pending ∧
      u.section (otherTrack t) = s.section (otherTrack t) ∧
      u.pacer (otherTrack t) = s.pacer (otherTrack t) ∧
      u.context (otherTrack t) = s.context (otherTrack t)

/-! ### Pacer -/

/-- R48: the first step of a fresh pacer adds the active increment and clears the fresh condition. R49, R50:
a tick's steps add the active increment to the accumulator until the sum passes 2^32, which is taken off and
the remainder kept; a waiting write is taken in, and 1 is added to the pass tick total and to the tick count
of every entry, whose number and order stay. -/
def Obligations.PacerStepsAndTicks : Prop :=
  ∀ (now : SiteTime) (t : TrackId) (s : State), (s.pacer t).running = true →
    ((s.pacer t).fresh = true → 1 ≤ interval (s.pacer t).since now →
      exec (.pacerFirstStep now t) s = .next ({ s with siteTime := now }.setPacer t { s.pacer t with
        fresh := false
        acc := (s.pacer t).acc + (s.pacer t).active
        since := (s.pacer t).since + 1 })) ∧
    ∀ c : PassContext, (s.pacer t).fresh = false → 0 < (s.pacer t).active.toNat →
      4294967296 ≤
        (s.pacer t).acc.toNat + interval (s.pacer t).since now * (s.pacer t).active.toNat →
      s.ctx t = some c →
      ∃ u, exec (.paceTick now t) s = .next u ∧
        u = { s with
          siteTime := now, sections := u.sections, pacers := u.pacers, strain := u.strain,
          scanners := u.scanners, store := u.store } ∧
        u.section t = { s.section t with
          ctx := some { c with tickTotal := c.tickTotal + 1 }, queue := (u.section t).queue } ∧
        (u.section t).queue.map (fun e => (e.index, e.ticks)) =
          (s.section t).queue.map (fun e => (e.index, e.ticks + 1)) ∧
        (u.pacer t).running = true ∧ (u.pacer t).waiting = false ∧
        (u.pacer t).active =
          (if (s.pacer t).waiting = true then (s.pacer t).preload else (s.pacer t).active) ∧
        (u.pacer t).acc.toNat < (s.pacer t).active.toNat ∧
        (∃ k : Nat, (s.pacer t).acc.toNat + k * (s.pacer t).active.toNat =
            4294967296 + (u.pacer t).acc.toNat ∧
          (u.pacer t).since = (s.pacer t).since + BitVec.ofNat 32 k) ∧
        u.section (otherTrack t) = s.section (otherTrack t) ∧
        u.pacer (otherTrack t) = s.pacer (otherTrack t) ∧
        (∀ n, u.scanner (otherTrack t) n = s.scanner (otherTrack t) n)

/-- R51 to R56, R62, R63, R105: what a tick assigns, from the positions after its increment. A bay or a
scanner with exactly one entry inside its region or gate is assigned to it. Two or more entries in a bay's
region get its overlap mark and OVERLAP. With a bay assigned, a PACE request names the assignment: it waits
in the track's slot, or is granted to a free converter where nothing waits, or is dropped with PACE_OVERRUN.
A scanner assigned an entry with no request outstanding is sent a LINE REQUEST where its view is OPEN; else
the entry is marked FAULT where the view is FAULT or SILENT, and otherwise SHUTTER, unless it is FAULT. -/
def Obligations.TickAssignsBaysAndScanners : Prop :=
  ∀ (now : SiteTime) (t : TrackId) (s : State) (c : PassContext), (s.pacer t).tickDue now = true →
    s.ctx t = some c →
    let area := s.area t
    let queue := (s.section t).queue
    let x : AxleEntry → Int := fun e => area.sensorX (entryEnd c.direction) .inner +
      (match c.direction with
        | .pq => 1
        | .qp => -1) * ((e.ticks : Int) + 1) * area.paceSpacing
    let inBay := fun rail b e => (area.bay rail b).set = true ∧
      ((area.bay rail b).start : Int) + area.margin ≤ x e ∧
      x e ≤ ((area.bay rail b).stop : Int) - area.margin
    let inGate := fun n e => (area.scannerX n : Int) - area.gateHalf n ≤ x e ∧
      x e ≤ (area.scannerX n : Int) + area.gateHalf n
    let only : List AxleEntry → Option Nat := fun inside => match inside with
      | [e] => some e.index
      | _ => none
    let bayOf := fun rail b => only (queue.filter fun e => decide (inBay rail b e))
    let gateOf := fun n => only (queue.filter fun e => decide (inGate n e))
    let shares := fun rail b e => inBay rail b e ∧
      2 ≤ (queue.filter fun y => decide (inBay rail b y)).length
    let someBay := ∃ rail b, bayOf rail b ≠ none
    let asked := fun n index => gateOf n = some index ∧ (s.scanner t n).request = none
    let faulty := fun n => (s.scanner t n).view = .fault ∨ (s.scanner t n).view = .silent
    let shut := fun n => (s.scanner t n).view ≠ .opened ∧ ¬faulty n
    ∃ u, exec (.paceTick now t) s = .next u ∧
      (¬someBay → u.strain = s.strain) ∧
      (someBay → ∃ bays : BayAssignment, (∀ rail b, bayGet bays rail b = bayOf rail b) ∧
        (s.slot t = none → s.strain.scan ≠ none → u.strain = { s.strain with
          slots := s.strain.slots.set t (some (.pace c.number bays)) }) ∧
        (s.strain.slots = ⟨none, none⟩ → s.strain.scan = none → u.strain = { s.strain with
          lastServed := t
          scan := some ⟨t, .pace c.number bays, area.scanList, none, 0, now, false⟩ })) ∧
      (someBay → s.slot t ≠ none → u.strain = s.strain ∧
        ∀ q, u.store.find c.number = some q → q.track = t → q.flags.paceOverrun = true) ∧
      (∀ n, u.scanner t n =
        (match gateOf n with
          | none => s.scanner t n
          | some index =>
            if (s.scanner t n).request = none ∧ (s.scanner t n).view = .opened then
              { s.scanner t n with
                request := some ⟨(s.scanner t n).nextSeq, c.number, index, ⟨now, 2000⟩⟩
                nextSeq := (s.scanner t n).nextSeq + 1
                sent := .lineRequest (s.scanner t n).nextSeq :: (s.scanner t n).sent }
            else s.scanner t n)) ∧
      (u.section t).queue.length = queue.length ∧
      ∀ (i : Nat) (e y : AxleEntry), queue[i]? = some e → (u.section t).queue[i]? = some y →
        (∀ rail b, bayGet y.bays rail b = { bayGet e.bays rail b with
          overlap := (bayGet y.bays rail b).overlap } ∧
          ((bayGet y.bays rail b).overlap = true ↔
            (bayGet e.bays rail b).overlap = true ∨ shares rail b e)) ∧
        (y.flags.overlap = true ↔ e.flags.overlap = true ∨ ∃ rail b, shares rail b e) ∧
        (∀ n, y.scanners.get n = { e.scanners.get n with mark := (y.scanners.get n).mark } ∧
          (asked n e.index → faulty n →
            (y.scanners.get n).mark = .fault ∧ y.flags.scannerFault = true) ∧
          (asked n e.index → shut n → (e.scanners.get n).mark ≠ .fault →
            (y.scanners.get n).mark = .shutter ∧ y.flags.shutter = true ∧
            ((queue.map fun e => e.index).Nodup → e.flags.shutter = false →
              ∀ q, u.store.find c.number = some q → q.track = t → q.flags.shutterLate = true)) ∧
          (¬asked n e.index ∨ (s.scanner t n).view = .opened ∨
              (shut n ∧ (e.scanners.get n).mark = .fault) →
            (y.scanners.get n).mark = (e.scanners.get n).mark))

/-! ### Strain acquisition -/

/-- R70, R61, R64: at the zero timer's expiry it restarts, and with nothing waiting a free converter is
granted to the track's ZERO request; where the track has a scan in progress no request is made. -/
def Obligations.ZeroTimerExpiryAsksForAScan : Prop :=
  ∀ (now : SiteTime) (t : TrackId) (r : Running) (s : State),
    s.strain.zeroTimers.get t = some r → r.length ≤ interval r.start now →
    let timers := s.strain.zeroTimers.set t (some ⟨now, (s.area t).zeroInterval⟩)
    (s.strain.slots = ⟨none, none⟩ → s.strain.scan = none →
      exec (.zeroTimerExpiry now t) s = .next { s with
        siteTime := now
        strain := { s.strain with
          zeroTimers := timers
          lastServed := t
          scan := some ⟨t, .zero, (s.area t).scanList, s.siteArea.ambientChannel, 0, now, false⟩ } }) ∧
    (∀ x, s.strain.scan = some x → x.track = t →
      exec (.zeroTimerExpiry now t) s =
        .next { s with siteTime := now, strain := { s.strain with zeroTimers := timers } })

/-- R71, R73, R75, R67: a bay sample of a ZERO scan at rest moves the working zero of its bay by a sixteenth of
the deviation, rounded, and no other; the bay is then DRIFTED exactly where the zero is further from the
factory zero than the zero limit, with a notice where that changes. One that is clipped or beyond the wake
threshold moves none, and with the threshold other than 0 it wakes the track. The ambient sample, the last
of a ZERO scan, sets the ambient value where it is not clipped, and the converter is freed (stated where no
request waits). R187, R67: where a COMMIT of the same site time is taken first, a load wake takes the track to
APPROACH after the promotion, judged by the image before it (log 39), and any other bay sample of the scan is
discarded. -/
def Obligations.ZeroScanSamplesFollowTheirRules : Prop :=
  (∀ (now : SiteTime) (sample : BitVec 16) (x : Scan) (entry : Nat × Nat) (rail : Rail) (b : Fin 8) (z : Int)
    (s u : State), s.strain.scan = some x → 4 * (x.done + 1) ≤ interval x.grantedAt now →
    x.request = .zero → x.entries[x.done]? = some entry → x.promotedSince = false →
    (s.area x.track).bayOfChannel entry.1 = some (rail, b) → s.zero x.track rail b = some z →
    CommittedFirst s u now x.track →
    let clipped := sample = 32768 ∨ sample = 32767
    let threshold := (s.area x.track).wakeThreshold
    let wake := threshold ≠ 0 ∧ (clipped ∨ threshold ≤ (sample.toInt - z).natAbs)
    let image := (s.config.tracks.get x.track).staged
    (u.section x.track).state = .idle ∧ u.area x.track = image ∧
    ∃ v, exec (.conversionEnd now sample) u = .next v ∧ v.config = u.config ∧ v.ports = u.ports ∧
      v.strain.zeros = u.strain.zeros ∧ v.strain.drifted = u.strain.drifted ∧
      (wake → (v.section x.track).state = .approach ∧
        (v.section x.track).approachTimer = some ⟨now, image.approachTimeout⟩) ∧
      (¬wake → v.sections = u.sections ∧ v.scanners = u.scanners)) ∧
  ∀ (now : SiteTime) (sample : BitVec 16) (x : Scan) (s : State), s.strain.scan = some x →
    4 * (x.done + 1) ≤ interval x.grantedAt now →
    let clipped := sample = 32768 ∨ sample = 32767
    (∀ channel, x.ambientChannel = some channel → x.done = x.entries.length →
      s.strain.slots = ⟨none, none⟩ → exec (.conversionEnd now sample) s = .next { s with
        siteTime := now
        strain := { s.strain with
          scan := none
          ambient := if clipped then s.strain.ambient else some (max (-32767) (min 32767
            (roundDiv ((sample.toInt - s.siteArea.ambientZero) * s.siteArea.ambientScale) 65536))) } }) ∧
    (∀ (entry : Nat × Nat) (rail : Rail) (b : Fin 8) (z : Int),
      x.request = .zero → x.entries[x.done]? = some entry → x.promotedSince = false →
      (s.section x.track).state = .idle → (s.area x.track).bayOfChannel entry.1 = some (rail, b) →
      s.zero x.track rail b = some z →
      let threshold := (s.area x.track).wakeThreshold
      let wake := threshold ≠ 0 ∧ (clipped ∨ threshold ≤ (sample.toInt - z).natAbs)
      let moved := z + roundDiv (sample.toInt - z) 16
      let drifted := decide ((s.area x.track).zeroLimit <
        (moved - ((s.area x.track).bay rail b).factoryZero).natAbs)
      ∃ u, exec (.conversionEnd now sample) s = .next u ∧
        u = { s with
          siteTime := now, sections := u.sections, strain := u.strain, scanners := u.scanners,
          ports := u.ports } ∧
        (∀ t r2 b2, (t, r2, b2) ≠ (x.track, rail, b) →
          u.zero t r2 b2 = s.zero t r2 b2 ∧ u.isDrifted t r2 b2 = s.isDrifted t r2 b2) ∧
        (wake → u.zero x.track rail b = some z ∧ (u.section x.track).state = .approach ∧
          (u.section x.track).approachTimer = some ⟨now, (s.area x.track).approachTimeout⟩) ∧
        (¬wake → u.sections = s.sections ∧ u.scanners = s.scanners ∧
          u.zero x.track rail b = (if clipped then some z else some moved)) ∧
        (wake ∨ clipped → u.isDrifted x.track rail b = s.isDrifted x.track rail b ∧
          u.ports = s.ports) ∧
        (¬wake → ¬clipped → u.isDrifted x.track rail b = drifted ∧
          u.ports = (if drifted = s.isDrifted x.track rail b then s.ports
            else ({ s with siteTime := now }.notify
              (.faultChanged (.drifted x.track rail b) (if drifted then 1 else 0))).ports)) ∧
        u.section (otherTrack x.track) = s.section (otherTrack x.track))

/-- R68, R69: a sample of a PACE scan is credited to the accumulator of its bay in the entry its request
assigned, and to no other entry. -/
def Obligations.PaceSampleIsCredited : Prop :=
  ∀ (now : SiteTime) (sample : BitVec 16) (x : Scan) (entry : Nat × Nat) (pass index : Nat)
    (bays : BayAssignment) (rail : Rail) (b : Fin 8) (z : Int) (c : PassContext) (s : State),
    s.strain.scan = some x → x.request = .pace pass bays → x.entries[x.done]? = some entry →
    4 * (x.done + 1) ≤ interval x.grantedAt now →
    (s.area x.track).bayOfChannel entry.1 = some (rail, b) → bayGet bays rail b = some index →
    s.zero x.track rail b = some z → s.ctx x.track = some c → c.number = pass →
    ∃ u, exec (.conversionEnd now sample) s = .next u ∧
      u = { s with siteTime := now, sections := u.sections, strain := u.strain } ∧
      u.strain.zeros = s.strain.zeros ∧ u.strain.ambient = s.strain.ambient ∧
      u.section x.track = { s.section x.track with queue := (u.section x.track).queue } ∧
      u.section (otherTrack x.track) = s.section (otherTrack x.track) ∧
      (u.section x.track).queue = (s.section x.track).queue.map fun (e : AxleEntry) =>
        if e.index = index then
          (if (bayGet e.bays rail b).n < 255 then
            { e with bays := baySet e.bays rail b { bayGet e.bays rail b with
              n := (bayGet e.bays rail b).n + 1
              sum := (bayGet e.bays rail b).sum + (sample.toInt - z)
              peak := some (match (bayGet e.bays rail b).peak with
                | none => sample.toInt - z
                | some p => max p (sample.toInt - z))
              clipped := (bayGet e.bays rail b).clipped || decide (sample = 32768) ||
                decide (sample = 32767) } }
          else { e with flags := { e.flags with sampleCap := true } })
        else e

/-! ### Scanner links -/

/-- R98, R97, R103: a STATUS restarts the silence timer, stores the housing temperature and sets the view
by the reported state; a change of the fault indication is notified. R99, R101, R106: a silent scanner's view
becomes SILENT; a shutter that has not opened in time gets the opening fault and the view FAULT unless it is
SILENT; a line request ends unanswered. -/
def Obligations.StatusAndTimersSetTheView : Prop :=
  ∀ (now : SiteTime) (link : Fin 8) (s : State) (t : TrackId) (n : ScannerName),
    scannerOfLink link = (t, n) →
    let x := s.scanner t n
    let put := fun y : Scanner =>
      let u := { s with siteTime := now }.setScanner t n y
      if y.view.indication = x.view.indication then u
      else u.notify (.faultChanged (.scanner link) y.view.indication)
    (∀ (report : ShutterReport) (housing : BitVec 16),
      exec (.scannerStatus now link report housing) s = .next (put { x with
        silence := some ⟨now, 3000000⟩
        housing := if housing = 32768 then none else some housing.toInt
        view := match report with
          | .closed => if x.openingFault = true then .fault else .closed
          | .opening => if x.openingFault = true then .fault else .opening
          | .opened => .opened
          | .closing => .closing
          | .fault => .fault
        openingFault := match report with
          | .opened => false
          | .closing => false
          | .closed => x.openingFault
          | .opening => x.openingFault
          | .fault => x.openingFault
        openingTimer := match report with
          | .opened => none
          | .closing => none
          | .fault => none
          | .closed => x.openingTimer
          | .opening => x.openingTimer })) ∧
    ∀ r : Running, r.length ≤ interval r.start now →
      (x.silence = some r → exec (.silenceTimerExpiry now link) s =
        .next (put { x with view := .silent, silence := none })) ∧
      (x.openingTimer = some r →
        exec (.openingTimerExpiry now link) s = .next (put { x with
          openingTimer := none, openingFault := true,
          view := if x.view = .silent then .silent else .fault })) ∧
      (∀ q, x.request = some q → q.timer = r →
        exec (.lineTimerExpiry now link) s =
          .next ({ s with siteTime := now }.setScanner t n { x with request := none }))

/-- R107, R94: a LINE that matches the outstanding request ends it and credits its greatest valid pixel to
the named entry; one whose pixels are all invalid ends it and credits none; any other LINE and a message
the link discards have no effect. -/
def Obligations.LineCreditsTheGreatestPixel : Prop :=
  ∀ (now : SiteTime) (link : Fin 8) (seqNo : BitVec 8) (pixels : List (BitVec 16)) (s : State)
    (t : TrackId) (n : ScannerName), scannerOfLink link = (t, n) →
    let ended := { s with siteTime := now }.setScanner t n { s.scanner t n with request := none }
    (exec (.linkMessageDiscarded now link) s = .next { s with siteTime := now }) ∧
    ((s.scanner t n).request = none →
      exec (.scannerLine now link seqNo pixels) s = .next { s with siteTime := now }) ∧
    (∀ r, (s.scanner t n).request = some r →
      (r.seqNo ≠ seqNo →
        exec (.scannerLine now link seqNo pixels) s = .next { s with siteTime := now }) ∧
      (r.seqNo = seqNo → (∀ h ∈ pixels, h = 32768) →
        exec (.scannerLine now link seqNo pixels) s = .next ended) ∧
      (∀ c : PassContext, r.seqNo = seqNo → s.ctx t = some c → c.number = r.pass → ∀ best : Int,
        (∃ h ∈ pixels, h ≠ 32768 ∧ h.toInt = best) →
        (∀ h ∈ pixels, h ≠ 32768 → h.toInt ≤ best) →
        exec (.scannerLine now link seqNo pixels) s =
          .next (ended.setSection t { s.section t with
            queue := (s.section t).queue.map fun (e : AxleEntry) =>
              if e.index = r.axle then
                { e with scanners := e.scanners.set n { e.scanners.get n with
                  lines := min ((e.scanners.get n).lines + 1) 255
                  maximum := some (match (e.scanners.get n).maximum with
                    | none => best
                    | some m => max m best) } }
              else e })))

/-! ### Vehicle recognition and loads -/

/-- R113, R114: 600 s after the previous count-in the spacing limit of the matching context is passed; the
spacing is V over the interval, rounded and at most 65,534, which it is once the limit has passed. R117: a
type matches where its after-gap holds and each spacing lies within its tolerance, forward before reversed.
R118 to R120: the first enabled type, in table order, that can be evaluated and matches is made; while the
pass is open the attempt waits at the first that cannot be evaluated, at the closing match one longer than
the waiting list is passed over; where none matches the axle is UNCLASSIFIED. -/
def Obligations.VehicleTypesAreJudgedInOrder : Prop :=
  (∀ (now : SiteTime) (t : TrackId) (m : MatchContext) (s : State),
    s.context t = some m → 600000000 ≤ interval m.previous now →
    exec (.spacingLimitPassed now t) s =
      .next ({ s with siteTime := now }.setContext t (some { m with limitPassed := true }))) ∧
  (∀ v elapsed : Nat, spacingOf v elapsed true = 65534 ∧
    spacingOf v elapsed false = min ((2 * (v * elapsed) + 36000) / 72000) 65534) ∧
  (∀ (vt : VehicleType) (waiting : List WaitingAxle), 1 ≤ vt.axles → vt.axles ≤ 8 →
    vt.spacings.length = 7 → vt.axles ≤ waiting.length →
    let gap := vt.afterGap = 0 ∨ ∀ a, waiting[vt.axles]? = some a →
      ∃ d, a.spacing = some d ∧ vt.afterGap ≤ d
    let fits := fun (place : Nat → Nat) => ∀ i, i + 1 < vt.axles → ∀ s tol,
      vt.spacings[place i]? = some (s, tol) → tol = 0 ∨
        ∃ a d, waiting[i + 1]? = some a ∧ a.spacing = some d ∧ s ≤ d + tol ∧ d ≤ s + tol
    let forward := fits fun i => i
    let reversed := fits fun i => vt.axles - 2 - i
    (vt.judge waiting = some .forward ↔ gap ∧ forward) ∧
    (vt.judge waiting = some .reversed ↔ gap ∧ ¬forward ∧ vt.either = true ∧ reversed) ∧
    (vt.judge waiting = none ↔ ¬(gap ∧ (forward ∨ (vt.either = true ∧ reversed))))) ∧
  ∀ (waiting : List WaitingAxle) (types : List VehicleType),
    let evaluable := fun vt : VehicleType => vt.axles ≤ waiting.length ∧
      (vt.afterGap = 0 ∨ vt.axles + 1 ≤ waiting.length)
    let failsOpen := fun vt : VehicleType => vt.enabled = true →
      evaluable vt ∧ vt.judge waiting = none
    let failsClosing := fun vt : VehicleType => vt.enabled = true → vt.axles ≤ waiting.length →
      vt.judge waiting = none
    (decideOpen waiting types = .unclassified ↔ ∀ vt ∈ types, failsOpen vt) ∧
    (decideOpen waiting types = .wait ↔ ∃ before vt after, types = before ++ vt :: after ∧
      (∀ x ∈ before, failsOpen x) ∧ vt.enabled = true ∧ ¬evaluable vt) ∧
    (∀ vt o, decideOpen waiting types = .make vt o ↔ ∃ before after, types = before ++ vt :: after ∧
      (∀ x ∈ before, failsOpen x) ∧ vt.enabled = true ∧ evaluable vt ∧
      vt.judge waiting = some o) ∧
    (decideClosing waiting types = .unclassified ↔ ∀ vt ∈ types, failsClosing vt) ∧
    decideClosing waiting types ≠ .wait ∧
    (∀ vt o, decideClosing waiting types = .make vt o ↔ ∃ before after,
      types = before ++ vt :: after ∧ (∀ x ∈ before, failsClosing x) ∧ vt.enabled = true ∧
      vt.axles ≤ waiting.length ∧ vt.judge waiting = some o)

/-- R121: a vehicle made at the cursor has its record written at the tail of the pass's, its index written
into its axles' records, and the context goes on after it; its level is the highest of its axles', and its
flags say what its axles and the compared after-gap were. R120, R121: one whose axles have all ended is FINAL
at once by R124. R122: where no record can be had, recording stops and the header gets VEHICLES_TRUNCATED.
R123: the report of an ended axle moves the finish mark and marks the axle's waiting entry; an axle of a vehicle
raises its level, gives it AXLE_ABANDONED where it was abandoned, and, the last one, completes it. R124: a
vehicle that becomes FINAL gets the sum of its axle loads, absent where one is absent, and one above the gross
limit raises VEHICLE_OVERLOAD and has the level ALARM. -/
def Obligations.VehiclesAreMadeAndCompleted : Prop :=
  ∀ (s : State) (t : TrackId) (m : MatchContext),
    (∀ (shape : VehicleShape) (p : HeldPass), s.store.poolsOk = true →
      s.store.ofTrack t m.pass = some p →
      (p.vehicles.length % 32 ≠ 0 ∨ 0 < s.store.freeVehicleChunks) →
      let mine := m.waiting.take shape.axles
      let compared := shape.afterGap ≠ 0
      let u := s.makeVehicle t m shape
      ∃ v : VehicleRecord, v.index = m.nextVehicle ∧ v.firstAxle = m.cursor ∧ v.axles = shape.axles ∧
        v.code = shape.code ∧ v.classCode = shape.classCode ∧ v.orientation = shape.orientation ∧
        v.grossLimit = shape.grossLimit ∧
        (∀ a ∈ mine, a.level.code ≤ v.worst.code) ∧
        (v.worst = .none ∨ ∃ a ∈ mine, a.level = v.worst) ∧
        (v.degradedSpacing = true ↔ (∃ a ∈ mine, a.degraded = true) ∨
          (compared ∧ ∃ a, m.waiting[shape.axles]? = some a ∧ a.degraded = true)) ∧
        (v.gapAssumed = true ↔ compared ∧ m.waiting[shape.axles]? = none) ∧
        (v.axleAbandoned = true ↔ ∃ a ∈ mine, a.outcome = .abandoned) ∧
        u.context t = some { m with
          cursor := m.cursor + shape.axles, waiting := m.waiting.drop shape.axles,
          nextVehicle := m.nextVehicle + 1 } ∧
        let named := p.axles.map fun (a : AxleRecord) =>
          if m.cursor ≤ a.index ∧ a.index < m.cursor + shape.axles then
            { a with vehicle := some m.nextVehicle }
          else a
        let chunks := p.vehicleChunks + (if p.vehicles.length % 32 = 0 then 1 else 0)
        (m.finishMark + 1 < m.cursor + shape.axles → v.final = false ∧ v.gross = none ∧
          u.store.ofTrack t m.pass = some { p with
            vehicles := p.vehicles ++ [v], axles := named, vehicleChunks := chunks } ∧
          u.alarms = s.alarms) ∧
        (m.cursor + shape.axles ≤ m.finishMark + 1 → (∀ x ∈ p.vehicles, x.index ≠ m.nextVehicle) →
          let loads : List (Option Nat) := (p.axles.filter fun a => decide (m.cursor ≤ a.index) &&
            decide (a.index < m.cursor + shape.axles)).map fun a => a.axleLoad
          let gross : Option Nat := if none ∈ loads then none
            else some (loads.map fun x => x.getD 0).sum
          let exceeding := fun g : Nat => gross = some g ∧ shape.grossLimit ≠ 0 ∧ shape.grossLimit < g
          (∃ q, u.store.ofTrack t m.pass = some q ∧ q.axles = named ∧ q.vehicleChunks = chunks ∧
            q.vehicles = p.vehicles ++ [{ v with
              final := true, gross := gross
              worst := if ∃ g ∈ gross, shape.grossLimit ≠ 0 ∧ shape.grossLimit < g then .alarm
                else v.worst }]) ∧
          ((∀ g, ¬exceeding g) → u.alarms = s.alarms) ∧
          (∀ g, exceeding g → s.alarms.next < 4294967295 → s.alarms.list.length < 256 →
            ∃ r, u.alarms.list = s.alarms.list ++ [r] ∧ r.alarm =
              ⟨.vehicleOverload, .alarm, t, p.direction, m.pass, m.cursor, some m.nextVehicle, .none, g,
                shape.grossLimit⟩))) ∧
    (∀ (shape : VehicleShape), (s.store.ofTrack t m.pass = none ∨
        ∃ p, s.store.ofTrack t m.pass = some p ∧ p.vehicles.length % 32 = 0 ∧
          s.store.freeVehicleChunks = 0 ∧ s.store.pick = none) →
      let u := s.makeVehicle t m shape
      u.context t = some { m with recording := false, waiting := [] } ∧ u.alarms = s.alarms ∧
        u.ports = s.ports ∧ u.store.ofTrack t m.pass = (s.store.ofTrack t m.pass).map fun p =>
          { p with flags := { p.flags with vehiclesTruncated := true } }) ∧
    (∀ (index : Nat) (o : AxleOutcome) (l : Level), s.context t = some m →
      s.axleVehicle t m.pass index = none → s.tellEnded t m.pass index o l =
        s.setContext t (some { m with
          finishMark := index
          waiting := m.waiting.map fun (a : WaitingAxle) =>
            if a.index = index then { a with outcome := o, level := l } else a })) ∧
    (∀ (index i : Nat) (o : AxleOutcome) (l : Level) (p : HeldPass) (v : VehicleRecord),
      s.context t = some m → s.store.ofTrack t m.pass = some p →
      s.axleVehicle t m.pass index = some i →
      p.vehicles.find? (fun x => decide (x.index = i)) = some v →
      let told := { s.setContext t (some { m with
          finishMark := index
          waiting := m.waiting.map fun (a : WaitingAxle) =>
            if a.index = index then { a with outcome := o, level := l } else a }) with
        store := { s.store with passes := s.store.passes.map fun (q : HeldPass) =>
          if q.number = m.pass ∧ q.track = t then
            { q with vehicles := q.vehicles.map fun (x : VehicleRecord) =>
              if x.index = i then
                { x with
                  worst := if x.worst.code < l.code then l else x.worst
                  axleAbandoned := x.axleAbandoned || decide (o = .abandoned) }
              else x }
          else q } }
      (index + 1 ≠ v.firstAxle + v.axles → s.tellEnded t m.pass index o l = told) ∧
      (index + 1 = v.firstAxle + v.axles →
        s.tellEnded t m.pass index o l = told.completeVehicle t m.pass i)) ∧
    ∀ (n index : Nat) (p : HeldPass) (v : VehicleRecord), s.store.ofTrack t n = some p →
      p.vehicles.find? (fun x => decide (x.index = index)) = some v →
      let mine := p.axles.filter fun a =>
        decide (v.firstAxle ≤ a.index) && decide (a.index < v.firstAxle + v.axles)
      let u := s.completeVehicle t n index
      ∃ gross : Option Nat, (gross = none ↔ ∃ a ∈ mine, a.axleLoad = none) ∧
        (∀ g, gross = some g → g = (mine.map fun a => a.axleLoad.getD 0).sum) ∧
        let exceeds := fun g => gross = some g ∧ v.grossLimit ≠ 0 ∧ v.grossLimit < g
        let final := fun (x : VehicleRecord) =>
          if x.index = index then
            { x with
              final := true, gross := gross
              worst := if (∃ g, gross = some g ∧ v.grossLimit ≠ 0 ∧ v.grossLimit < g) then .alarm
                else x.worst }
          else x
        (∃ q, u.store.ofTrack t n = some q ∧ q.vehicles = p.vehicles.map final ∧ q.axles = p.axles) ∧
        ((∀ g, ¬exceeds g) → u.alarms = s.alarms ∧ u.ports = s.ports) ∧
        (∀ g, exceeds g → s.alarms.next < 4294967295 → s.alarms.list.length < 256 →
          ∃ r, u.alarms.list = s.alarms.list ++ [r] ∧ r.number = s.alarms.next ∧ r.alarm =
            ⟨.vehicleOverload, .alarm, t, p.direction, n, v.firstAxle, some index, .none, g,
              v.grossLimit⟩)

/-- R79 to R86: the results of a wheel from its bays, and those of an axle from its wheels. A set bay is valid
with enough samples and no mark; its static force and, with a sample, its peak force are rounded and clamped
to 0 to 65,534; the static load is that of one bay, the mean of two, or the mean without the greatest and
the least; it lies between the least and the greatest force. R108: the temperature and rise of a scanner, or
the reason for their absence. -/
def Obligations.LoadAndThermalResultsFollowTheirRules : Prop :=
  (∀ (forces : List Nat) (w : Nat), wheelLoad forces = some w →
    (∃ f ∈ forces, f ≤ w) ∧ (∃ f ∈ forces, w ≤ f)) ∧
  (∀ (f g : Nat), wheelLoad [] = none ∧ wheelLoad [f] = some f ∧
    wheelLoad [f, g] = some ((f + g + 1) / 2)) ∧
  (∀ (forces : List Nat) (hi lo : Nat), 3 ≤ forces.length → hi ∈ forces → lo ∈ forces →
    (∀ f ∈ forces, lo ≤ f ∧ f ≤ hi) → wheelLoad forces =
      some ((2 * (forces.sum - hi - lo) + (forces.length - 2)) / (2 * (forces.length - 2)))) ∧
  (∀ (nMin : Nat) (bays : List BayInput),
    let valid := bays.filter fun b => decide (b.slot.set = true ∧ nMin ≤ b.acc.n ∧ b.drifted = false ∧
      b.acc.clipped = false ∧ b.acc.overlap = false)
    let scaled := fun (d : Int) (b : BayInput) => roundDiv (d * b.slot.scale) 65536
    let force := fun (f : Int) => (max 0 (min f 65534)).toNat
    let static := fun (b : BayInput) => scaled (roundDiv b.acc.sum b.acc.n) b
    let sampled := fun (b : BayInput) => b.slot.set = true ∧ 1 ≤ b.acc.n ∧
      (b.acc.clipped = true ∨ b.acc.peak ≠ none)
    let peak := fun (b : BayInput) =>
      if b.acc.clipped = true then 65534 else force (scaled (b.acc.peak.getD 0) b)
    let w := wheelResult nMin bays
    w.valid = valid.length ∧ w.load = wheelLoad (valid.map fun b => force (static b)) ∧
    (w.fewBays = true ↔ valid.length = 1) ∧
    (w.saturated = true ↔ (∃ b ∈ valid, 65534 < static b) ∨
      ∃ b ∈ bays, sampled b ∧ (b.acc.clipped = true ∨ 65534 < scaled (b.acc.peak.getD 0) b)) ∧
    (w.peak = none ↔ ∀ b ∈ bays, ¬sampled b) ∧
    (∀ p, w.peak = some p → ∃ i b, bays[i]? = some b ∧ sampled b ∧ peak b = p ∧
      w.impactBay = some (i + 1) ∧
      ∀ j x, bays[j]? = some x → sampled x → peak x ≤ p ∧ (peak x = p → i ≤ j)) ∧
    w.ratio = (match w.peak, w.load with
      | some p, some x => if x = 0 then none else some (min ((2 * (100 * p) + x) / (2 * x)) 999)
      | _, _ => none)) ∧
  (∀ l r : Nat, axleLoadOf (some l) (some r) = some (l + r) ∧ axleLoadOf none (some r) = none ∧
    (∀ x, axleLoadOf x none = none) ∧
    imbalanceOf (some l) (some r) = (if l + r = 0 then none
      else some ((2 * (1000 * l) + (l + r)) / (2 * (l + r)))) ∧
    imbalanceOf none (some r) = none ∧ ∀ x, imbalanceOf x none = none) ∧
  ∀ (least : Nat) (ambient : Option Int) (a : ScannerAccumulator),
    let r := thermalResult least ambient a
    r.lines = a.lines ∧
    (a.lines < least → r.temperature = none ∧ r.rise = none ∧ r.reason = (match a.mark with
      | .fault => .fault
      | .shutter => .shutter
      | .none => .sparse)) ∧
    (least ≤ a.lines → ∀ m, a.maximum = some m → r.temperature = some m ∧
      (∀ x, ambient = some x → r.rise = some (max (-32767) (min 32767 (m - x))) ∧ r.reason = .none) ∧
      (ambient = none → r.rise = none ∧ r.reason = .noAmbient))

/-- R78, R88 to R92, R109 to R112: finishing an axle at a count-out raises its load alarms and its thermal
alarms, each unit's in the order of its table, the left side's before the right side's (the two units'
interleaved by a free choice, log 12), numbered one after another and stamped now, before an overload of its
vehicle; the bearing rises join the running sums after their checks. The load checks and the thermal checks
are those of their rules, a threshold met at equality but for the imbalance band and the vehicle limit (that
this holds of a band limit of 0 too is the model's choice, log 41). Stated for a list with room and numbers
left. -/
def Obligations.FinishingRaisesLoadAndThermalAlarms : Prop :=
  (∀ (b : AlarmBase) (p : Profile) (w : PerRail WheelResult),
    let alarm := fun (k : AlarmKind) (l : Level) (side : Side) (value threshold : Nat) =>
      (⟨k, l, b.track, b.direction, b.pass, b.axle, b.vehicle, side, value, threshold⟩ : Alarm)
    ((loadAlarms b p w).map fun a => (a.kind, a.side)).Sublist
      [(.impact, .l), (.impactRatio, .l), (.impact, .r), (.impactRatio, .r), (.axleOverload, .none),
        (.imbalance, .l), (.imbalance, .r)] ∧
    ∀ a, a ∈ loadAlarms b p w ↔
      (∃ x ∈ [(Side.l, w.l), (Side.r, w.r)],
        (∃ v, x.2.peak = some v ∧
          ((p.impactAlarm ≤ v ∧ a = alarm .impact .alarm x.1 v p.impactAlarm) ∨
            (v < p.impactAlarm ∧ p.impactWarning ≤ v ∧
              a = alarm .impact .warning x.1 v p.impactWarning))) ∨
        ∃ v, x.2.ratio = some v ∧ p.ratioWarning ≤ v ∧
          a = alarm .impactRatio .warning x.1 v p.ratioWarning) ∨
      (∃ v, axleLoadOf w.l.load w.r.load = some v ∧ p.axleAlarm ≤ v ∧
        a = alarm .axleOverload .alarm .none v p.axleAlarm) ∨
      ∃ v, imbalanceOf w.l.load w.r.load = some v ∧
        ((p.imbalanceUpper < v ∧ a = alarm .imbalance .warning .l v p.imbalanceUpper) ∨
          (v ≤ p.imbalanceUpper ∧ v < p.imbalanceLower ∧
            a = alarm .imbalance .warning .r v p.imbalanceLower))) ∧
  (∀ (b : AlarmBase) (p : Profile) (sums : PerRail RiseSum) (h : PerScanner ThermalResult),
    let alarm := fun (k : AlarmKind) (l : Level) (side : Side) (value : Int) (threshold : Nat) =>
      (⟨k, l, b.track, b.direction, b.pass, b.axle, b.vehicle, side, value, threshold⟩ : Alarm)
    let mean := fun x : RiseSum => roundDiv x.sum x.count
    ((thermalAlarms b p sums h).map fun a => (a.kind, a.side)).Sublist
      [(.bearingHot, .l), (.bearingWarm, .l), (.bearingDiff, .l), (.bearingHot, .r), (.bearingWarm, .r),
        (.bearingDiff, .r), (.bearingCross, .l), (.bearingCross, .r), (.wheelHot, .l), (.wheelHot, .r)] ∧
    ∀ a, a ∈ thermalAlarms b p sums h ↔
      (∃ x ∈ [(Side.l, sums.l, h.bl), (Side.r, sums.r, h.br)], ∃ v, x.2.2.rise = some v ∧
        ((p.bearingHot ≤ v ∧ a = alarm .bearingHot .alarm x.1 v p.bearingHot) ∨
          (v < p.bearingHot ∧ p.bearingWarm ≤ v ∧
            a = alarm .bearingWarm .warning x.1 v p.bearingWarm) ∨
          (p.diffMinAxles ≤ x.2.1.count ∧ p.bearingDiff ≤ v - mean x.2.1 ∧
            a = alarm .bearingDiff .warning x.1 (v - mean x.2.1) p.bearingDiff))) ∨
      (∃ l r, h.bl.rise = some l ∧ h.br.rise = some r ∧ p.bearingCross ≤ (l - r).natAbs ∧
        a = alarm .bearingCross .warning (if l < r then .r else .l) (l - r).natAbs p.bearingCross) ∨
      ∃ x ∈ [(Side.l, h.wl), (Side.r, h.wr)], ∃ v, x.2.rise = some v ∧ p.hotWheel ≤ v ∧
        a = alarm .wheelHot .warning x.1 v p.hotWheel) ∧
  ∀ (now stamp first : SiteTime) (input : Fin 8) (s : State) (t : TrackId) (e : SectionEnd)
    (c : PassContext) (a : AxleEntry) (rest : List AxleEntry),
    CompletesWait s now stamp first input t e .outer →
    (s.section t).state = .occupied → s.ctx t = some c → e = exitEnd c.direction →
    (s.section t).queue = a :: rest → (s.section t).count = rest.length + 1 →
    let base : AlarmBase := ⟨t, c.direction, c.number, a.index, s.axleVehicle t c.number a.index⟩
    let h := thermalResults c a
    let loads := loadAlarms base c.profile
      (wheelResults (s.area t) (s.strain.drifted.get t) c.profile.nMin a)
    let heats := thermalAlarms base c.profile c.rises h
    let n := loads.length + heats.length
    let ofLoads := fun x : Alarm => decide
      (x.kind = .impact ∨ x.kind = .impactRatio ∨ x.kind = .axleOverload ∨ x.kind = .imbalance)
    let joined := fun (x : RiseSum) (rise : Option Int) => match rise with
      | none => x
      | some v => ⟨x.sum + v, x.count + 1⟩
    s.alarms.list.length + n < 256 → s.alarms.next + n ≤ 4294967295 →
    ∃ u d raised more, exec (.debounceConfirm now input) s = .next u ∧
      u.alarms.list = s.alarms.list ++ raised ++ more ∧
      (raised.map fun r => r.alarm).filter ofLoads = loads ∧
      (raised.map fun r => r.alarm).filter (fun x => !ofLoads x) = heats ∧
      (raised.map fun r => r.number) = List.range' s.alarms.next n ∧
      (∀ r ∈ raised, r.siteTime = now ∧ r.stationTime = s.stationTime ∧ r.acknowledged = none) ∧
      (∀ r ∈ more, r.alarm.kind = .vehicleOverload) ∧
      u.ctx t = some d ∧ d.rises = ⟨joined c.rises.l h.bl.rise, joined c.rises.r h.br.rise⟩

/-! ### Output lines -/

/-- R147, R148: an alarm goes to the line and mode of every enabled routing entry it matches, or to the
default line where it matches none. R144, R145: a raised alarm takes the next number and the site and station
time, and joins the list; a full list loses its first acknowledged record, or refuses the alarm and sets
LIST_FULL; once the last number is given it takes none and is refused. The model's choices: such an alarm sets
LIST_FULL where the list would have refused it anyway (log 19), and the header in which an alarm is counted is
that of its pass's number and track (log 34). It is counted in its pass's header and announced.
R149, R151: its lines are driven: LATCH by its record, PULSE by a pulse, FOLLOW by a holder while its pass is
open and else by a pulse; refused, by a pulse in every mode. R150: what makes a line active. -/
def Obligations.RaisedAlarmIsStoredRoutedAndAnnounced : Prop :=
  (∀ (site : SiteArea) (a : Alarm) (target : Fin 8 × LineMode),
    let matched := fun x : RoutingEntry => x ∈ site.routingTable ∧ x.enabled = true ∧
      x.minLevel ≤ a.level.code ∧ (∀ k, x.kind = some k → k = a.kind.code) ∧
      (∀ k, x.track = some k → k = trackNumber a.track) ∧ (∀ k, x.side = some k → k = a.side.code) ∧
      (∀ k, x.direction = some k → k = a.direction.code)
    target ∈ site.routes a ↔ (∃ x, matched x ∧ target = (x.line, x.mode)) ∨
      ((∀ x, ¬matched x) ∧ site.defaultLine = some target)) ∧
  (∀ (u : AlarmUnit) (i : Fin 8), u.active i = true ↔
    (∃ r ∈ u.list, r.acknowledged = none ∧ i ∈ r.latched) ∨ (u.lines.get i).followers ≠ [] ∨
      ∃ timer, (u.lines.get i).phase = .pulse timer) ∧
  ∀ (s : State) (a : Alarm),
    let u := s.raise a
    let numbered := s.alarms.next < 4294967295
    let stored := numbered ∧ (s.alarms.list.length < 256 ∨
      ∃ r ∈ s.alarms.list, r.acknowledged ≠ none)
    let routes := s.siteArea.routes a
    let passOpen := s.alarms.openPass.get a.track = some a.pass
    let holder : Holder := ⟨a.track, a.pass, s.alarms.next⟩
    (∃ r : AlarmRecord, r.number = s.alarms.next ∧ r.alarm = a ∧ r.siteTime = s.siteTime ∧
      r.stationTime = s.stationTime ∧ r.acknowledged = none ∧
      (∀ i, i ∈ r.latched ↔ (i, .latch) ∈ routes) ∧
      (numbered → s.alarms.list.length < 256 → u.alarms.list = s.alarms.list ++ [r]) ∧
      (numbered → 256 ≤ s.alarms.list.length → ∀ before x after,
        s.alarms.list = before ++ x :: after → (∀ y ∈ before, y.acknowledged = none) →
        x.acknowledged ≠ none → u.alarms.list = before ++ after ++ [r])) ∧
    (¬stored → u.alarms.list = s.alarms.list) ∧
    u.alarms.next = (if numbered then s.alarms.next + 1 else s.alarms.next) ∧
    (u.alarms.listFull = true ↔ s.alarms.listFull = true ∨
      (256 ≤ s.alarms.list.length ∧ ∀ r ∈ s.alarms.list, r.acknowledged = none)) ∧
    u.alarms.openPass = s.alarms.openPass ∧
    (∀ i,
      let before := s.alarms.lines.get i
      let pulsed := (stored ∧ ((i, .pulse) ∈ routes ∨ ((i, .follow) ∈ routes ∧ ¬passOpen))) ∨
        (¬stored ∧ ∃ x ∈ routes, x.1 = i)
      (u.alarms.lines.get i).followers =
        (if stored ∧ (i, .follow) ∈ routes ∧ passOpen ∧ holder ∉ before.followers then
          before.followers ++ [holder] else before.followers) ∧
      (u.alarms.lines.get i).phase =
        (if pulsed ∧ before.phase = .idle then
          .pulse ⟨s.siteTime, s.siteArea.pulseTime i⟩ else before.phase) ∧
      ((u.alarms.lines.get i).pendingPulse = true ↔
        before.pendingPulse = true ∨ (pulsed ∧ before.phase ≠ .idle))) ∧
    u = { s with
      alarms := u.alarms
      store := { s.store with passes := s.store.passes.map fun (p : HeldPass) =>
        if p.number = a.pass ∧ p.track = a.track then { p with alarmCount := p.alarmCount + 1 } else p }
      ports := (s.notify (.alarmRaised (if numbered then some s.alarms.next else none) a.kind a.level
        (!decide stored))).ports }

/-- R151: a pulse that ends starts the recovery of its line; a recovery that ends starts a pending pulse or
returns the line to IDLE, and a recovery time of 0 ends at once. -/
def Obligations.LineTimersEndPulseAndRecovery : Prop :=
  ∀ (now : SiteTime) (line : Fin 8) (r : Running) (s : State), r.length ≤ interval r.start now →
    let l := s.alarms.lines.get line
    let withLine := fun x : OutputLine =>
      { s with siteTime := now, alarms := { s.alarms with lines := s.alarms.lines.set line x } }
    let after : OutputLine :=
      if l.pendingPulse = true then
        { l with phase := .pulse ⟨now, s.siteArea.pulseTime line⟩, pendingPulse := false }
      else { l with phase := .idle }
    (l.phase = .pulse r → s.siteArea.recoveryTime line ≠ 0 →
      exec (.pulseTimerExpiry now line) s = .next (withLine
        { l with phase := .recovery ⟨now, s.siteArea.recoveryTime line⟩ })) ∧
    (l.phase = .pulse r → s.siteArea.recoveryTime line = 0 →
      exec (.pulseTimerExpiry now line) s = .next (withLine after)) ∧
    (l.phase = .recovery r →
      exec (.recoveryTimerExpiry now line) s = .next (withLine after))

/-! ### Station time -/

/-- R169: SET TIME stores its value, answered OK, and restarts the timing of the second; each second after
it a set station time goes up by one, from its greatest value to 1, and a station time of 0 stands. -/
def Obligations.StationTimeIsSetAndAdvances : Prop :=
  ∀ (now : SiteTime) (s : State),
    (∀ (p : Port) (bytes args : List Byte), args.length = 4 → Completes s p bytes 66 args →
      exec (.setTime now p bytes) s = .next
        ({ s with
          stationTime := BitVec.ofNat 32 (bytesNat args), secondStart := now }.replying now p 1 [])) ∧
    (s.stationTime ≠ 0 → 1000000 ≤ interval s.secondStart now →
      exec (.stationTimeAdvance now) s = .next { s with
        siteTime := now
        secondStart := s.secondStart + 1000000
        stationTime := if s.stationTime = 4294967295 then 1 else s.stationTime + 1 }) ∧
    (s.stationTime = 0 → exec (.stationTimeAdvance now) s = .next { s with siteTime := now })

/-! ### Transactions -/

/-- R159: select moves a DESELECTED port to COMMAND, and a deassertion returns the port to DESELECTED, with
no other effect where no STAGE WRITE is truncated. R161: a STAGE WRITE truncated after its area, offset and
some whole words stages those words as far as they lie in the area, without a reply; a shorter one stages
nothing, nor does one of an unknown area (log 35). R159, R160: a byte that does not complete a frame (log 6)
moves the phase on and shifts a zero byte out; in REPLY the next byte of the reply is shifted out, zero
beyond its end, and the byte shifted in is ignored. -/
def Obligations.SelectAndBytesMoveTheTransaction : Prop :=
  ∀ (now : SiteTime) (p : Port) (s : State),
    ((s.port p).phase = .deselected →
      exec (.selectAssert now p) s = .next ({ s with siteTime := now }.setPort p
        { s.port p with phase := .command, dataOut := 0 })) ∧
    ((∀ len got, (s.port p).phase ≠ .arguments 48 len got) →
      exec (.selectDeassert now p) s =
        .next ({ s with siteTime := now }.setPort p { s.port p with phase := .deselected })) ∧
    (∀ len got, (s.port p).phase = .arguments 48 len got →
      ∃ u, exec (.selectDeassert now p) s = .next u ∧
        u = { s with
          siteTime := now, config := u.config,
          ports := (s.setPort p { s.port p with phase := .deselected }).ports } ∧
        ((got.length < 7 ∨ areaOfCode (bytesNat (got.take 1)) = none) → u.config = s.config) ∧
        (∀ area, areaOfCode (bytesNat (got.take 1)) = some area → 7 ≤ got.length →
          u.stagedWords area =
            (s.stage area (bytesNat ((got.drop 1).take 2))
              (wholeWords got.length (got.drop 3))).1.stagedWords area ∧
          ∀ other, u.activeWords other = s.activeWords other ∧
            (other ≠ area → u.stagedWords other = s.stagedWords other))) ∧
    ∀ b : Byte,
      let put := fun (phase : Phase) (out : Byte) =>
        ({ s with siteTime := now }.setPort p { s.port p with phase := phase, dataOut := out })
      ((s.port p).phase = .command →
        exec (.byteShiftedIn now p b) s = .next (put (.length b) 0)) ∧
      (∀ cmd, (s.port p).phase = .length cmd → b ≠ 0 →
        exec (.byteShiftedIn now p b) s = .next (put (.arguments cmd b.toNat []) 0)) ∧
      (∀ cmd len got, (s.port p).phase = .arguments cmd len got → got.length + 1 < len →
        exec (.byteShiftedIn now p b) s = .next (put (.arguments cmd len (got ++ [b])) 0)) ∧
      (∀ out rest, (s.port p).phase = .reply (out :: rest) →
        exec (.byteShiftedIn now p b) s = .next (put (.reply rest) out)) ∧
      ((s.port p).phase = .reply [] → exec (.byteShiftedIn now p b) s = .next (put (.reply []) 0)) ∧
      ((s.port p).phase = .discarded → exec (.byteShiftedIn now p b) s = .next (put .discarded 0))

/-- R159, R189: a command byte, a length byte and that many argument bytes complete a frame from COMMAND,
and bytes shifted in before leave the rest to complete the same frame (log 6). -/
def Obligations.WholeFrameIsTaken : Prop :=
  (∀ (cmd : Byte) (args : List Byte), args.length ≤ 255 →
    takeFrame .command (cmd :: BitVec.ofNat 8 args.length :: args) = some (cmd, args)) ∧
  ∀ (now : SiteTime) (p : Port) (b b2 : Byte) (rest : List Byte) (cmd : Byte) (args : List Byte)
    (s u : State), takeFrame (s.port p).phase (b :: b2 :: rest) = some (cmd, args) →
    exec (.byteShiftedIn now p b) s = .next u →
    takeFrame (u.port p).phase (b2 :: rest) = some (cmd, args)

/-- R162, steps 1 and 2: a frame whose command byte names no command is answered UNKNOWN_COMMAND and changes
nothing; a command of a fixed argument length that comes with another is answered BAD_LENGTH and changes
nothing, before any other check. -/
def Obligations.UnknownCommandAndWrongLengthChangeNothing : Prop :=
  ∀ (now : SiteTime) (p : Port) (bytes args : List Byte) (s : State),
    (∀ cmd, takeFrame (s.port p).phase bytes = some (cmd, args) →
      cmd.toNat ∉ [1, 2, 3, 16, 17, 18, 19, 20, 21, 32, 33, 34, 48, 49, 50, 51, 52, 64, 65, 66, 67] →
      exec (.unknownCommand now p bytes) s = .next (s.replying now p 5 [])) ∧
    ∀ row ∈ fixedLengthRows, Completes s p bytes row.2.1 args → args.length ≠ row.2.2 →
      exec (row.1 now p bytes) s = .next (s.replying now p 6 [])

/-! ### Station commands -/

/-- R168, R142, R182: STATUS, LIST PASSES, STAGE READ and ACTIVE READ change nothing but the port's
transaction. STATUS answers its 23 words, each field as it stands and every other bit 0 (R190); LIST PASSES
one count byte and two words for each held pass, in their order (R189); and the two reads the words of the
image from the offset on, END where it ended first. -/
def Obligations.ReadingCommandsChangeNothing : Prop :=
  ∀ (now : SiteTime) (p : Port) (bytes args : List Byte) (s : State),
    (Completes s p bytes 1 [] → ∃ words : List Word, words.length = 23 ∧
      exec (.status now p bytes) s = .next (s.replying now p 1 (wordsBytes words)) ∧
      let part := fun (i hi lo n : Nat) =>
        (words.getD i 0).toNat / 2 ^ lo % 2 ^ (hi + 1 - lo) = n % 2 ^ (hi + 1 - lo)
      let mark := fun x : Bool => if x = true then 1 else 0
      let signed := fun x : Option Int => match x with
        | none => 32768
        | some v => (BitVec.ofInt 16 v).toNat
      words.getD 0 0 = now ∧ words.getD 1 0 = s.stationTime ∧
      part 2 31 31 (mark s.ports.a.attached) ∧ part 2 30 30 (mark s.ports.b.attached) ∧
      part 2 29 8 0 ∧ part 2 7 0 (s.port p).notices.length ∧
      (∀ t, let c := s.section t
        let i := match t with
          | .t1 => 3
          | .t2 => 5
        part i 31 24 ([TrackState.unconfigured, .outOfService, .idle, .approach, .occupied, .standing,
          .clearing, .draining].idxOf c.state) ∧
        part i 23 16 c.count ∧ part i 15 3 0 ∧ part i 2 2 (mark c.underflow) ∧
        part i 1 1 (match c.ctx with
          | none => 0
          | some x => mark (!x.recorded)) ∧
        part i 0 0 (mark (s.config.tracks.get t).committed.isSome) ∧
        part (i + 1) 31 16 (match c.ctx with
          | none => 65535
          | some x => x.number) ∧
        part (i + 1) 15 0 (s.config.tracks.get t).activeGeneration) ∧
      part 7 31 16 0 ∧
      (∀ input t e x, sensorOfInput input = (t, e, x) →
        part 7 (8 + input) (8 + input) (mark (s.sensor t e x).held) ∧
        part 7 input input (mark (s.sensor t e x).suspect)) ∧
      (∀ t rail b, let k := (match t with
          | .t1 => 0
          | .t2 => 16) + (match rail with
          | .l => 0
          | .r => 8) + (b : Fin 8).val
        part 8 k k (mark (s.isDrifted t rail b))) ∧
      (∀ link t n, scannerOfLink link = (t, n) →
        part (9 + link) 31 28 ([ShutterView.closed, .opening, .opened, .closing, .fault, .silent].idxOf
          (s.scanner t n).view) ∧
        part (9 + link) 27 24 (2 * mark (s.scanner t n).wantedOpen) ∧ part (9 + link) 23 16 0 ∧
        part (9 + link) 15 0 (signed (s.scanner t n).housing)) ∧
      part 17 31 16 (signed s.strain.ambient) ∧ part 17 15 8 0 ∧
      part 17 7 0 (16 - s.store.passes.length) ∧
      part 18 31 24 s.store.freeAxleChunks ∧ part 18 23 16 s.store.freeVehicleChunks ∧
      part 18 15 9 0 ∧ part 18 8 8 (mark s.alarms.listFull) ∧
      (∀ i : Fin 8, part 18 i i (mark (s.alarms.active i))) ∧
      part 19 31 16 s.alarms.list.length ∧
      part 19 15 0 (s.alarms.list.filter fun r => decide (r.acknowledged = none)).length ∧
      part 20 31 0 s.alarms.next ∧
      part 21 31 16 s.config.generation ∧ part 21 15 0 s.config.site.activeGeneration ∧
      part 22 31 1 0 ∧ part 22 0 0 (mark s.config.site.committed.isSome)) ∧
    (Completes s p bytes 16 [] →
      let entry := fun x : HeldPass =>
        [(x.number % 65536) * 65536 + (match x.track with
            | .t1 => 1
            | .t2 => 2) * 4096 + (match x.direction with
            | .pq => 0
            | .qp => 1) * 256 + (match x.state with
            | .opened => 0
            | .closed => 1
            | .closing => 2) * 16 + (if x.retention.get p = true then 8 else 0) +
          (if x.release.get p = true then 4 else 0) +
          (if x.state = .closed ∧ (x.retention.a = true → x.release.a = true) ∧
            (x.retention.b = true → x.release.b = true) then 2 else 0),
          (x.axles.length % 65536) * 65536 + x.vehicles.length % 65536]
      exec (.listPasses now p bytes) s = .next (s.replying now p 1
        (BitVec.ofNat 8 s.store.passes.length ::
          wordsBytes ((s.store.passes.flatMap entry).map fun n => BitVec.ofNat 32 n)))) ∧
    (∀ area, args.length = 4 → areaOfCode (bytesNat (args.take 1)) = some area →
      1 ≤ bytesNat (args.drop 3) → bytesNat (args.drop 3) ≤ 64 →
      let offset := bytesNat ((args.drop 1).take 2)
      let count := bytesNat (args.drop 3)
      let words := fun image : List Word => (image.drop offset).take count
      let status := fun image : List Word => if (words image).length = count then 1 else 2
      (Completes s p bytes 49 args → exec (.stageRead now p bytes) s = .next
        (s.replying now p (status (s.stagedWords area)) (wordsBytes (words (s.stagedWords area))))) ∧
      (Completes s p bytes 50 args → exec (.activeRead now p bytes) s = .next
        (s.replying now p (status (s.activeWords area)) (wordsBytes (words (s.activeWords area))))))

/-- R164, R135: ATTACH and DETACH change the attachment, or answer ALREADY; DETACH joins the release set of
the closed passes the port holds and empties its queue. -/
def Obligations.AttachAndDetachOwnTheAttachment : Prop :=
  ∀ (now : SiteTime) (p : Port) (bytes : List Byte) (s : State),
    (Completes s p bytes 2 [] →
      ((s.port p).attached = true → exec (.attach now p bytes) s = .next (s.replying now p 3 [])) ∧
      ((s.port p).attached = false → exec (.attach now p bytes) s =
        .next ((s.setPort p { s.port p with attached := true }).replying now p 1 []))) ∧
    (Completes s p bytes 3 [] →
      ((s.port p).attached = false → exec (.detach now p bytes) s = .next (s.replying now p 3 [])) ∧
      ((s.port p).attached = true → exec (.detach now p bytes) s =
        .next (({ s with store := { s.store with passes := s.store.passes.map fun (x : HeldPass) =>
            if x.state = PassState.closed ∧ x.retention.get p = true then
              { x with release := x.release.set p true }
            else x } }.setPort p { s.port p with attached := false, notices := [] }).replying now p 1
          [])))

/-- R139: SELECT PASS of a held pass sets the view with the cursor at offset 0 of the header; of a number
not held it is answered NOT_HELD and leaves the view; a number of 0 or above 65,534 is BAD_ARGUMENT. R139,
R140, R170: the three READ commands return the words of their part of the viewed pass from the start on, END
where it ended first, and set the cursor after them; with CONTINUE they start at the cursor where it stands
in the same part; an empty view is answered NO_VIEW, a stale one NOT_HELD and emptied; a start or a count
out of range is BAD_ARGUMENT. -/
def Obligations.SelectAndReadCommandsUseTheView : Prop :=
  (∀ (now : SiteTime) (p : Port) (bytes args : List Byte) (s : State), args.length = 2 →
    Completes s p bytes 17 args →
    let n := bytesNat args
    (1 ≤ n → n ≤ 65534 → (s.store.find n).isSome = true → exec (.selectPass now p bytes) s =
      .next ((s.setPort p { s.port p with view := .names n .header 0 }).replying now p 1 [])) ∧
    (1 ≤ n → n ≤ 65534 → s.store.find n = none →
      exec (.selectPass now p bytes) s = .next (s.replying now p 9 [])) ∧
    ((n = 0 ∨ 65534 < n) → exec (.selectPass now p bytes) s = .next (s.replying now p 7 []))) ∧
  ∀ row ∈ [(Instr.readHeader, 18, ReadPart.header), (Instr.readAxles, 19, ReadPart.axles),
      (Instr.readVehicles, 20, ReadPart.vehicles)],
    ∀ (now : SiteTime) (p : Port) (bytes args : List Byte) (s : State), args.length = 3 →
    Completes s p bytes row.2.1 args →
    let start := bytesNat (args.take 2)
    let count := bytesNat (args.drop 2)
    let inRange := (start ≤ 16383 ∨ start = 65535) ∧ 1 ≤ count ∧ count ≤ 64
    (¬inRange → exec (row.1 now p bytes) s = .next (s.replying now p 7 [])) ∧
    (inRange →
      ((s.port p).view = .empty → exec (row.1 now p bytes) s = .next (s.replying now p 11 [])) ∧
      ((s.port p).view = .stale → exec (row.1 now p bytes) s =
        .next ((s.setPort p { s.port p with view := .empty }).replying now p 9 [])) ∧
      (∀ n part offset x, (s.port p).view = .names n part offset → s.store.find n = some x →
        let first := if start = 65535 then (if part = row.2.2 then offset else 0) else start
        let got := ((x.partWords row.2.2).drop first).take count
        first ≤ (x.partWords row.2.2).length →
        exec (row.1 now p bytes) s =
          .next ((s.setPort p { s.port p with
            view := .names n row.2.2 (first + got.length) }).replying now p
            (if got.length = count then 1 else 2) (wordsBytes got))))

/-- R134: RELEASE PASS at an attached port, by the state of the named pass. -/
def Obligations.ReleasePassFollowsItsTable : Prop :=
  ∀ (now : SiteTime) (p : Port) (bytes args : List Byte) (s : State), args.length = 2 →
    Completes s p bytes 21 args → 1 ≤ bytesNat args → bytesNat args ≤ 65534 →
    let n := bytesNat args
    ((s.port p).attached = false →
      exec (.releasePass now p bytes) s = .next (s.replying now p 8 [])) ∧
    ((s.port p).attached = true →
      (s.store.find n = none → exec (.releasePass now p bytes) s = .next (s.replying now p 9 [])) ∧
      (∀ x, s.store.find n = some x →
        (x.state ≠ .closed → exec (.releasePass now p bytes) s = .next (s.replying now p 10 [])) ∧
        (x.state = .closed → (x.retention.get p = false ∨ x.release.get p = true) →
          exec (.releasePass now p bytes) s = .next (s.replying now p 3 [])) ∧
        (x.state = .closed → x.retention.get p = true → x.release.get p = false →
          exec (.releasePass now p bytes) s = .next
            ({ s with store := { s.store with passes := s.store.passes.map fun (y : HeldPass) =>
              if y.number = n then { y with release := y.release.set p true } else y } }.replying
              now p 1 []))))

/-- R129, R136, R139: a pass that opens with all sixteen slots taken. A fully released pass, the first in the
list, is dropped without a notice; where there is none, the first partly released pass is, with PASS_DROPPED
to the ports that still hold it; the views that name it become stale and the new pass takes its place at the
tail. Where there is neither, nothing is dropped and the pass runs unrecorded: PASS_OPENED says so, and no
header and no record of it is made. Stated with chunks free, so that no further room is asked for. -/
def Obligations.FullStoreReclaimsOrRunsUnrecorded : Prop :=
  ∀ (now stamp first : SiteTime) (input : Fin 8) (s : State) (t : TrackId) (e : SectionEnd),
    CompletesWait s now stamp first input t e .inner →
    ((s.section t).state = .idle ∨ (s.section t).state = .approach) →
    s.ctx t = none → (s.section t).count = 0 → (s.section t).queue = [] →
    s.store.poolsOk = true → s.store.passes.length = 16 → s.store.find s.store.nextPass = none →
    0 < s.store.freeAxleChunks → 0 < s.store.freeVehicleChunks →
    let released := fun y : HeldPass => y.state = .closed ∧
      ∀ p, y.retention.get p = true → y.release.get p = true
    let partly := fun y : HeldPass => y.state = .closed ∧ ¬released y ∧ ∃ p, y.release.get p = true
    let dropped := fun (y : HeldPass) (u : State) => ∃ x c,
      u.store.passes = (s.store.passes.filter fun z => decide (z.number ≠ y.number)) ++ [x] ∧
      x.number = s.store.nextPass ∧ x.track = t ∧ x.state = .opened ∧
      u.ctx t = some c ∧ c.number = s.store.nextPass ∧ c.recorded = true ∧
      ∀ p, (∀ n part offset, (s.port p).view = .names n part offset →
        (u.port p).view = (if n = y.number then .stale else (s.port p).view)) ∧
        (s.port p).attached = (u.port p).attached
    let opened := fun unrecorded => (⟨.passOpened s.store.nextPass t (directionFrom e) unrecorded, now⟩ :
      Notice)
    ∃ u, exec (.debounceConfirm now input) s = .next u ∧
      (∀ before y after, s.store.passes = before ++ y :: after → released y →
        (∀ z ∈ before, ¬released z) → dropped y u ∧
        ∀ p, (s.port p).attached = true → (s.port p).notices = [] →
          (u.port p).notices.head? = some (opened false)) ∧
      (∀ before y after, s.store.passes = before ++ y :: after → partly y →
        (∀ z ∈ s.store.passes, ¬released z) → (∀ z ∈ before, ¬partly z) → dropped y u ∧
        ∀ p, (s.port p).attached = true → (s.port p).notices = [] →
          (y.retention.get p = true → y.release.get p = false →
            (u.port p).notices.take 2 = [⟨.passDropped y.number, now⟩, opened false]) ∧
          (y.retention.get p = false ∨ y.release.get p = true →
            (u.port p).notices.head? = some (opened false))) ∧
      ((∀ z ∈ s.store.passes, ¬released z ∧ ¬partly z) → ∃ c,
        u.ctx t = some c ∧ c.number = s.store.nextPass ∧ c.recorded = false ∧ c.storing = false ∧
        u.store = { s.store with nextPass := u.store.nextPass } ∧
        (u.section t).state = .occupied ∧ (u.section t).queue.length = 1 ∧
        ∀ p, (u.port p).view = (s.port p).view ∧
          ((s.port p).attached = true → (s.port p).notices = [] →
            (u.port p).notices.head? = some (opened true)))

/-- R167: a port's attention line is active exactly while its queue is not empty. READ NOTICE removes the
oldest notice and answers it with the number left; an empty queue is answered END with a count of 0, and a
DETACHED port NOT_ATTACHED. -/
def Obligations.ReadNoticeTakesTheOldest : Prop :=
  ∀ (now : SiteTime) (p : Port) (s : State),
    ((s.port p).attention = true ↔ (s.port p).notices ≠ []) ∧
    ∀ bytes : List Byte, Completes s p bytes 32 [] →
      ((s.port p).attached = false →
        exec (.readNotice now p bytes) s = .next (s.replying now p 8 [])) ∧
      ((s.port p).attached = true →
        ((s.port p).notices = [] →
          exec (.readNotice now p bytes) s = .next (s.replying now p 2 [0, 0, 0, 0])) ∧
        (∀ n rest, (s.port p).notices = n :: rest → exec (.readNotice now p bytes) s =
          .next ((s.setPort p { s.port p with notices := rest }).replying now p 1
            (wordsBytes (n.words ++ [BitVec.ofNat 32 rest.length])))))

/-- R156, R170: READ ALARMS returns the records from its starting number on, oldest first, up to its count,
and END where there were fewer; a count of 0 or above 8 is BAD_ARGUMENT. -/
def Obligations.ReadAlarmsReturnsRecordsInOrder : Prop :=
  ∀ (now : SiteTime) (p : Port) (bytes args : List Byte) (s : State), args.length = 5 →
    Completes s p bytes 33 args →
    let start := bytesNat (args.take 4)
    let count := bytesNat (args.drop 4)
    let got := (s.alarms.list.filter fun r => decide (max start 1 ≤ r.number)).take count
    (1 ≤ count → count ≤ 8 → exec (.readAlarms now p bytes) s =
      .next (s.replying now p (if got.length = count then 1 else 2)
        (wordsBytes (got.flatMap AlarmRecord.words)))) ∧
    ((count = 0 ∨ 8 < count) →
      exec (.readAlarms now p bytes) s = .next (s.replying now p 7 []))

/-- R153: ACK ALARM acknowledges an unacknowledged record for the asking port and clears LIST_FULL; one
already acknowledged is answered ALREADY, a number of no record NOT_HELD. Stated for a list without two
records of one number (R145). -/
def Obligations.AckAlarmFollowsItsTable : Prop :=
  ∀ (now : SiteTime) (p : Port) (bytes args : List Byte) (s : State), args.length = 4 →
    Completes s p bytes 34 args → s.alarms.listOk = true →
    let n := bytesNat args
    ((∀ r ∈ s.alarms.list, r.number ≠ n) →
      exec (.ackAlarm now p bytes) s = .next (s.replying now p 9 [])) ∧
    (∀ r ∈ s.alarms.list, r.number = n →
      (r.acknowledged.isSome = true →
        exec (.ackAlarm now p bytes) s = .next (s.replying now p 3 [])) ∧
      (r.acknowledged = none → exec (.ackAlarm now p bytes) s = .next
        ({ s with alarms := { s.alarms with
          list := s.alarms.list.map fun (x : AlarmRecord) =>
            if x.number = n then { x with acknowledged := some p } else x
          listFull := false } }.replying now p 1 [])))

/-! ### Configuration -/

/-- R181: a STAGE WRITE whose last word lies in its area stages each word from the offset on, each through
the fields of its word, and leaves every other staged word, the active and committed images, the generations
and the pending marks as they are. It is answered CLAMPED exactly where a field is clamped, one out of its
range or a mark above 1 (log 16), and else OK. One that reaches beyond the
area is BAD_ARGUMENT and stages nothing. -/
def Obligations.StageWriteStagesItsWords : Prop :=
  ∀ (now : SiteTime) (p : Port) (bytes args : List Byte) (area : Area) (ws : List Word) (offset : Nat)
    (s : State), 1 ≤ ws.length → offset < 65536 →
    args = BitVec.ofNat 8 area.code :: (halfBytes offset ++ wordsBytes ws) →
    Completes s p bytes 48 args →
    let length := match area with
      | .site => 348
      | .track _ => 82
    let fields := fun i => match area with
      | .site => siteFields i
      | .track _ => trackFields i
    let clamped := fun (f : FieldSpec) (w : Word) =>
      let v := w.toNat / 2 ^ f.lo % 2 ^ (f.hi + 1 - f.lo)
      match f.kind with
      | .range least greatest => v < least ∨ greatest < v
      | .signed => False
      | .mark => 1 < v
    (offset + ws.length ≤ length → ∃ u code, exec (.stageWrite now p bytes) s = .next u ∧
      (code = 1 ∨ code = 4) ∧
      (code = 4 ↔ ∃ i w f, ws[i]? = some w ∧ f ∈ fields (offset + i) ∧ clamped f w) ∧
      u = { s.replying now p code [] with config := u.config } ∧
      u.stagedWords area = (s.stagedWords area).take offset ++
        (ws.zipIdx.map fun x => (storeWord (fields (offset + x.2)) x.1).1) ++
        (s.stagedWords area).drop (offset + ws.length) ∧
      (∀ other, other ≠ area → u.stagedWords other = s.stagedWords other) ∧
      (∀ t, u.config.tracks.get t =
        { s.config.tracks.get t with staged := (u.config.tracks.get t).staged }) ∧
      u.config.site = { s.config.site with staged := u.config.site.staged } ∧
      u.config.generation = s.config.generation) ∧
    (length < offset + ws.length → exec (.stageWrite now p bytes) s = .next (s.replying now p 7 []))

/-- R183, R189: the validation's nine checks, on TRACK 1 and then on TRACK 2, in their order; the detail code
is that of the first that fails. R184: a COMMIT whose validation fails changes nothing and answers it. One
that passes advances the generation and is answered OK with it and the areas still pending. Of the areas that
change, that of a track at rest (IDLE, OUT_OF_SERVICE or UNCONFIGURED) and, where no pass is open, the site's
are promoted at once (R186), a track at rest keeping its state but for an UNCONFIGURED one (R43; what an IDLE
one keeps for an event of the same site time is the model's own, log 39), and each other is pending with the
new generation; an area that does not change is as it was without a pending mark. R76: the site's promotion
takes the ambient value away where its channel, zero or scale changes. R185: ABANDON copies the active images
into the staged ones and discards what is pending. -/
def Obligations.CommitAndAbandonSetTheImages : Prop :=
  (∀ one two : TrackArea,
    let set := fun (a : TrackArea) rail b => (a.bay rail b).set = true
    let fails := fun (order : Nat) (a other : TrackArea) =>
      let p2 := a.sensorX .p .inner
      let q2 := a.sensorX .q .inner
      match order with
      | 1 => ∃ e x, a.sensorX e x = 0
      | 2 => ¬(a.sensorX .p .outer < p2 ∧ p2 < q2 ∧ q2 < a.sensorX .q .outer)
      | 3 => ¬(a.sensorX .p .outer + 200 ≤ p2 ∧ p2 ≤ a.sensorX .p .outer + 1000 ∧
          q2 + 200 ≤ a.sensorX .q .outer ∧ a.sensorX .q .outer ≤ q2 + 1000)
      | 4 => ∃ rail b, set a rail b ∧
          ¬((a.bay rail b).start + 300 ≤ (a.bay rail b).stop ∧
            (a.bay rail b).stop ≤ (a.bay rail b).start + 2000)
      | 5 => ∃ rail b, set a rail b ∧ ¬(p2 < (a.bay rail b).start ∧ (a.bay rail b).stop < q2)
      | 6 => ∃ rail b c, b ≠ c ∧ set a rail b ∧ set a rail c ∧
          (a.bay rail c).start < (a.bay rail b).stop ∧ (a.bay rail b).start < (a.bay rail c).stop
      | 7 => ∃ rail b, set a rail b ∧
          (a.scanList.map fun x => x.1).count (a.bay rail b).channel ≠ 1
      | 8 => ∃ rail b, set a rail b ∧
          ((∃ r2 c, (r2, c) ≠ (rail, b) ∧ set a r2 c ∧ (a.bay r2 c).channel = (a.bay rail b).channel) ∨
            ∃ r2 c, set other r2 c ∧ (other.bay r2 c).channel = (a.bay rail b).channel)
      | 9 => ∃ n, ¬(p2 + a.gateHalf n < a.scannerX n ∧ a.scannerX n + a.gateHalf n < q2)
      | _ => False
    (validate one two = none ↔ ∀ k, ¬fails k one two ∧ ¬fails k two one) ∧
    ∀ detail, validate one two = some detail ↔ ∃ order,
      (detail = 16 + order ∧ fails order one two ∧ ∀ k < order, ¬fails k one two) ∨
      (detail = 32 + order ∧ fails order two one ∧ (∀ k, ¬fails k one two) ∧
        ∀ k < order, ¬fails k two one)) ∧
  ∀ (now : SiteTime) (p : Port) (bytes : List Byte) (s : State),
    (Completes s p bytes 51 [] →
      s.config.validate = validate s.config.tracks.t1.staged s.config.tracks.t2.staged ∧
      (∀ detail, s.config.validate = some detail → exec (.commit now p bytes) s =
        .next (s.replying now p 12 [BitVec.ofNat 8 detail])) ∧
      (s.config.validate = none →
        let generation := if s.config.generation < 65535 then s.config.generation + 1 else 1
        let noPass := s.ctx .t1 = none ∧ s.ctx .t2 = none
        let atRest := fun t => (s.section t).state = .unconfigured ∨
          (s.section t).state = .outOfService ∨ (s.section t).state = .idle
        ∃ u, exec (.commit now p bytes) s = .next u ∧ u.config.generation = generation ∧
        (∀ area, u.stagedWords area = s.stagedWords area) ∧
        (∀ t, (s.config.tracks.get t).changes = true → atRest t →
          Promoted s u now t (s.config.tracks.get t).staged generation ∧
          ((s.section t).state ≠ .unconfigured → u.section t =
            { s.section t with
              approach := (u.section t).approach, coinciding := (u.section t).coinciding })) ∧
        (∀ t, (s.config.tracks.get t).changes = true → ¬atRest t →
          u.config.tracks.get t = { s.config.tracks.get t with
            committed := some ((s.config.tracks.get t).staged, generation) } ∧
          u.section t = s.section t) ∧
        (∀ t, (s.config.tracks.get t).changes = false →
          u.config.tracks.get t = { s.config.tracks.get t with committed := none } ∧
          u.section t = s.section t) ∧
        (s.config.site.changes = true → noPass → u.config.site = { s.config.site with
            active := s.config.site.staged, activeGeneration := generation, committed := none } ∧
          u.strain.ambient =
            (if s.siteArea.ambientChannel = u.siteArea.ambientChannel ∧
                s.siteArea.ambientZero = u.siteArea.ambientZero ∧
                s.siteArea.ambientScale = u.siteArea.ambientScale then s.strain.ambient
            else none)) ∧
        (s.config.site.changes = true → ¬noPass → u.config.site = { s.config.site with
          committed := some (s.config.site.staged, generation) }) ∧
        (s.config.site.changes = false → u.config.site = { s.config.site with committed := none }) ∧
        ((s.config.site.changes = false ∨ ¬noPass) → u.strain.ambient = s.strain.ambient) ∧
        (u.port p).phase = .reply ([1, 0, 3] ++ halfBytes generation ++ [BitVec.ofNat 8
          ((if s.config.site.changes = true ∧ ¬noPass then 1 else 0) +
            (if (s.config.tracks.get .t1).changes = true ∧ ¬atRest .t1 then 2 else 0) +
            (if (s.config.tracks.get .t2).changes = true ∧ ¬atRest .t2 then 4 else 0))]) ∧
        u.pacers = s.pacers ∧ u.scanners = s.scanners ∧ u.contexts = s.contexts ∧ u.store = s.store ∧
        u.alarms = s.alarms ∧ u.stationTime = s.stationTime)) ∧
    (Completes s p bytes 52 [] →
      exec (.abandon now p bytes) s = .next ({ s with config := { s.config with
        site := { s.config.site with staged := s.config.site.active, committed := none }
        tracks := ⟨{ s.config.tracks.t1 with staged := s.config.tracks.t1.active, committed := none },
          { s.config.tracks.t2 with staged := s.config.tracks.t2.active, committed := none }⟩ }
        }.replying now p 1 []))

/-! ### Track commands, PURGE -/

/-- R41: TRACK ABORT is refused with TRACK_STATE while UNCONFIGURED; otherwise the stored record of every
queued entry is ABANDONED (R32), an open pass closes ABORTED, and the track goes to DRAINING with count 0 and
the quiet timer started. -/
def Obligations.TrackAbortDrainsTheTrack : Prop :=
  ∀ (now : SiteTime) (p : Port) (bytes : List Byte) (t : TrackId) (s : State),
    Completes s p bytes 64 [BitVec.ofNat 8 (trackNumber t), 1] →
    ((s.section t).state = .unconfigured →
      exec (.trackAbort now p bytes) s = .next (s.replying now p 13 [])) ∧
    ((s.section t).state ≠ .unconfigured → (s.ctx t = none → (s.section t).queue = []) →
      ∃ u, exec (.trackAbort now p bytes) s = .next u ∧ (u.port p).phase = .reply [1, 0, 0] ∧
        (u.section t).state = .draining ∧ (u.section t).count = 0 ∧ (u.section t).queue = [] ∧
        u.ctx t = none ∧ (u.section t).quietTimer = some ⟨now, (s.area t).clearTime⟩ ∧
        (u.section t).approachTimer = none ∧ (u.section t).holdTimer = none ∧
        (u.section t).clearTimer = none ∧ (u.section t).closeDelay = none ∧
        (u.pacer t).running = false ∧
        (s.store.poolsOk = true → ∀ c x, s.ctx t = some c → s.store.find c.number = some x →
          x.track = t → ∃ q, u.store.find c.number = some q ∧ q.state = .closed ∧
            q.endReason = some .aborted ∧ q.axles.map (fun r => r.index) =
              x.axles.map (fun r => r.index) ∧
            ∀ r ∈ q.axles, (∃ a ∈ (s.section t).queue, a.index = r.index) →
              r.status = .abandoned) ∧
        u.siteTime = now ∧ u.stationTime = s.stationTime ∧ u.secondStart = s.secondStart ∧
        u.sensors = s.sensors ∧ u.pairs = s.pairs ∧ u.scanners = s.scanners ∧
        u.config.tracks = s.config.tracks ∧ u.pending = s.pending ∧
        u.section (otherTrack t) = s.section (otherTrack t) ∧
        u.pacer (otherTrack t) = s.pacer (otherTrack t) ∧
        u.context (otherTrack t) = s.context (otherTrack t))

/-- R42: TRACK OUT is refused with TRACK_STATE while UNCONFIGURED and answered ALREADY while OUT_OF_SERVICE;
otherwise the track goes OUT_OF_SERVICE, its entries abandoned (R32), an open pass closed ABORTED and its
shutters asked to close. TRACK IN is carried out while OUT_OF_SERVICE only; the track goes to IDLE and the
close delay does not start. R186: a pending area of the track is promoted as it gets there (stated where
none of the site is pending); the zero timer that TRACK IN starts has the zero interval of the area before
it (log 18). -/
def Obligations.TrackOutAndInMoveTheTrack : Prop :=
  ∀ (now : SiteTime) (p : Port) (bytes : List Byte) (t : TrackId) (s : State),
    let promoted := fun u : State => s.config.site.committed = none →
      ((s.config.tracks.get t).committed = none → u.config = s.config ∧ u.sensors = s.sensors ∧
        u.pairs = s.pairs) ∧
      ∀ x, (s.config.tracks.get t).committed = some x → Promoted s u now t x.1 x.2
    (Completes s p bytes 64 [BitVec.ofNat 8 (trackNumber t), 2] →
      ((s.section t).state = .unconfigured →
        exec (.trackOut now p bytes) s = .next (s.replying now p 13 [])) ∧
      ((s.section t).state = .outOfService →
        exec (.trackOut now p bytes) s = .next (s.replying now p 3 [])) ∧
      ((s.section t).state ≠ .unconfigured → (s.section t).state ≠ .outOfService →
        ∃ u, exec (.trackOut now p bytes) s = .next u ∧ (u.port p).phase = .reply [1, 0, 0] ∧
          (u.section t).state = .outOfService ∧ (u.section t).count = 0 ∧ u.ctx t = none ∧
          (u.section t).approachTimer = none ∧ (u.section t).holdTimer = none ∧
          (u.section t).clearTimer = none ∧ (u.section t).quietTimer = none ∧
          (u.section t).closeDelay = none ∧ (u.pacer t).running = false ∧ promoted u ∧
          (s.store.poolsOk = true → ∀ c x, s.ctx t = some c → s.store.find c.number = some x →
            x.track = t → ∃ q, u.store.find c.number = some q ∧ q.state = .closed ∧
              q.endReason = some .aborted ∧
              ∀ r ∈ q.axles, (∃ a ∈ (s.section t).queue, a.index = r.index) →
                r.status = .abandoned) ∧
          (∀ n, u.scanner t n = { s.scanner t n with
            wantedOpen := false, openingFault := false, openingTimer := none,
            sent := .shutterClose :: (s.scanner t n).sent }) ∧
          u.siteTime = now ∧ u.stationTime = s.stationTime ∧
          (∀ n, u.scanner (otherTrack t) n = s.scanner (otherTrack t) n) ∧
          u.section (otherTrack t) = s.section (otherTrack t) ∧
          u.pacer (otherTrack t) = s.pacer (otherTrack t))) ∧
    (Completes s p bytes 64 [BitVec.ofNat 8 (trackNumber t), 3] →
      ((s.section t).state ≠ .outOfService →
        exec (.trackIn now p bytes) s = .next (s.replying now p 13 [])) ∧
      ((s.section t).state = .outOfService →
        ∃ u, exec (.trackIn now p bytes) s = .next u ∧ (u.port p).phase = .reply [1, 0, 0] ∧
          (u.section t).state = .idle ∧ (u.section t).count = 0 ∧
          (u.section t).closeDelay = none ∧ promoted u ∧
          u.strain.zeroTimers.get t = some ⟨now, (s.area t).zeroInterval⟩ ∧
          u.siteTime = now ∧ u.stationTime = s.stationTime ∧
          u.scanners = s.scanners ∧ u.store = s.store ∧ u.alarms = s.alarms ∧
          u.contexts = s.contexts ∧
          u.section (otherTrack t) = s.section (otherTrack t) ∧
          u.pacer (otherTrack t) = s.pacer (otherTrack t)))

/-- R174, R155, R9, R39, R138: PURGE of ACKED alone removes every acknowledged record, and PURGE of NOTICES
alone empties the sending port's queue, and neither changes anything else; PURGE of FAULTS alone clears
SUSPECT on the eight sensors and COUNT_UNDERFLOW on both tracks and leaves HELD, with a notice for each that
was set; PURGE of RELEASED alone leaves held exactly the passes that are not fully released, without a notice.
A PURGE of several targets has the effect of each, NOTICES last: the sending port's queue is then empty also
of the notices that its FAULTS sent, and the other port keeps its copies. -/
def Obligations.PurgeFollowsItsTarget : Prop :=
  ∀ (now : SiteTime) (p : Port) (bytes : List Byte) (s : State),
    (Completes s p bytes 65 [4] → exec (.purgeAcked now p bytes) s =
      .next ({ s with alarms := { s.alarms with
        list := s.alarms.list.filter fun r => r.acknowledged.isNone } }.replying now p 1 [])) ∧
    (Completes s p bytes 65 [2] → exec (.purgeNotices now p bytes) s =
      .next ((s.setPort p { s.port p with notices := [] }).replying now p 1 [])) ∧
    (Completes s p bytes 65 [1] → ∃ u, exec (.purgeFaults now p bytes) s = .next u ∧
      u = { s with
        siteTime := now, sensors := u.sensors, sections := u.sections, ports := u.ports,
        choice := u.choice } ∧
      (u.port p).phase = .reply [1, 0, 0] ∧
      (∀ t, u.section t = { s.section t with underflow := false }) ∧
      (∀ t e x, u.sensor t e x = { s.sensor t e x with suspect := false }) ∧
      ∀ q, (s.port q).attached = true → (s.port q).notices = [] → ∀ n, n ∈ (u.port q).notices ↔
        (∃ t e x, (s.sensor t e x).suspect = true ∧
          n = ⟨.faultChanged (.suspect (inputOfSensor t e x)) 0, now⟩) ∨
        ∃ t, (s.section t).underflow = true ∧ n = ⟨.faultChanged (.underflow t) 0, now⟩) ∧
    (Completes s p bytes 65 [8] → s.store.poolsOk = true →
      ∃ u, exec (.purgeReleased now p bytes) s = .next u ∧
        u = { s with siteTime := now, store := u.store, ports := u.ports } ∧
        (u.port p).phase = .reply [1, 0, 0] ∧
        u.store.passes = s.store.passes.filter (fun x => !x.fullyReleased) ∧
        (∀ q, (u.port q).notices = (s.port q).notices ∧ (u.port q).attached = (s.port q).attached)) ∧
    ∀ code : Nat, 1 ≤ code → code ≤ 15 → Completes s p bytes 65 [BitVec.ofNat 8 code] →
      s.store.poolsOk = true →
      let chosen := fun bit : Nat => code / 2 ^ bit % 2 = 1
      ∀ row ∈ [(Instr.purgeFaults, 0), (Instr.purgeNotices, 1), (Instr.purgeAcked, 2),
        (Instr.purgeReleased, 3)], chosen row.2 →
      ∃ u, exec (row.1 now p bytes) s = .next u ∧
        u = { s with
          siteTime := now, sensors := u.sensors, sections := u.sections, alarms := u.alarms,
          store := u.store, ports := u.ports, choice := u.choice } ∧
        (u.port p).phase = .reply [1, 0, 0] ∧
        (∀ t, u.section t =
          { s.section t with underflow := if chosen 0 then false else (s.section t).underflow }) ∧
        (∀ t e x, u.sensor t e x =
          { s.sensor t e x with suspect := if chosen 0 then false else (s.sensor t e x).suspect }) ∧
        u.alarms = { s.alarms with
          list := if chosen 2 then s.alarms.list.filter fun r => r.acknowledged.isNone
            else s.alarms.list } ∧
        (if chosen 3 then u.store.passes = s.store.passes.filter (fun x => !x.fullyReleased)
          else u.store = s.store) ∧
        (chosen 1 → (u.port p).notices = []) ∧
        ∀ q, q ≠ p ∨ ¬chosen 1 →
          (¬chosen 0 → (u.port q).notices = (s.port q).notices) ∧
          (chosen 0 → ∀ bytes2 v, Completes s p bytes2 65 [1] →
            exec (.purgeFaults now p bytes2) s = .next v → (u.port q).notices = (v.port q).notices)
end

