-- ==== Sys2Proof/Laws/State.lean ====
section
/-! SUPPORT. One lemma per field per update of the state: an update leaves every other field as it is, and
reading the member it wrote gives what was written. -/

namespace Sys2Proof.Machine

open Sys2Proof

/-! ### atTime -/

@[simp] theorem atTime_stationTime (s : State) (now : SiteTime) :
    (s.atTime now).stationTime = s.stationTime := rfl
@[simp] theorem atTime_secondStart (s : State) (now : SiteTime) :
    (s.atTime now).secondStart = s.secondStart := rfl
@[simp] theorem atTime_sensors (s : State) (now : SiteTime) :
    (s.atTime now).sensors = s.sensors := rfl
@[simp] theorem atTime_pairs (s : State) (now : SiteTime) :
    (s.atTime now).pairs = s.pairs := rfl
@[simp] theorem atTime_sections (s : State) (now : SiteTime) :
    (s.atTime now).sections = s.sections := rfl
@[simp] theorem atTime_pacers (s : State) (now : SiteTime) :
    (s.atTime now).pacers = s.pacers := rfl
@[simp] theorem atTime_strain (s : State) (now : SiteTime) :
    (s.atTime now).strain = s.strain := rfl
@[simp] theorem atTime_scanners (s : State) (now : SiteTime) :
    (s.atTime now).scanners = s.scanners := rfl
@[simp] theorem atTime_contexts (s : State) (now : SiteTime) :
    (s.atTime now).contexts = s.contexts := rfl
@[simp] theorem atTime_store (s : State) (now : SiteTime) :
    (s.atTime now).store = s.store := rfl
@[simp] theorem atTime_alarms (s : State) (now : SiteTime) :
    (s.atTime now).alarms = s.alarms := rfl
@[simp] theorem atTime_ports (s : State) (now : SiteTime) :
    (s.atTime now).ports = s.ports := rfl
@[simp] theorem atTime_config (s : State) (now : SiteTime) :
    (s.atTime now).config = s.config := rfl
@[simp] theorem atTime_choice (s : State) (now : SiteTime) :
    (s.atTime now).choice = s.choice := rfl
@[simp] theorem atTime_pending (s : State) (now : SiteTime) :
    (s.atTime now).pending = s.pending := rfl

/-! ### idle -/

@[simp] theorem idle_stationTime (s : State) :
    s.idle.stationTime = s.stationTime := rfl
@[simp] theorem idle_secondStart (s : State) :
    s.idle.secondStart = s.secondStart := rfl
@[simp] theorem idle_sensors (s : State) :
    s.idle.sensors = s.sensors := rfl
@[simp] theorem idle_pairs (s : State) :
    s.idle.pairs = s.pairs := rfl
@[simp] theorem idle_sections (s : State) :
    s.idle.sections = s.sections := rfl
@[simp] theorem idle_pacers (s : State) :
    s.idle.pacers = s.pacers := rfl
@[simp] theorem idle_strain (s : State) :
    s.idle.strain = s.strain := rfl
@[simp] theorem idle_scanners (s : State) :
    s.idle.scanners = s.scanners := rfl
@[simp] theorem idle_contexts (s : State) :
    s.idle.contexts = s.contexts := rfl
@[simp] theorem idle_store (s : State) :
    s.idle.store = s.store := rfl
@[simp] theorem idle_alarms (s : State) :
    s.idle.alarms = s.alarms := rfl
@[simp] theorem idle_ports (s : State) :
    s.idle.ports = s.ports := rfl
@[simp] theorem idle_config (s : State) :
    s.idle.config = s.config := rfl
@[simp] theorem idle_choice (s : State) :
    s.idle.choice = s.choice := rfl
@[simp] theorem idle_pending (s : State) :
    s.idle.pending = s.pending := rfl

/-! ### setSection -/

@[simp] theorem setSection_siteTime (s : State) (t : TrackId) (c : SectionController) :
    (s.setSection t c).siteTime = s.siteTime := rfl
@[simp] theorem setSection_stationTime (s : State) (t : TrackId) (c : SectionController) :
    (s.setSection t c).stationTime = s.stationTime := rfl
@[simp] theorem setSection_secondStart (s : State) (t : TrackId) (c : SectionController) :
    (s.setSection t c).secondStart = s.secondStart := rfl
@[simp] theorem setSection_sensors (s : State) (t : TrackId) (c : SectionController) :
    (s.setSection t c).sensors = s.sensors := rfl
@[simp] theorem setSection_pairs (s : State) (t : TrackId) (c : SectionController) :
    (s.setSection t c).pairs = s.pairs := rfl
@[simp] theorem setSection_pacers (s : State) (t : TrackId) (c : SectionController) :
    (s.setSection t c).pacers = s.pacers := rfl
@[simp] theorem setSection_strain (s : State) (t : TrackId) (c : SectionController) :
    (s.setSection t c).strain = s.strain := rfl
@[simp] theorem setSection_scanners (s : State) (t : TrackId) (c : SectionController) :
    (s.setSection t c).scanners = s.scanners := rfl
@[simp] theorem setSection_contexts (s : State) (t : TrackId) (c : SectionController) :
    (s.setSection t c).contexts = s.contexts := rfl
@[simp] theorem setSection_store (s : State) (t : TrackId) (c : SectionController) :
    (s.setSection t c).store = s.store := rfl
@[simp] theorem setSection_alarms (s : State) (t : TrackId) (c : SectionController) :
    (s.setSection t c).alarms = s.alarms := rfl
@[simp] theorem setSection_ports (s : State) (t : TrackId) (c : SectionController) :
    (s.setSection t c).ports = s.ports := rfl
@[simp] theorem setSection_config (s : State) (t : TrackId) (c : SectionController) :
    (s.setSection t c).config = s.config := rfl
@[simp] theorem setSection_choice (s : State) (t : TrackId) (c : SectionController) :
    (s.setSection t c).choice = s.choice := rfl
@[simp] theorem setSection_pending (s : State) (t : TrackId) (c : SectionController) :
    (s.setSection t c).pending = s.pending := rfl

/-! ### setCtx -/

@[simp] theorem setCtx_siteTime (s : State) (t : TrackId) (c : Option PassContext) :
    (s.setCtx t c).siteTime = s.siteTime := rfl
@[simp] theorem setCtx_stationTime (s : State) (t : TrackId) (c : Option PassContext) :
    (s.setCtx t c).stationTime = s.stationTime := rfl
@[simp] theorem setCtx_secondStart (s : State) (t : TrackId) (c : Option PassContext) :
    (s.setCtx t c).secondStart = s.secondStart := rfl
@[simp] theorem setCtx_sensors (s : State) (t : TrackId) (c : Option PassContext) :
    (s.setCtx t c).sensors = s.sensors := rfl
@[simp] theorem setCtx_pairs (s : State) (t : TrackId) (c : Option PassContext) :
    (s.setCtx t c).pairs = s.pairs := rfl
@[simp] theorem setCtx_pacers (s : State) (t : TrackId) (c : Option PassContext) :
    (s.setCtx t c).pacers = s.pacers := rfl
@[simp] theorem setCtx_strain (s : State) (t : TrackId) (c : Option PassContext) :
    (s.setCtx t c).strain = s.strain := rfl
@[simp] theorem setCtx_scanners (s : State) (t : TrackId) (c : Option PassContext) :
    (s.setCtx t c).scanners = s.scanners := rfl
@[simp] theorem setCtx_contexts (s : State) (t : TrackId) (c : Option PassContext) :
    (s.setCtx t c).contexts = s.contexts := rfl
@[simp] theorem setCtx_store (s : State) (t : TrackId) (c : Option PassContext) :
    (s.setCtx t c).store = s.store := rfl
@[simp] theorem setCtx_alarms (s : State) (t : TrackId) (c : Option PassContext) :
    (s.setCtx t c).alarms = s.alarms := rfl
@[simp] theorem setCtx_ports (s : State) (t : TrackId) (c : Option PassContext) :
    (s.setCtx t c).ports = s.ports := rfl
@[simp] theorem setCtx_config (s : State) (t : TrackId) (c : Option PassContext) :
    (s.setCtx t c).config = s.config := rfl
@[simp] theorem setCtx_choice (s : State) (t : TrackId) (c : Option PassContext) :
    (s.setCtx t c).choice = s.choice := rfl
@[simp] theorem setCtx_pending (s : State) (t : TrackId) (c : Option PassContext) :
    (s.setCtx t c).pending = s.pending := rfl

/-! ### updateEntry -/

@[simp] theorem updateEntry_siteTime (s : State) (t : TrackId) (i : Nat) (f : AxleEntry → AxleEntry) :
    (s.updateEntry t i f).siteTime = s.siteTime := rfl
@[simp] theorem updateEntry_stationTime (s : State) (t : TrackId) (i : Nat) (f : AxleEntry → AxleEntry) :
    (s.updateEntry t i f).stationTime = s.stationTime := rfl
@[simp] theorem updateEntry_secondStart (s : State) (t : TrackId) (i : Nat) (f : AxleEntry → AxleEntry) :
    (s.updateEntry t i f).secondStart = s.secondStart := rfl
@[simp] theorem updateEntry_sensors (s : State) (t : TrackId) (i : Nat) (f : AxleEntry → AxleEntry) :
    (s.updateEntry t i f).sensors = s.sensors := rfl
@[simp] theorem updateEntry_pairs (s : State) (t : TrackId) (i : Nat) (f : AxleEntry → AxleEntry) :
    (s.updateEntry t i f).pairs = s.pairs := rfl
@[simp] theorem updateEntry_pacers (s : State) (t : TrackId) (i : Nat) (f : AxleEntry → AxleEntry) :
    (s.updateEntry t i f).pacers = s.pacers := rfl
@[simp] theorem updateEntry_strain (s : State) (t : TrackId) (i : Nat) (f : AxleEntry → AxleEntry) :
    (s.updateEntry t i f).strain = s.strain := rfl
@[simp] theorem updateEntry_scanners (s : State) (t : TrackId) (i : Nat) (f : AxleEntry → AxleEntry) :
    (s.updateEntry t i f).scanners = s.scanners := rfl
@[simp] theorem updateEntry_contexts (s : State) (t : TrackId) (i : Nat) (f : AxleEntry → AxleEntry) :
    (s.updateEntry t i f).contexts = s.contexts := rfl
@[simp] theorem updateEntry_store (s : State) (t : TrackId) (i : Nat) (f : AxleEntry → AxleEntry) :
    (s.updateEntry t i f).store = s.store := rfl
@[simp] theorem updateEntry_alarms (s : State) (t : TrackId) (i : Nat) (f : AxleEntry → AxleEntry) :
    (s.updateEntry t i f).alarms = s.alarms := rfl
@[simp] theorem updateEntry_ports (s : State) (t : TrackId) (i : Nat) (f : AxleEntry → AxleEntry) :
    (s.updateEntry t i f).ports = s.ports := rfl
@[simp] theorem updateEntry_config (s : State) (t : TrackId) (i : Nat) (f : AxleEntry → AxleEntry) :
    (s.updateEntry t i f).config = s.config := rfl
@[simp] theorem updateEntry_choice (s : State) (t : TrackId) (i : Nat) (f : AxleEntry → AxleEntry) :
    (s.updateEntry t i f).choice = s.choice := rfl
@[simp] theorem updateEntry_pending (s : State) (t : TrackId) (i : Nat) (f : AxleEntry → AxleEntry) :
    (s.updateEntry t i f).pending = s.pending := rfl

/-! ### setPacer -/

@[simp] theorem setPacer_siteTime (s : State) (t : TrackId) (p : Pacer) :
    (s.setPacer t p).siteTime = s.siteTime := rfl
@[simp] theorem setPacer_stationTime (s : State) (t : TrackId) (p : Pacer) :
    (s.setPacer t p).stationTime = s.stationTime := rfl
@[simp] theorem setPacer_secondStart (s : State) (t : TrackId) (p : Pacer) :
    (s.setPacer t p).secondStart = s.secondStart := rfl
@[simp] theorem setPacer_sensors (s : State) (t : TrackId) (p : Pacer) :
    (s.setPacer t p).sensors = s.sensors := rfl
@[simp] theorem setPacer_pairs (s : State) (t : TrackId) (p : Pacer) :
    (s.setPacer t p).pairs = s.pairs := rfl
@[simp] theorem setPacer_sections (s : State) (t : TrackId) (p : Pacer) :
    (s.setPacer t p).sections = s.sections := rfl
@[simp] theorem setPacer_strain (s : State) (t : TrackId) (p : Pacer) :
    (s.setPacer t p).strain = s.strain := rfl
@[simp] theorem setPacer_scanners (s : State) (t : TrackId) (p : Pacer) :
    (s.setPacer t p).scanners = s.scanners := rfl
@[simp] theorem setPacer_contexts (s : State) (t : TrackId) (p : Pacer) :
    (s.setPacer t p).contexts = s.contexts := rfl
@[simp] theorem setPacer_store (s : State) (t : TrackId) (p : Pacer) :
    (s.setPacer t p).store = s.store := rfl
@[simp] theorem setPacer_alarms (s : State) (t : TrackId) (p : Pacer) :
    (s.setPacer t p).alarms = s.alarms := rfl
@[simp] theorem setPacer_ports (s : State) (t : TrackId) (p : Pacer) :
    (s.setPacer t p).ports = s.ports := rfl
@[simp] theorem setPacer_config (s : State) (t : TrackId) (p : Pacer) :
    (s.setPacer t p).config = s.config := rfl
@[simp] theorem setPacer_choice (s : State) (t : TrackId) (p : Pacer) :
    (s.setPacer t p).choice = s.choice := rfl
@[simp] theorem setPacer_pending (s : State) (t : TrackId) (p : Pacer) :
    (s.setPacer t p).pending = s.pending := rfl

/-! ### setSensor -/

@[simp] theorem setSensor_siteTime (s : State) (t : TrackId) (e : SectionEnd) (x : Role) (v : Sensor) :
    (s.setSensor t e x v).siteTime = s.siteTime := rfl
@[simp] theorem setSensor_stationTime (s : State) (t : TrackId) (e : SectionEnd) (x : Role) (v : Sensor) :
    (s.setSensor t e x v).stationTime = s.stationTime := rfl
@[simp] theorem setSensor_secondStart (s : State) (t : TrackId) (e : SectionEnd) (x : Role) (v : Sensor) :
    (s.setSensor t e x v).secondStart = s.secondStart := rfl
@[simp] theorem setSensor_pairs (s : State) (t : TrackId) (e : SectionEnd) (x : Role) (v : Sensor) :
    (s.setSensor t e x v).pairs = s.pairs := rfl
@[simp] theorem setSensor_sections (s : State) (t : TrackId) (e : SectionEnd) (x : Role) (v : Sensor) :
    (s.setSensor t e x v).sections = s.sections := rfl
@[simp] theorem setSensor_pacers (s : State) (t : TrackId) (e : SectionEnd) (x : Role) (v : Sensor) :
    (s.setSensor t e x v).pacers = s.pacers := rfl
@[simp] theorem setSensor_strain (s : State) (t : TrackId) (e : SectionEnd) (x : Role) (v : Sensor) :
    (s.setSensor t e x v).strain = s.strain := rfl
@[simp] theorem setSensor_scanners (s : State) (t : TrackId) (e : SectionEnd) (x : Role) (v : Sensor) :
    (s.setSensor t e x v).scanners = s.scanners := rfl
@[simp] theorem setSensor_contexts (s : State) (t : TrackId) (e : SectionEnd) (x : Role) (v : Sensor) :
    (s.setSensor t e x v).contexts = s.contexts := rfl
@[simp] theorem setSensor_store (s : State) (t : TrackId) (e : SectionEnd) (x : Role) (v : Sensor) :
    (s.setSensor t e x v).store = s.store := rfl
@[simp] theorem setSensor_alarms (s : State) (t : TrackId) (e : SectionEnd) (x : Role) (v : Sensor) :
    (s.setSensor t e x v).alarms = s.alarms := rfl
@[simp] theorem setSensor_ports (s : State) (t : TrackId) (e : SectionEnd) (x : Role) (v : Sensor) :
    (s.setSensor t e x v).ports = s.ports := rfl
@[simp] theorem setSensor_config (s : State) (t : TrackId) (e : SectionEnd) (x : Role) (v : Sensor) :
    (s.setSensor t e x v).config = s.config := rfl
@[simp] theorem setSensor_choice (s : State) (t : TrackId) (e : SectionEnd) (x : Role) (v : Sensor) :
    (s.setSensor t e x v).choice = s.choice := rfl
@[simp] theorem setSensor_pending (s : State) (t : TrackId) (e : SectionEnd) (x : Role) (v : Sensor) :
    (s.setSensor t e x v).pending = s.pending := rfl

/-! ### setPair -/

@[simp] theorem setPair_siteTime (s : State) (t : TrackId) (e : SectionEnd) (m : PairMachine) :
    (s.setPair t e m).siteTime = s.siteTime := rfl
@[simp] theorem setPair_stationTime (s : State) (t : TrackId) (e : SectionEnd) (m : PairMachine) :
    (s.setPair t e m).stationTime = s.stationTime := rfl
@[simp] theorem setPair_secondStart (s : State) (t : TrackId) (e : SectionEnd) (m : PairMachine) :
    (s.setPair t e m).secondStart = s.secondStart := rfl
@[simp] theorem setPair_sensors (s : State) (t : TrackId) (e : SectionEnd) (m : PairMachine) :
    (s.setPair t e m).sensors = s.sensors := rfl
@[simp] theorem setPair_sections (s : State) (t : TrackId) (e : SectionEnd) (m : PairMachine) :
    (s.setPair t e m).sections = s.sections := rfl
@[simp] theorem setPair_pacers (s : State) (t : TrackId) (e : SectionEnd) (m : PairMachine) :
    (s.setPair t e m).pacers = s.pacers := rfl
@[simp] theorem setPair_strain (s : State) (t : TrackId) (e : SectionEnd) (m : PairMachine) :
    (s.setPair t e m).strain = s.strain := rfl
@[simp] theorem setPair_scanners (s : State) (t : TrackId) (e : SectionEnd) (m : PairMachine) :
    (s.setPair t e m).scanners = s.scanners := rfl
@[simp] theorem setPair_contexts (s : State) (t : TrackId) (e : SectionEnd) (m : PairMachine) :
    (s.setPair t e m).contexts = s.contexts := rfl
@[simp] theorem setPair_store (s : State) (t : TrackId) (e : SectionEnd) (m : PairMachine) :
    (s.setPair t e m).store = s.store := rfl
@[simp] theorem setPair_alarms (s : State) (t : TrackId) (e : SectionEnd) (m : PairMachine) :
    (s.setPair t e m).alarms = s.alarms := rfl
@[simp] theorem setPair_ports (s : State) (t : TrackId) (e : SectionEnd) (m : PairMachine) :
    (s.setPair t e m).ports = s.ports := rfl
@[simp] theorem setPair_config (s : State) (t : TrackId) (e : SectionEnd) (m : PairMachine) :
    (s.setPair t e m).config = s.config := rfl
@[simp] theorem setPair_choice (s : State) (t : TrackId) (e : SectionEnd) (m : PairMachine) :
    (s.setPair t e m).choice = s.choice := rfl
@[simp] theorem setPair_pending (s : State) (t : TrackId) (e : SectionEnd) (m : PairMachine) :
    (s.setPair t e m).pending = s.pending := rfl

/-! ### setScanner -/

@[simp] theorem setScanner_siteTime (s : State) (t : TrackId) (n : ScannerName) (x : Scanner) :
    (s.setScanner t n x).siteTime = s.siteTime := rfl
@[simp] theorem setScanner_stationTime (s : State) (t : TrackId) (n : ScannerName) (x : Scanner) :
    (s.setScanner t n x).stationTime = s.stationTime := rfl
@[simp] theorem setScanner_secondStart (s : State) (t : TrackId) (n : ScannerName) (x : Scanner) :
    (s.setScanner t n x).secondStart = s.secondStart := rfl
@[simp] theorem setScanner_sensors (s : State) (t : TrackId) (n : ScannerName) (x : Scanner) :
    (s.setScanner t n x).sensors = s.sensors := rfl
@[simp] theorem setScanner_pairs (s : State) (t : TrackId) (n : ScannerName) (x : Scanner) :
    (s.setScanner t n x).pairs = s.pairs := rfl
@[simp] theorem setScanner_sections (s : State) (t : TrackId) (n : ScannerName) (x : Scanner) :
    (s.setScanner t n x).sections = s.sections := rfl
@[simp] theorem setScanner_pacers (s : State) (t : TrackId) (n : ScannerName) (x : Scanner) :
    (s.setScanner t n x).pacers = s.pacers := rfl
@[simp] theorem setScanner_strain (s : State) (t : TrackId) (n : ScannerName) (x : Scanner) :
    (s.setScanner t n x).strain = s.strain := rfl
@[simp] theorem setScanner_contexts (s : State) (t : TrackId) (n : ScannerName) (x : Scanner) :
    (s.setScanner t n x).contexts = s.contexts := rfl
@[simp] theorem setScanner_store (s : State) (t : TrackId) (n : ScannerName) (x : Scanner) :
    (s.setScanner t n x).store = s.store := rfl
@[simp] theorem setScanner_alarms (s : State) (t : TrackId) (n : ScannerName) (x : Scanner) :
    (s.setScanner t n x).alarms = s.alarms := rfl
@[simp] theorem setScanner_ports (s : State) (t : TrackId) (n : ScannerName) (x : Scanner) :
    (s.setScanner t n x).ports = s.ports := rfl
@[simp] theorem setScanner_config (s : State) (t : TrackId) (n : ScannerName) (x : Scanner) :
    (s.setScanner t n x).config = s.config := rfl
@[simp] theorem setScanner_choice (s : State) (t : TrackId) (n : ScannerName) (x : Scanner) :
    (s.setScanner t n x).choice = s.choice := rfl
@[simp] theorem setScanner_pending (s : State) (t : TrackId) (n : ScannerName) (x : Scanner) :
    (s.setScanner t n x).pending = s.pending := rfl

/-! ### setContext -/

@[simp] theorem setContext_siteTime (s : State) (t : TrackId) (c : Option MatchContext) :
    (s.setContext t c).siteTime = s.siteTime := rfl
@[simp] theorem setContext_stationTime (s : State) (t : TrackId) (c : Option MatchContext) :
    (s.setContext t c).stationTime = s.stationTime := rfl
@[simp] theorem setContext_secondStart (s : State) (t : TrackId) (c : Option MatchContext) :
    (s.setContext t c).secondStart = s.secondStart := rfl
@[simp] theorem setContext_sensors (s : State) (t : TrackId) (c : Option MatchContext) :
    (s.setContext t c).sensors = s.sensors := rfl
@[simp] theorem setContext_pairs (s : State) (t : TrackId) (c : Option MatchContext) :
    (s.setContext t c).pairs = s.pairs := rfl
@[simp] theorem setContext_sections (s : State) (t : TrackId) (c : Option MatchContext) :
    (s.setContext t c).sections = s.sections := rfl
@[simp] theorem setContext_pacers (s : State) (t : TrackId) (c : Option MatchContext) :
    (s.setContext t c).pacers = s.pacers := rfl
@[simp] theorem setContext_strain (s : State) (t : TrackId) (c : Option MatchContext) :
    (s.setContext t c).strain = s.strain := rfl
@[simp] theorem setContext_scanners (s : State) (t : TrackId) (c : Option MatchContext) :
    (s.setContext t c).scanners = s.scanners := rfl
@[simp] theorem setContext_store (s : State) (t : TrackId) (c : Option MatchContext) :
    (s.setContext t c).store = s.store := rfl
@[simp] theorem setContext_alarms (s : State) (t : TrackId) (c : Option MatchContext) :
    (s.setContext t c).alarms = s.alarms := rfl
@[simp] theorem setContext_ports (s : State) (t : TrackId) (c : Option MatchContext) :
    (s.setContext t c).ports = s.ports := rfl
@[simp] theorem setContext_config (s : State) (t : TrackId) (c : Option MatchContext) :
    (s.setContext t c).config = s.config := rfl
@[simp] theorem setContext_choice (s : State) (t : TrackId) (c : Option MatchContext) :
    (s.setContext t c).choice = s.choice := rfl
@[simp] theorem setContext_pending (s : State) (t : TrackId) (c : Option MatchContext) :
    (s.setContext t c).pending = s.pending := rfl

/-! ### setPort -/

@[simp] theorem setPort_siteTime (s : State) (p : Port) (x : StationPort) :
    (s.setPort p x).siteTime = s.siteTime := rfl
@[simp] theorem setPort_stationTime (s : State) (p : Port) (x : StationPort) :
    (s.setPort p x).stationTime = s.stationTime := rfl
@[simp] theorem setPort_secondStart (s : State) (p : Port) (x : StationPort) :
    (s.setPort p x).secondStart = s.secondStart := rfl
@[simp] theorem setPort_sensors (s : State) (p : Port) (x : StationPort) :
    (s.setPort p x).sensors = s.sensors := rfl
@[simp] theorem setPort_pairs (s : State) (p : Port) (x : StationPort) :
    (s.setPort p x).pairs = s.pairs := rfl
@[simp] theorem setPort_sections (s : State) (p : Port) (x : StationPort) :
    (s.setPort p x).sections = s.sections := rfl
@[simp] theorem setPort_pacers (s : State) (p : Port) (x : StationPort) :
    (s.setPort p x).pacers = s.pacers := rfl
@[simp] theorem setPort_strain (s : State) (p : Port) (x : StationPort) :
    (s.setPort p x).strain = s.strain := rfl
@[simp] theorem setPort_scanners (s : State) (p : Port) (x : StationPort) :
    (s.setPort p x).scanners = s.scanners := rfl
@[simp] theorem setPort_contexts (s : State) (p : Port) (x : StationPort) :
    (s.setPort p x).contexts = s.contexts := rfl
@[simp] theorem setPort_store (s : State) (p : Port) (x : StationPort) :
    (s.setPort p x).store = s.store := rfl
@[simp] theorem setPort_alarms (s : State) (p : Port) (x : StationPort) :
    (s.setPort p x).alarms = s.alarms := rfl
@[simp] theorem setPort_config (s : State) (p : Port) (x : StationPort) :
    (s.setPort p x).config = s.config := rfl
@[simp] theorem setPort_choice (s : State) (p : Port) (x : StationPort) :
    (s.setPort p x).choice = s.choice := rfl
@[simp] theorem setPort_pending (s : State) (p : Port) (x : StationPort) :
    (s.setPort p x).pending = s.pending := rfl

/-! ### notify -/

@[simp] theorem notify_siteTime (s : State) (b : NoticeBody) :
    (s.notify b).siteTime = s.siteTime := rfl
@[simp] theorem notify_stationTime (s : State) (b : NoticeBody) :
    (s.notify b).stationTime = s.stationTime := rfl
@[simp] theorem notify_secondStart (s : State) (b : NoticeBody) :
    (s.notify b).secondStart = s.secondStart := rfl
@[simp] theorem notify_sensors (s : State) (b : NoticeBody) :
    (s.notify b).sensors = s.sensors := rfl
@[simp] theorem notify_pairs (s : State) (b : NoticeBody) :
    (s.notify b).pairs = s.pairs := rfl
@[simp] theorem notify_sections (s : State) (b : NoticeBody) :
    (s.notify b).sections = s.sections := rfl
@[simp] theorem notify_pacers (s : State) (b : NoticeBody) :
    (s.notify b).pacers = s.pacers := rfl
@[simp] theorem notify_strain (s : State) (b : NoticeBody) :
    (s.notify b).strain = s.strain := rfl
@[simp] theorem notify_scanners (s : State) (b : NoticeBody) :
    (s.notify b).scanners = s.scanners := rfl
@[simp] theorem notify_contexts (s : State) (b : NoticeBody) :
    (s.notify b).contexts = s.contexts := rfl
@[simp] theorem notify_store (s : State) (b : NoticeBody) :
    (s.notify b).store = s.store := rfl
@[simp] theorem notify_alarms (s : State) (b : NoticeBody) :
    (s.notify b).alarms = s.alarms := rfl
@[simp] theorem notify_config (s : State) (b : NoticeBody) :
    (s.notify b).config = s.config := rfl
@[simp] theorem notify_choice (s : State) (b : NoticeBody) :
    (s.notify b).choice = s.choice := rfl
@[simp] theorem notify_pending (s : State) (b : NoticeBody) :
    (s.notify b).pending = s.pending := rfl

/-! ### updatePass -/

@[simp] theorem updatePass_siteTime (s : State) (t : TrackId) (n : Nat) (f : HeldPass → HeldPass) :
    (s.updatePass t n f).siteTime = s.siteTime := rfl
@[simp] theorem updatePass_stationTime (s : State) (t : TrackId) (n : Nat) (f : HeldPass → HeldPass) :
    (s.updatePass t n f).stationTime = s.stationTime := rfl
@[simp] theorem updatePass_secondStart (s : State) (t : TrackId) (n : Nat) (f : HeldPass → HeldPass) :
    (s.updatePass t n f).secondStart = s.secondStart := rfl
@[simp] theorem updatePass_sensors (s : State) (t : TrackId) (n : Nat) (f : HeldPass → HeldPass) :
    (s.updatePass t n f).sensors = s.sensors := rfl
@[simp] theorem updatePass_pairs (s : State) (t : TrackId) (n : Nat) (f : HeldPass → HeldPass) :
    (s.updatePass t n f).pairs = s.pairs := rfl
@[simp] theorem updatePass_sections (s : State) (t : TrackId) (n : Nat) (f : HeldPass → HeldPass) :
    (s.updatePass t n f).sections = s.sections := rfl
@[simp] theorem updatePass_pacers (s : State) (t : TrackId) (n : Nat) (f : HeldPass → HeldPass) :
    (s.updatePass t n f).pacers = s.pacers := rfl
@[simp] theorem updatePass_strain (s : State) (t : TrackId) (n : Nat) (f : HeldPass → HeldPass) :
    (s.updatePass t n f).strain = s.strain := rfl
@[simp] theorem updatePass_scanners (s : State) (t : TrackId) (n : Nat) (f : HeldPass → HeldPass) :
    (s.updatePass t n f).scanners = s.scanners := rfl
@[simp] theorem updatePass_contexts (s : State) (t : TrackId) (n : Nat) (f : HeldPass → HeldPass) :
    (s.updatePass t n f).contexts = s.contexts := rfl
@[simp] theorem updatePass_alarms (s : State) (t : TrackId) (n : Nat) (f : HeldPass → HeldPass) :
    (s.updatePass t n f).alarms = s.alarms := rfl
@[simp] theorem updatePass_ports (s : State) (t : TrackId) (n : Nat) (f : HeldPass → HeldPass) :
    (s.updatePass t n f).ports = s.ports := rfl
@[simp] theorem updatePass_config (s : State) (t : TrackId) (n : Nat) (f : HeldPass → HeldPass) :
    (s.updatePass t n f).config = s.config := rfl
@[simp] theorem updatePass_choice (s : State) (t : TrackId) (n : Nat) (f : HeldPass → HeldPass) :
    (s.updatePass t n f).choice = s.choice := rfl
@[simp] theorem updatePass_pending (s : State) (t : TrackId) (n : Nat) (f : HeldPass → HeldPass) :
    (s.updatePass t n f).pending = s.pending := rfl

/-! ### setSlot -/

@[simp] theorem setSlot_siteTime (s : State) (t : TrackId) (r : Option ScanRequest) :
    (s.setSlot t r).siteTime = s.siteTime := rfl
@[simp] theorem setSlot_stationTime (s : State) (t : TrackId) (r : Option ScanRequest) :
    (s.setSlot t r).stationTime = s.stationTime := rfl
@[simp] theorem setSlot_secondStart (s : State) (t : TrackId) (r : Option ScanRequest) :
    (s.setSlot t r).secondStart = s.secondStart := rfl
@[simp] theorem setSlot_sensors (s : State) (t : TrackId) (r : Option ScanRequest) :
    (s.setSlot t r).sensors = s.sensors := rfl
@[simp] theorem setSlot_pairs (s : State) (t : TrackId) (r : Option ScanRequest) :
    (s.setSlot t r).pairs = s.pairs := rfl
@[simp] theorem setSlot_sections (s : State) (t : TrackId) (r : Option ScanRequest) :
    (s.setSlot t r).sections = s.sections := rfl
@[simp] theorem setSlot_pacers (s : State) (t : TrackId) (r : Option ScanRequest) :
    (s.setSlot t r).pacers = s.pacers := rfl
@[simp] theorem setSlot_scanners (s : State) (t : TrackId) (r : Option ScanRequest) :
    (s.setSlot t r).scanners = s.scanners := rfl
@[simp] theorem setSlot_contexts (s : State) (t : TrackId) (r : Option ScanRequest) :
    (s.setSlot t r).contexts = s.contexts := rfl
@[simp] theorem setSlot_store (s : State) (t : TrackId) (r : Option ScanRequest) :
    (s.setSlot t r).store = s.store := rfl
@[simp] theorem setSlot_alarms (s : State) (t : TrackId) (r : Option ScanRequest) :
    (s.setSlot t r).alarms = s.alarms := rfl
@[simp] theorem setSlot_ports (s : State) (t : TrackId) (r : Option ScanRequest) :
    (s.setSlot t r).ports = s.ports := rfl
@[simp] theorem setSlot_config (s : State) (t : TrackId) (r : Option ScanRequest) :
    (s.setSlot t r).config = s.config := rfl
@[simp] theorem setSlot_choice (s : State) (t : TrackId) (r : Option ScanRequest) :
    (s.setSlot t r).choice = s.choice := rfl
@[simp] theorem setSlot_pending (s : State) (t : TrackId) (r : Option ScanRequest) :
    (s.setSlot t r).pending = s.pending := rfl

/-! ### setZero -/

@[simp] theorem setZero_siteTime (s : State) (t : TrackId) (rail : Rail) (b : Fin 8) (z : Option Int) :
    (s.setZero t rail b z).siteTime = s.siteTime := rfl
@[simp] theorem setZero_stationTime (s : State) (t : TrackId) (rail : Rail) (b : Fin 8) (z : Option Int) :
    (s.setZero t rail b z).stationTime = s.stationTime := rfl
@[simp] theorem setZero_secondStart (s : State) (t : TrackId) (rail : Rail) (b : Fin 8) (z : Option Int) :
    (s.setZero t rail b z).secondStart = s.secondStart := rfl
@[simp] theorem setZero_sensors (s : State) (t : TrackId) (rail : Rail) (b : Fin 8) (z : Option Int) :
    (s.setZero t rail b z).sensors = s.sensors := rfl
@[simp] theorem setZero_pairs (s : State) (t : TrackId) (rail : Rail) (b : Fin 8) (z : Option Int) :
    (s.setZero t rail b z).pairs = s.pairs := rfl
@[simp] theorem setZero_sections (s : State) (t : TrackId) (rail : Rail) (b : Fin 8) (z : Option Int) :
    (s.setZero t rail b z).sections = s.sections := rfl
@[simp] theorem setZero_pacers (s : State) (t : TrackId) (rail : Rail) (b : Fin 8) (z : Option Int) :
    (s.setZero t rail b z).pacers = s.pacers := rfl
@[simp] theorem setZero_scanners (s : State) (t : TrackId) (rail : Rail) (b : Fin 8) (z : Option Int) :
    (s.setZero t rail b z).scanners = s.scanners := rfl
@[simp] theorem setZero_contexts (s : State) (t : TrackId) (rail : Rail) (b : Fin 8) (z : Option Int) :
    (s.setZero t rail b z).contexts = s.contexts := rfl
@[simp] theorem setZero_store (s : State) (t : TrackId) (rail : Rail) (b : Fin 8) (z : Option Int) :
    (s.setZero t rail b z).store = s.store := rfl
@[simp] theorem setZero_alarms (s : State) (t : TrackId) (rail : Rail) (b : Fin 8) (z : Option Int) :
    (s.setZero t rail b z).alarms = s.alarms := rfl
@[simp] theorem setZero_ports (s : State) (t : TrackId) (rail : Rail) (b : Fin 8) (z : Option Int) :
    (s.setZero t rail b z).ports = s.ports := rfl
@[simp] theorem setZero_config (s : State) (t : TrackId) (rail : Rail) (b : Fin 8) (z : Option Int) :
    (s.setZero t rail b z).config = s.config := rfl
@[simp] theorem setZero_choice (s : State) (t : TrackId) (rail : Rail) (b : Fin 8) (z : Option Int) :
    (s.setZero t rail b z).choice = s.choice := rfl
@[simp] theorem setZero_pending (s : State) (t : TrackId) (rail : Rail) (b : Fin 8) (z : Option Int) :
    (s.setZero t rail b z).pending = s.pending := rfl

/-! ### setDrifted -/

@[simp] theorem setDrifted_siteTime (s : State) (t : TrackId) (rail : Rail) (b : Fin 8) (d : Bool) :
    (s.setDrifted t rail b d).siteTime = s.siteTime := rfl
@[simp] theorem setDrifted_stationTime (s : State) (t : TrackId) (rail : Rail) (b : Fin 8) (d : Bool) :
    (s.setDrifted t rail b d).stationTime = s.stationTime := rfl
@[simp] theorem setDrifted_secondStart (s : State) (t : TrackId) (rail : Rail) (b : Fin 8) (d : Bool) :
    (s.setDrifted t rail b d).secondStart = s.secondStart := rfl
@[simp] theorem setDrifted_sensors (s : State) (t : TrackId) (rail : Rail) (b : Fin 8) (d : Bool) :
    (s.setDrifted t rail b d).sensors = s.sensors := rfl
@[simp] theorem setDrifted_pairs (s : State) (t : TrackId) (rail : Rail) (b : Fin 8) (d : Bool) :
    (s.setDrifted t rail b d).pairs = s.pairs := rfl
@[simp] theorem setDrifted_sections (s : State) (t : TrackId) (rail : Rail) (b : Fin 8) (d : Bool) :
    (s.setDrifted t rail b d).sections = s.sections := rfl
@[simp] theorem setDrifted_pacers (s : State) (t : TrackId) (rail : Rail) (b : Fin 8) (d : Bool) :
    (s.setDrifted t rail b d).pacers = s.pacers := rfl
@[simp] theorem setDrifted_scanners (s : State) (t : TrackId) (rail : Rail) (b : Fin 8) (d : Bool) :
    (s.setDrifted t rail b d).scanners = s.scanners := rfl
@[simp] theorem setDrifted_contexts (s : State) (t : TrackId) (rail : Rail) (b : Fin 8) (d : Bool) :
    (s.setDrifted t rail b d).contexts = s.contexts := rfl
@[simp] theorem setDrifted_store (s : State) (t : TrackId) (rail : Rail) (b : Fin 8) (d : Bool) :
    (s.setDrifted t rail b d).store = s.store := rfl
@[simp] theorem setDrifted_alarms (s : State) (t : TrackId) (rail : Rail) (b : Fin 8) (d : Bool) :
    (s.setDrifted t rail b d).alarms = s.alarms := rfl
@[simp] theorem setDrifted_ports (s : State) (t : TrackId) (rail : Rail) (b : Fin 8) (d : Bool) :
    (s.setDrifted t rail b d).ports = s.ports := rfl
@[simp] theorem setDrifted_config (s : State) (t : TrackId) (rail : Rail) (b : Fin 8) (d : Bool) :
    (s.setDrifted t rail b d).config = s.config := rfl
@[simp] theorem setDrifted_choice (s : State) (t : TrackId) (rail : Rail) (b : Fin 8) (d : Bool) :
    (s.setDrifted t rail b d).choice = s.choice := rfl
@[simp] theorem setDrifted_pending (s : State) (t : TrackId) (rail : Rail) (b : Fin 8) (d : Bool) :
    (s.setDrifted t rail b d).pending = s.pending := rfl

/-! ### startZeroTimer -/

@[simp] theorem startZeroTimer_siteTime (s : State) (t : TrackId) :
    (s.startZeroTimer t).siteTime = s.siteTime := rfl
@[simp] theorem startZeroTimer_stationTime (s : State) (t : TrackId) :
    (s.startZeroTimer t).stationTime = s.stationTime := rfl
@[simp] theorem startZeroTimer_secondStart (s : State) (t : TrackId) :
    (s.startZeroTimer t).secondStart = s.secondStart := rfl
@[simp] theorem startZeroTimer_sensors (s : State) (t : TrackId) :
    (s.startZeroTimer t).sensors = s.sensors := rfl
@[simp] theorem startZeroTimer_pairs (s : State) (t : TrackId) :
    (s.startZeroTimer t).pairs = s.pairs := rfl
@[simp] theorem startZeroTimer_sections (s : State) (t : TrackId) :
    (s.startZeroTimer t).sections = s.sections := rfl
@[simp] theorem startZeroTimer_pacers (s : State) (t : TrackId) :
    (s.startZeroTimer t).pacers = s.pacers := rfl
@[simp] theorem startZeroTimer_scanners (s : State) (t : TrackId) :
    (s.startZeroTimer t).scanners = s.scanners := rfl
@[simp] theorem startZeroTimer_contexts (s : State) (t : TrackId) :
    (s.startZeroTimer t).contexts = s.contexts := rfl
@[simp] theorem startZeroTimer_store (s : State) (t : TrackId) :
    (s.startZeroTimer t).store = s.store := rfl
@[simp] theorem startZeroTimer_alarms (s : State) (t : TrackId) :
    (s.startZeroTimer t).alarms = s.alarms := rfl
@[simp] theorem startZeroTimer_ports (s : State) (t : TrackId) :
    (s.startZeroTimer t).ports = s.ports := rfl
@[simp] theorem startZeroTimer_config (s : State) (t : TrackId) :
    (s.startZeroTimer t).config = s.config := rfl
@[simp] theorem startZeroTimer_choice (s : State) (t : TrackId) :
    (s.startZeroTimer t).choice = s.choice := rfl
@[simp] theorem startZeroTimer_pending (s : State) (t : TrackId) :
    (s.startZeroTimer t).pending = s.pending := rfl

/-! ### stopZeroTimer -/

@[simp] theorem stopZeroTimer_siteTime (s : State) (t : TrackId) :
    (s.stopZeroTimer t).siteTime = s.siteTime := rfl
@[simp] theorem stopZeroTimer_stationTime (s : State) (t : TrackId) :
    (s.stopZeroTimer t).stationTime = s.stationTime := rfl
@[simp] theorem stopZeroTimer_secondStart (s : State) (t : TrackId) :
    (s.stopZeroTimer t).secondStart = s.secondStart := rfl
@[simp] theorem stopZeroTimer_sensors (s : State) (t : TrackId) :
    (s.stopZeroTimer t).sensors = s.sensors := rfl
@[simp] theorem stopZeroTimer_pairs (s : State) (t : TrackId) :
    (s.stopZeroTimer t).pairs = s.pairs := rfl
@[simp] theorem stopZeroTimer_sections (s : State) (t : TrackId) :
    (s.stopZeroTimer t).sections = s.sections := rfl
@[simp] theorem stopZeroTimer_pacers (s : State) (t : TrackId) :
    (s.stopZeroTimer t).pacers = s.pacers := rfl
@[simp] theorem stopZeroTimer_scanners (s : State) (t : TrackId) :
    (s.stopZeroTimer t).scanners = s.scanners := rfl
@[simp] theorem stopZeroTimer_contexts (s : State) (t : TrackId) :
    (s.stopZeroTimer t).contexts = s.contexts := rfl
@[simp] theorem stopZeroTimer_store (s : State) (t : TrackId) :
    (s.stopZeroTimer t).store = s.store := rfl
@[simp] theorem stopZeroTimer_alarms (s : State) (t : TrackId) :
    (s.stopZeroTimer t).alarms = s.alarms := rfl
@[simp] theorem stopZeroTimer_ports (s : State) (t : TrackId) :
    (s.stopZeroTimer t).ports = s.ports := rfl
@[simp] theorem stopZeroTimer_config (s : State) (t : TrackId) :
    (s.stopZeroTimer t).config = s.config := rfl
@[simp] theorem stopZeroTimer_choice (s : State) (t : TrackId) :
    (s.stopZeroTimer t).choice = s.choice := rfl
@[simp] theorem stopZeroTimer_pending (s : State) (t : TrackId) :
    (s.stopZeroTimer t).pending = s.pending := rfl

/-! ### Members -/

@[simp] theorem PerTrack.get_set {α : Type} (x : PerTrack α) (t : TrackId) (v : α) :
    (x.set t v).get t = v := by cases t <;> rfl

theorem PerTrack.get_set_of_ne {α : Type} (x : PerTrack α) {t u : TrackId} (h : u ≠ t) (v : α) :
    (x.set t v).get u = x.get u := by cases t <;> cases u <;> first | rfl | exact absurd rfl h

@[simp] theorem PerEnd.get_set {α : Type} (x : PerEnd α) (e : SectionEnd) (v : α) :
    (x.set e v).get e = v := by cases e <;> rfl

@[simp] theorem PerRole.get_set {α : Type} (x : PerRole α) (r : Role) (v : α) :
    (x.set r v).get r = v := by cases r <;> rfl

theorem PerRole.get_set_partner {α : Type} (x : PerRole α) (r : Role) (v : α) :
    (x.set r v).get (partner r) = x.get (partner r) := by cases r <;> rfl

@[simp] theorem PerRail.get_set {α : Type} (x : PerRail α) (rail : Rail) (v : α) :
    (x.set rail v).get rail = v := by cases rail <;> rfl

@[simp] theorem PerScanner.get_set {α : Type} (x : PerScanner α) (n : ScannerName) (v : α) :
    (x.set n v).get n = v := by cases n <;> rfl

@[simp] theorem PerScanner.get_map {α β : Type} (f : α → β) (x : PerScanner α) (n : ScannerName) :
    (x.map f).get n = f (x.get n) := by cases n <;> rfl

@[simp] theorem PerPort.get_set {α : Type} (x : PerPort α) (p : Port) (v : α) :
    (x.set p v).get p = v := by cases p <;> rfl

theorem PerPort.get_set_of_ne {α : Type} (x : PerPort α) {p q : Port} (h : q ≠ p) (v : α) :
    (x.set p v).get q = x.get q := by cases p <;> cases q <;> first | rfl | exact absurd rfl h

@[simp] theorem PerPort.get_map {α β : Type} (f : α → β) (x : PerPort α) (p : Port) :
    (x.map f).get p = f (x.get p) := by cases p <;> rfl

@[simp] theorem section_setSection (s : State) (t : TrackId) (c : SectionController) :
    (s.setSection t c).section t = c := PerTrack.get_set s.sections t c

theorem section_setSection_of_ne (s : State) {t u : TrackId} (h : u ≠ t) (c : SectionController) :
    (s.setSection t c).section u = s.section u := PerTrack.get_set_of_ne s.sections h c

@[simp] theorem ctx_setCtx (s : State) (t : TrackId) (c : Option PassContext) :
    (s.setCtx t c).ctx t = c := by simp [State.setCtx, State.ctx]

@[simp] theorem pacer_setPacer (s : State) (t : TrackId) (p : Pacer) :
    (s.setPacer t p).pacer t = p := PerTrack.get_set s.pacers t p

@[simp] theorem sensor_setSensor (s : State) (t : TrackId) (e : SectionEnd) (x : Role) (v : Sensor) :
    (s.setSensor t e x v).sensor t e x = v := by simp [State.sensor, State.setSensor]

@[simp] theorem pair_setPair (s : State) (t : TrackId) (e : SectionEnd) (m : PairMachine) :
    (s.setPair t e m).pair t e = m := by simp [State.pair, State.setPair]

@[simp] theorem scanner_setScanner (s : State) (t : TrackId) (n : ScannerName) (x : Scanner) :
    (s.setScanner t n x).scanner t n = x := by simp [State.scanner, State.setScanner]

@[simp] theorem context_setContext (s : State) (t : TrackId) (c : Option MatchContext) :
    (s.setContext t c).context t = c := PerTrack.get_set s.contexts t c

@[simp] theorem port_setPort (s : State) (p : Port) (x : StationPort) :
    (s.setPort p x).port p = x := PerPort.get_set s.ports p x

@[simp] theorem port_notify (s : State) (b : NoticeBody) (p : Port) :
    (s.notify b).port p = (s.port p).receive ⟨b, s.siteTime⟩ := by
  simp [State.notify, State.port]

@[simp] theorem slot_setSlot (s : State) (t : TrackId) (r : Option ScanRequest) :
    (s.setSlot t r).slot t = r := PerTrack.get_set s.strain.slots t r

end Sys2Proof.Machine
end

