-- ==== Sys2Proof/Laws/Access.lean ====
section
/-! SUPPORT. What the state's members read after an update of another member: as before. -/

namespace Sys2Proof.Machine

open Sys2Proof

/-! ### After atTime -/

@[simp] theorem section_atTime (s : State) (now : SiteTime) (t : TrackId) :
    (s.atTime now).section t = s.section t := rfl
@[simp] theorem ctx_atTime (s : State) (now : SiteTime) (t : TrackId) :
    (s.atTime now).ctx t = s.ctx t := rfl
@[simp] theorem configured_atTime (s : State) (now : SiteTime) (t : TrackId) :
    (s.atTime now).configured t = s.configured t := rfl
@[simp] theorem pacer_atTime (s : State) (now : SiteTime) (t : TrackId) :
    (s.atTime now).pacer t = s.pacer t := rfl
@[simp] theorem sensor_atTime
    (s : State) (now : SiteTime) (t : TrackId) (e : SectionEnd) (x : Role) :
    (s.atTime now).sensor t e x = s.sensor t e x := rfl
@[simp] theorem pair_atTime (s : State) (now : SiteTime) (t : TrackId) (e : SectionEnd) :
    (s.atTime now).pair t e = s.pair t e := rfl
@[simp] theorem scanner_atTime (s : State) (now : SiteTime) (t : TrackId) (k : ScannerName) :
    (s.atTime now).scanner t k = s.scanner t k := rfl
@[simp] theorem context_atTime (s : State) (now : SiteTime) (t : TrackId) :
    (s.atTime now).context t = s.context t := rfl
@[simp] theorem port_atTime (s : State) (now : SiteTime) (p : Port) :
    (s.atTime now).port p = s.port p := rfl
@[simp] theorem area_atTime (s : State) (now : SiteTime) (t : TrackId) :
    (s.atTime now).area t = s.area t := rfl
@[simp] theorem siteArea_atTime (s : State) (now : SiteTime) :
    (s.atTime now).siteArea = s.siteArea := rfl
@[simp] theorem slot_atTime (s : State) (now : SiteTime) (t : TrackId) :
    (s.atTime now).slot t = s.slot t := rfl

/-! ### After setSection -/

@[simp] theorem pacer_setSection (s : State) (u : TrackId) (c : SectionController) (t : TrackId) :
    (s.setSection u c).pacer t = s.pacer t := rfl
@[simp] theorem sensor_setSection
    (s : State) (u : TrackId) (c : SectionController) (t : TrackId) (e : SectionEnd) (x : Role) :
    (s.setSection u c).sensor t e x = s.sensor t e x := rfl
@[simp] theorem pair_setSection
    (s : State) (u : TrackId) (c : SectionController) (t : TrackId) (e : SectionEnd) :
    (s.setSection u c).pair t e = s.pair t e := rfl
@[simp] theorem scanner_setSection
    (s : State) (u : TrackId) (c : SectionController) (t : TrackId) (k : ScannerName) :
    (s.setSection u c).scanner t k = s.scanner t k := rfl
@[simp] theorem context_setSection (s : State) (u : TrackId) (c : SectionController) (t : TrackId) :
    (s.setSection u c).context t = s.context t := rfl
@[simp] theorem port_setSection (s : State) (u : TrackId) (c : SectionController) (p : Port) :
    (s.setSection u c).port p = s.port p := rfl
@[simp] theorem area_setSection (s : State) (u : TrackId) (c : SectionController) (t : TrackId) :
    (s.setSection u c).area t = s.area t := rfl
@[simp] theorem siteArea_setSection (s : State) (u : TrackId) (c : SectionController) :
    (s.setSection u c).siteArea = s.siteArea := rfl
@[simp] theorem slot_setSection (s : State) (u : TrackId) (c : SectionController) (t : TrackId) :
    (s.setSection u c).slot t = s.slot t := rfl

/-! ### After setPacer -/

@[simp] theorem section_setPacer (s : State) (u : TrackId) (v : Pacer) (t : TrackId) :
    (s.setPacer u v).section t = s.section t := rfl
@[simp] theorem ctx_setPacer (s : State) (u : TrackId) (v : Pacer) (t : TrackId) :
    (s.setPacer u v).ctx t = s.ctx t := rfl
@[simp] theorem configured_setPacer (s : State) (u : TrackId) (v : Pacer) (t : TrackId) :
    (s.setPacer u v).configured t = s.configured t := rfl
@[simp] theorem sensor_setPacer
    (s : State) (u : TrackId) (v : Pacer) (t : TrackId) (e : SectionEnd) (x : Role) :
    (s.setPacer u v).sensor t e x = s.sensor t e x := rfl
@[simp] theorem pair_setPacer (s : State) (u : TrackId) (v : Pacer) (t : TrackId) (e : SectionEnd) :
    (s.setPacer u v).pair t e = s.pair t e := rfl
@[simp] theorem scanner_setPacer
    (s : State) (u : TrackId) (v : Pacer) (t : TrackId) (k : ScannerName) :
    (s.setPacer u v).scanner t k = s.scanner t k := rfl
@[simp] theorem context_setPacer (s : State) (u : TrackId) (v : Pacer) (t : TrackId) :
    (s.setPacer u v).context t = s.context t := rfl
@[simp] theorem port_setPacer (s : State) (u : TrackId) (v : Pacer) (p : Port) :
    (s.setPacer u v).port p = s.port p := rfl
@[simp] theorem area_setPacer (s : State) (u : TrackId) (v : Pacer) (t : TrackId) :
    (s.setPacer u v).area t = s.area t := rfl
@[simp] theorem siteArea_setPacer (s : State) (u : TrackId) (v : Pacer) :
    (s.setPacer u v).siteArea = s.siteArea := rfl
@[simp] theorem slot_setPacer (s : State) (u : TrackId) (v : Pacer) (t : TrackId) :
    (s.setPacer u v).slot t = s.slot t := rfl

/-! ### After setSensor -/

@[simp] theorem section_setSensor
    (s : State) (u : TrackId) (f : SectionEnd) (y : Role) (v : Sensor) (t : TrackId) :
    (s.setSensor u f y v).section t = s.section t := rfl
@[simp] theorem ctx_setSensor
    (s : State) (u : TrackId) (f : SectionEnd) (y : Role) (v : Sensor) (t : TrackId) :
    (s.setSensor u f y v).ctx t = s.ctx t := rfl
@[simp] theorem configured_setSensor
    (s : State) (u : TrackId) (f : SectionEnd) (y : Role) (v : Sensor) (t : TrackId) :
    (s.setSensor u f y v).configured t = s.configured t := rfl
@[simp] theorem pacer_setSensor
    (s : State) (u : TrackId) (f : SectionEnd) (y : Role) (v : Sensor) (t : TrackId) :
    (s.setSensor u f y v).pacer t = s.pacer t := rfl
@[simp] theorem pair_setSensor
    (s : State) (u : TrackId) (f : SectionEnd) (y : Role) (v : Sensor) (t : TrackId) (e : SectionEnd) :
    (s.setSensor u f y v).pair t e = s.pair t e := rfl
@[simp] theorem scanner_setSensor
    (s : State) (u : TrackId) (f : SectionEnd) (y : Role) (v : Sensor) (t : TrackId) (k : ScannerName) :
    (s.setSensor u f y v).scanner t k = s.scanner t k := rfl
@[simp] theorem context_setSensor
    (s : State) (u : TrackId) (f : SectionEnd) (y : Role) (v : Sensor) (t : TrackId) :
    (s.setSensor u f y v).context t = s.context t := rfl
@[simp] theorem port_setSensor
    (s : State) (u : TrackId) (f : SectionEnd) (y : Role) (v : Sensor) (p : Port) :
    (s.setSensor u f y v).port p = s.port p := rfl
@[simp] theorem area_setSensor
    (s : State) (u : TrackId) (f : SectionEnd) (y : Role) (v : Sensor) (t : TrackId) :
    (s.setSensor u f y v).area t = s.area t := rfl
@[simp] theorem siteArea_setSensor
    (s : State) (u : TrackId) (f : SectionEnd) (y : Role) (v : Sensor) :
    (s.setSensor u f y v).siteArea = s.siteArea := rfl
@[simp] theorem slot_setSensor
    (s : State) (u : TrackId) (f : SectionEnd) (y : Role) (v : Sensor) (t : TrackId) :
    (s.setSensor u f y v).slot t = s.slot t := rfl

/-! ### After setPair -/

@[simp] theorem section_setPair
    (s : State) (u : TrackId) (f : SectionEnd) (m : PairMachine) (t : TrackId) :
    (s.setPair u f m).section t = s.section t := rfl
@[simp] theorem ctx_setPair
    (s : State) (u : TrackId) (f : SectionEnd) (m : PairMachine) (t : TrackId) :
    (s.setPair u f m).ctx t = s.ctx t := rfl
@[simp] theorem configured_setPair
    (s : State) (u : TrackId) (f : SectionEnd) (m : PairMachine) (t : TrackId) :
    (s.setPair u f m).configured t = s.configured t := rfl
@[simp] theorem pacer_setPair
    (s : State) (u : TrackId) (f : SectionEnd) (m : PairMachine) (t : TrackId) :
    (s.setPair u f m).pacer t = s.pacer t := rfl
@[simp] theorem sensor_setPair
    (s : State) (u : TrackId) (f : SectionEnd) (m : PairMachine) (t : TrackId) (e : SectionEnd) (x : Role) :
    (s.setPair u f m).sensor t e x = s.sensor t e x := rfl
@[simp] theorem scanner_setPair
    (s : State) (u : TrackId) (f : SectionEnd) (m : PairMachine) (t : TrackId) (k : ScannerName) :
    (s.setPair u f m).scanner t k = s.scanner t k := rfl
@[simp] theorem context_setPair
    (s : State) (u : TrackId) (f : SectionEnd) (m : PairMachine) (t : TrackId) :
    (s.setPair u f m).context t = s.context t := rfl
@[simp] theorem port_setPair
    (s : State) (u : TrackId) (f : SectionEnd) (m : PairMachine) (p : Port) :
    (s.setPair u f m).port p = s.port p := rfl
@[simp] theorem area_setPair
    (s : State) (u : TrackId) (f : SectionEnd) (m : PairMachine) (t : TrackId) :
    (s.setPair u f m).area t = s.area t := rfl
@[simp] theorem siteArea_setPair (s : State) (u : TrackId) (f : SectionEnd) (m : PairMachine) :
    (s.setPair u f m).siteArea = s.siteArea := rfl
@[simp] theorem slot_setPair
    (s : State) (u : TrackId) (f : SectionEnd) (m : PairMachine) (t : TrackId) :
    (s.setPair u f m).slot t = s.slot t := rfl

/-! ### After setScanner -/

@[simp] theorem section_setScanner
    (s : State) (u : TrackId) (n : ScannerName) (v : Scanner) (t : TrackId) :
    (s.setScanner u n v).section t = s.section t := rfl
@[simp] theorem ctx_setScanner
    (s : State) (u : TrackId) (n : ScannerName) (v : Scanner) (t : TrackId) :
    (s.setScanner u n v).ctx t = s.ctx t := rfl
@[simp] theorem configured_setScanner
    (s : State) (u : TrackId) (n : ScannerName) (v : Scanner) (t : TrackId) :
    (s.setScanner u n v).configured t = s.configured t := rfl
@[simp] theorem pacer_setScanner
    (s : State) (u : TrackId) (n : ScannerName) (v : Scanner) (t : TrackId) :
    (s.setScanner u n v).pacer t = s.pacer t := rfl
@[simp] theorem sensor_setScanner
    (s : State) (u : TrackId) (n : ScannerName) (v : Scanner) (t : TrackId) (e : SectionEnd) (x : Role) :
    (s.setScanner u n v).sensor t e x = s.sensor t e x := rfl
@[simp] theorem pair_setScanner
    (s : State) (u : TrackId) (n : ScannerName) (v : Scanner) (t : TrackId) (e : SectionEnd) :
    (s.setScanner u n v).pair t e = s.pair t e := rfl
@[simp] theorem context_setScanner
    (s : State) (u : TrackId) (n : ScannerName) (v : Scanner) (t : TrackId) :
    (s.setScanner u n v).context t = s.context t := rfl
@[simp] theorem port_setScanner
    (s : State) (u : TrackId) (n : ScannerName) (v : Scanner) (p : Port) :
    (s.setScanner u n v).port p = s.port p := rfl
@[simp] theorem area_setScanner
    (s : State) (u : TrackId) (n : ScannerName) (v : Scanner) (t : TrackId) :
    (s.setScanner u n v).area t = s.area t := rfl
@[simp] theorem siteArea_setScanner (s : State) (u : TrackId) (n : ScannerName) (v : Scanner) :
    (s.setScanner u n v).siteArea = s.siteArea := rfl
@[simp] theorem slot_setScanner
    (s : State) (u : TrackId) (n : ScannerName) (v : Scanner) (t : TrackId) :
    (s.setScanner u n v).slot t = s.slot t := rfl

/-! ### After setContext -/

@[simp] theorem section_setContext
    (s : State) (u : TrackId) (v : Option MatchContext) (t : TrackId) :
    (s.setContext u v).section t = s.section t := rfl
@[simp] theorem ctx_setContext (s : State) (u : TrackId) (v : Option MatchContext) (t : TrackId) :
    (s.setContext u v).ctx t = s.ctx t := rfl
@[simp] theorem configured_setContext
    (s : State) (u : TrackId) (v : Option MatchContext) (t : TrackId) :
    (s.setContext u v).configured t = s.configured t := rfl
@[simp] theorem pacer_setContext (s : State) (u : TrackId) (v : Option MatchContext) (t : TrackId) :
    (s.setContext u v).pacer t = s.pacer t := rfl
@[simp] theorem sensor_setContext
    (s : State) (u : TrackId) (v : Option MatchContext) (t : TrackId) (e : SectionEnd) (x : Role) :
    (s.setContext u v).sensor t e x = s.sensor t e x := rfl
@[simp] theorem pair_setContext
    (s : State) (u : TrackId) (v : Option MatchContext) (t : TrackId) (e : SectionEnd) :
    (s.setContext u v).pair t e = s.pair t e := rfl
@[simp] theorem scanner_setContext
    (s : State) (u : TrackId) (v : Option MatchContext) (t : TrackId) (k : ScannerName) :
    (s.setContext u v).scanner t k = s.scanner t k := rfl
@[simp] theorem port_setContext (s : State) (u : TrackId) (v : Option MatchContext) (p : Port) :
    (s.setContext u v).port p = s.port p := rfl
@[simp] theorem area_setContext (s : State) (u : TrackId) (v : Option MatchContext) (t : TrackId) :
    (s.setContext u v).area t = s.area t := rfl
@[simp] theorem siteArea_setContext (s : State) (u : TrackId) (v : Option MatchContext) :
    (s.setContext u v).siteArea = s.siteArea := rfl
@[simp] theorem slot_setContext (s : State) (u : TrackId) (v : Option MatchContext) (t : TrackId) :
    (s.setContext u v).slot t = s.slot t := rfl

/-! ### After setPort -/

@[simp] theorem section_setPort (s : State) (q : Port) (v : StationPort) (t : TrackId) :
    (s.setPort q v).section t = s.section t := rfl
@[simp] theorem ctx_setPort (s : State) (q : Port) (v : StationPort) (t : TrackId) :
    (s.setPort q v).ctx t = s.ctx t := rfl
@[simp] theorem configured_setPort (s : State) (q : Port) (v : StationPort) (t : TrackId) :
    (s.setPort q v).configured t = s.configured t := rfl
@[simp] theorem pacer_setPort (s : State) (q : Port) (v : StationPort) (t : TrackId) :
    (s.setPort q v).pacer t = s.pacer t := rfl
@[simp] theorem sensor_setPort
    (s : State) (q : Port) (v : StationPort) (t : TrackId) (e : SectionEnd) (x : Role) :
    (s.setPort q v).sensor t e x = s.sensor t e x := rfl
@[simp] theorem pair_setPort
    (s : State) (q : Port) (v : StationPort) (t : TrackId) (e : SectionEnd) :
    (s.setPort q v).pair t e = s.pair t e := rfl
@[simp] theorem scanner_setPort
    (s : State) (q : Port) (v : StationPort) (t : TrackId) (k : ScannerName) :
    (s.setPort q v).scanner t k = s.scanner t k := rfl
@[simp] theorem context_setPort (s : State) (q : Port) (v : StationPort) (t : TrackId) :
    (s.setPort q v).context t = s.context t := rfl
@[simp] theorem area_setPort (s : State) (q : Port) (v : StationPort) (t : TrackId) :
    (s.setPort q v).area t = s.area t := rfl
@[simp] theorem siteArea_setPort (s : State) (q : Port) (v : StationPort) :
    (s.setPort q v).siteArea = s.siteArea := rfl
@[simp] theorem slot_setPort (s : State) (q : Port) (v : StationPort) (t : TrackId) :
    (s.setPort q v).slot t = s.slot t := rfl

/-! ### After notify -/

@[simp] theorem section_notify (s : State) (b : NoticeBody) (t : TrackId) :
    (s.notify b).section t = s.section t := rfl
@[simp] theorem ctx_notify (s : State) (b : NoticeBody) (t : TrackId) :
    (s.notify b).ctx t = s.ctx t := rfl
@[simp] theorem configured_notify (s : State) (b : NoticeBody) (t : TrackId) :
    (s.notify b).configured t = s.configured t := rfl
@[simp] theorem pacer_notify (s : State) (b : NoticeBody) (t : TrackId) :
    (s.notify b).pacer t = s.pacer t := rfl
@[simp] theorem sensor_notify
    (s : State) (b : NoticeBody) (t : TrackId) (e : SectionEnd) (x : Role) :
    (s.notify b).sensor t e x = s.sensor t e x := rfl
@[simp] theorem pair_notify (s : State) (b : NoticeBody) (t : TrackId) (e : SectionEnd) :
    (s.notify b).pair t e = s.pair t e := rfl
@[simp] theorem scanner_notify (s : State) (b : NoticeBody) (t : TrackId) (k : ScannerName) :
    (s.notify b).scanner t k = s.scanner t k := rfl
@[simp] theorem context_notify (s : State) (b : NoticeBody) (t : TrackId) :
    (s.notify b).context t = s.context t := rfl
@[simp] theorem area_notify (s : State) (b : NoticeBody) (t : TrackId) :
    (s.notify b).area t = s.area t := rfl
@[simp] theorem siteArea_notify (s : State) (b : NoticeBody) :
    (s.notify b).siteArea = s.siteArea := rfl
@[simp] theorem slot_notify (s : State) (b : NoticeBody) (t : TrackId) :
    (s.notify b).slot t = s.slot t := rfl

/-! ### After updatePass -/

@[simp] theorem section_updatePass
    (s : State) (tr : TrackId) (n : Nat) (g : HeldPass → HeldPass) (t : TrackId) :
    (s.updatePass tr n g).section t = s.section t := rfl
@[simp] theorem ctx_updatePass
    (s : State) (tr : TrackId) (n : Nat) (g : HeldPass → HeldPass) (t : TrackId) :
    (s.updatePass tr n g).ctx t = s.ctx t := rfl
@[simp] theorem configured_updatePass
    (s : State) (tr : TrackId) (n : Nat) (g : HeldPass → HeldPass) (t : TrackId) :
    (s.updatePass tr n g).configured t = s.configured t := rfl
@[simp] theorem pacer_updatePass
    (s : State) (tr : TrackId) (n : Nat) (g : HeldPass → HeldPass) (t : TrackId) :
    (s.updatePass tr n g).pacer t = s.pacer t := rfl
@[simp] theorem sensor_updatePass
    (s : State) (tr : TrackId) (n : Nat) (g : HeldPass → HeldPass) (t : TrackId) (e : SectionEnd) (x : Role) :
    (s.updatePass tr n g).sensor t e x = s.sensor t e x := rfl
@[simp] theorem pair_updatePass
    (s : State) (tr : TrackId) (n : Nat) (g : HeldPass → HeldPass) (t : TrackId) (e : SectionEnd) :
    (s.updatePass tr n g).pair t e = s.pair t e := rfl
@[simp] theorem scanner_updatePass
    (s : State) (tr : TrackId) (n : Nat) (g : HeldPass → HeldPass) (t : TrackId) (k : ScannerName) :
    (s.updatePass tr n g).scanner t k = s.scanner t k := rfl
@[simp] theorem context_updatePass
    (s : State) (tr : TrackId) (n : Nat) (g : HeldPass → HeldPass) (t : TrackId) :
    (s.updatePass tr n g).context t = s.context t := rfl
@[simp] theorem port_updatePass
    (s : State) (tr : TrackId) (n : Nat) (g : HeldPass → HeldPass) (p : Port) :
    (s.updatePass tr n g).port p = s.port p := rfl
@[simp] theorem area_updatePass
    (s : State) (tr : TrackId) (n : Nat) (g : HeldPass → HeldPass) (t : TrackId) :
    (s.updatePass tr n g).area t = s.area t := rfl
@[simp] theorem siteArea_updatePass (s : State) (tr : TrackId) (n : Nat) (g : HeldPass → HeldPass) :
    (s.updatePass tr n g).siteArea = s.siteArea := rfl
@[simp] theorem slot_updatePass
    (s : State) (tr : TrackId) (n : Nat) (g : HeldPass → HeldPass) (t : TrackId) :
    (s.updatePass tr n g).slot t = s.slot t := rfl

/-! ### After setSlot -/

@[simp] theorem section_setSlot (s : State) (u : TrackId) (r : Option ScanRequest) (t : TrackId) :
    (s.setSlot u r).section t = s.section t := rfl
@[simp] theorem ctx_setSlot (s : State) (u : TrackId) (r : Option ScanRequest) (t : TrackId) :
    (s.setSlot u r).ctx t = s.ctx t := rfl
@[simp] theorem configured_setSlot
    (s : State) (u : TrackId) (r : Option ScanRequest) (t : TrackId) :
    (s.setSlot u r).configured t = s.configured t := rfl
@[simp] theorem pacer_setSlot (s : State) (u : TrackId) (r : Option ScanRequest) (t : TrackId) :
    (s.setSlot u r).pacer t = s.pacer t := rfl
@[simp] theorem sensor_setSlot
    (s : State) (u : TrackId) (r : Option ScanRequest) (t : TrackId) (e : SectionEnd) (x : Role) :
    (s.setSlot u r).sensor t e x = s.sensor t e x := rfl
@[simp] theorem pair_setSlot
    (s : State) (u : TrackId) (r : Option ScanRequest) (t : TrackId) (e : SectionEnd) :
    (s.setSlot u r).pair t e = s.pair t e := rfl
@[simp] theorem scanner_setSlot
    (s : State) (u : TrackId) (r : Option ScanRequest) (t : TrackId) (k : ScannerName) :
    (s.setSlot u r).scanner t k = s.scanner t k := rfl
@[simp] theorem context_setSlot (s : State) (u : TrackId) (r : Option ScanRequest) (t : TrackId) :
    (s.setSlot u r).context t = s.context t := rfl
@[simp] theorem port_setSlot (s : State) (u : TrackId) (r : Option ScanRequest) (p : Port) :
    (s.setSlot u r).port p = s.port p := rfl
@[simp] theorem area_setSlot (s : State) (u : TrackId) (r : Option ScanRequest) (t : TrackId) :
    (s.setSlot u r).area t = s.area t := rfl
@[simp] theorem siteArea_setSlot (s : State) (u : TrackId) (r : Option ScanRequest) :
    (s.setSlot u r).siteArea = s.siteArea := rfl

/-! ### After setZero -/

@[simp] theorem section_setZero
    (s : State) (u : TrackId) (rl : Rail) (k : Fin 8) (z : Option Int) (t : TrackId) :
    (s.setZero u rl k z).section t = s.section t := rfl
@[simp] theorem ctx_setZero
    (s : State) (u : TrackId) (rl : Rail) (k : Fin 8) (z : Option Int) (t : TrackId) :
    (s.setZero u rl k z).ctx t = s.ctx t := rfl
@[simp] theorem configured_setZero
    (s : State) (u : TrackId) (rl : Rail) (k : Fin 8) (z : Option Int) (t : TrackId) :
    (s.setZero u rl k z).configured t = s.configured t := rfl
@[simp] theorem pacer_setZero
    (s : State) (u : TrackId) (rl : Rail) (k : Fin 8) (z : Option Int) (t : TrackId) :
    (s.setZero u rl k z).pacer t = s.pacer t := rfl
@[simp] theorem sensor_setZero
    (s : State) (u : TrackId) (rl : Rail) (k : Fin 8) (z : Option Int) (t : TrackId) (e : SectionEnd) (x : Role) :
    (s.setZero u rl k z).sensor t e x = s.sensor t e x := rfl
@[simp] theorem pair_setZero
    (s : State) (u : TrackId) (rl : Rail) (k : Fin 8) (z : Option Int) (t : TrackId) (e : SectionEnd) :
    (s.setZero u rl k z).pair t e = s.pair t e := rfl
@[simp] theorem scanner_setZero
    (s : State) (u : TrackId) (rl : Rail) (k : Fin 8) (z : Option Int) (t : TrackId) (n : ScannerName) :
    (s.setZero u rl k z).scanner t n = s.scanner t n := rfl
@[simp] theorem context_setZero
    (s : State) (u : TrackId) (rl : Rail) (k : Fin 8) (z : Option Int) (t : TrackId) :
    (s.setZero u rl k z).context t = s.context t := rfl
@[simp] theorem port_setZero
    (s : State) (u : TrackId) (rl : Rail) (k : Fin 8) (z : Option Int) (p : Port) :
    (s.setZero u rl k z).port p = s.port p := rfl
@[simp] theorem area_setZero
    (s : State) (u : TrackId) (rl : Rail) (k : Fin 8) (z : Option Int) (t : TrackId) :
    (s.setZero u rl k z).area t = s.area t := rfl
@[simp] theorem siteArea_setZero
    (s : State) (u : TrackId) (rl : Rail) (k : Fin 8) (z : Option Int) :
    (s.setZero u rl k z).siteArea = s.siteArea := rfl
@[simp] theorem slot_setZero
    (s : State) (u : TrackId) (rl : Rail) (k : Fin 8) (z : Option Int) (t : TrackId) :
    (s.setZero u rl k z).slot t = s.slot t := rfl

/-! ### After setDrifted -/

@[simp] theorem section_setDrifted
    (s : State) (u : TrackId) (rl : Rail) (k : Fin 8) (d : Bool) (t : TrackId) :
    (s.setDrifted u rl k d).section t = s.section t := rfl
@[simp] theorem ctx_setDrifted
    (s : State) (u : TrackId) (rl : Rail) (k : Fin 8) (d : Bool) (t : TrackId) :
    (s.setDrifted u rl k d).ctx t = s.ctx t := rfl
@[simp] theorem configured_setDrifted
    (s : State) (u : TrackId) (rl : Rail) (k : Fin 8) (d : Bool) (t : TrackId) :
    (s.setDrifted u rl k d).configured t = s.configured t := rfl
@[simp] theorem pacer_setDrifted
    (s : State) (u : TrackId) (rl : Rail) (k : Fin 8) (d : Bool) (t : TrackId) :
    (s.setDrifted u rl k d).pacer t = s.pacer t := rfl
@[simp] theorem sensor_setDrifted
    (s : State) (u : TrackId) (rl : Rail) (k : Fin 8) (d : Bool) (t : TrackId) (e : SectionEnd) (x : Role) :
    (s.setDrifted u rl k d).sensor t e x = s.sensor t e x := rfl
@[simp] theorem pair_setDrifted
    (s : State) (u : TrackId) (rl : Rail) (k : Fin 8) (d : Bool) (t : TrackId) (e : SectionEnd) :
    (s.setDrifted u rl k d).pair t e = s.pair t e := rfl
@[simp] theorem scanner_setDrifted
    (s : State) (u : TrackId) (rl : Rail) (k : Fin 8) (d : Bool) (t : TrackId) (n : ScannerName) :
    (s.setDrifted u rl k d).scanner t n = s.scanner t n := rfl
@[simp] theorem context_setDrifted
    (s : State) (u : TrackId) (rl : Rail) (k : Fin 8) (d : Bool) (t : TrackId) :
    (s.setDrifted u rl k d).context t = s.context t := rfl
@[simp] theorem port_setDrifted
    (s : State) (u : TrackId) (rl : Rail) (k : Fin 8) (d : Bool) (p : Port) :
    (s.setDrifted u rl k d).port p = s.port p := rfl
@[simp] theorem area_setDrifted
    (s : State) (u : TrackId) (rl : Rail) (k : Fin 8) (d : Bool) (t : TrackId) :
    (s.setDrifted u rl k d).area t = s.area t := rfl
@[simp] theorem siteArea_setDrifted (s : State) (u : TrackId) (rl : Rail) (k : Fin 8) (d : Bool) :
    (s.setDrifted u rl k d).siteArea = s.siteArea := rfl
@[simp] theorem slot_setDrifted
    (s : State) (u : TrackId) (rl : Rail) (k : Fin 8) (d : Bool) (t : TrackId) :
    (s.setDrifted u rl k d).slot t = s.slot t := rfl

/-! ### After startZeroTimer -/

@[simp] theorem section_startZeroTimer (s : State) (u : TrackId) (t : TrackId) :
    (s.startZeroTimer u).section t = s.section t := rfl
@[simp] theorem ctx_startZeroTimer (s : State) (u : TrackId) (t : TrackId) :
    (s.startZeroTimer u).ctx t = s.ctx t := rfl
@[simp] theorem configured_startZeroTimer (s : State) (u : TrackId) (t : TrackId) :
    (s.startZeroTimer u).configured t = s.configured t := rfl
@[simp] theorem pacer_startZeroTimer (s : State) (u : TrackId) (t : TrackId) :
    (s.startZeroTimer u).pacer t = s.pacer t := rfl
@[simp] theorem sensor_startZeroTimer
    (s : State) (u : TrackId) (t : TrackId) (e : SectionEnd) (x : Role) :
    (s.startZeroTimer u).sensor t e x = s.sensor t e x := rfl
@[simp] theorem pair_startZeroTimer (s : State) (u : TrackId) (t : TrackId) (e : SectionEnd) :
    (s.startZeroTimer u).pair t e = s.pair t e := rfl
@[simp] theorem scanner_startZeroTimer (s : State) (u : TrackId) (t : TrackId) (k : ScannerName) :
    (s.startZeroTimer u).scanner t k = s.scanner t k := rfl
@[simp] theorem context_startZeroTimer (s : State) (u : TrackId) (t : TrackId) :
    (s.startZeroTimer u).context t = s.context t := rfl
@[simp] theorem port_startZeroTimer (s : State) (u : TrackId) (p : Port) :
    (s.startZeroTimer u).port p = s.port p := rfl
@[simp] theorem area_startZeroTimer (s : State) (u : TrackId) (t : TrackId) :
    (s.startZeroTimer u).area t = s.area t := rfl
@[simp] theorem siteArea_startZeroTimer (s : State) (u : TrackId) :
    (s.startZeroTimer u).siteArea = s.siteArea := rfl
@[simp] theorem slot_startZeroTimer (s : State) (u : TrackId) (t : TrackId) :
    (s.startZeroTimer u).slot t = s.slot t := rfl

/-! ### After stopZeroTimer -/

@[simp] theorem section_stopZeroTimer (s : State) (u : TrackId) (t : TrackId) :
    (s.stopZeroTimer u).section t = s.section t := rfl
@[simp] theorem ctx_stopZeroTimer (s : State) (u : TrackId) (t : TrackId) :
    (s.stopZeroTimer u).ctx t = s.ctx t := rfl
@[simp] theorem configured_stopZeroTimer (s : State) (u : TrackId) (t : TrackId) :
    (s.stopZeroTimer u).configured t = s.configured t := rfl
@[simp] theorem pacer_stopZeroTimer (s : State) (u : TrackId) (t : TrackId) :
    (s.stopZeroTimer u).pacer t = s.pacer t := rfl
@[simp] theorem sensor_stopZeroTimer
    (s : State) (u : TrackId) (t : TrackId) (e : SectionEnd) (x : Role) :
    (s.stopZeroTimer u).sensor t e x = s.sensor t e x := rfl
@[simp] theorem pair_stopZeroTimer (s : State) (u : TrackId) (t : TrackId) (e : SectionEnd) :
    (s.stopZeroTimer u).pair t e = s.pair t e := rfl
@[simp] theorem scanner_stopZeroTimer (s : State) (u : TrackId) (t : TrackId) (k : ScannerName) :
    (s.stopZeroTimer u).scanner t k = s.scanner t k := rfl
@[simp] theorem context_stopZeroTimer (s : State) (u : TrackId) (t : TrackId) :
    (s.stopZeroTimer u).context t = s.context t := rfl
@[simp] theorem port_stopZeroTimer (s : State) (u : TrackId) (p : Port) :
    (s.stopZeroTimer u).port p = s.port p := rfl
@[simp] theorem area_stopZeroTimer (s : State) (u : TrackId) (t : TrackId) :
    (s.stopZeroTimer u).area t = s.area t := rfl
@[simp] theorem siteArea_stopZeroTimer (s : State) (u : TrackId) :
    (s.stopZeroTimer u).siteArea = s.siteArea := rfl
@[simp] theorem slot_stopZeroTimer (s : State) (u : TrackId) (t : TrackId) :
    (s.stopZeroTimer u).slot t = s.slot t := rfl

/-! ### A member written twice, or written with what it was -/

@[simp] theorem setSensor_setSensor (s : State) (t : TrackId) (e : SectionEnd) (x : Role) (u v : Sensor) :
    (s.setSensor t e x u).setSensor t e x v = s.setSensor t e x v := by
  cases t <;> cases e <;> cases x <;> rfl

@[simp] theorem setPair_setPair (s : State) (t : TrackId) (e : SectionEnd) (u v : PairMachine) :
    (s.setPair t e u).setPair t e v = s.setPair t e v := by
  cases t <;> cases e <;> rfl

@[simp] theorem setSection_setSection (s : State) (t : TrackId) (u v : SectionController) :
    (s.setSection t u).setSection t v = s.setSection t v := by
  cases t <;> rfl

@[simp] theorem setPort_setPort (s : State) (p : Port) (u v : StationPort) :
    (s.setPort p u).setPort p v = s.setPort p v := by
  cases p <;> rfl

@[simp] theorem setPair_self (s : State) (t : TrackId) (e : SectionEnd) :
    s.setPair t e (s.pair t e) = s := by
  cases t <;> cases e <;> rfl

@[simp] theorem setSection_self (s : State) (t : TrackId) : s.setSection t (s.section t) = s := by
  cases t <;> rfl

theorem sensor_setSensor_partner (s : State) (t : TrackId) (e : SectionEnd) (x : Role) (v : Sensor) :
    (s.setSensor t e x v).sensor t e (partner x) = s.sensor t e (partner x) := by
  cases t <;> cases e <;> cases x <;> rfl

/-! ### After inputsBefore and inputsOf -/

@[simp] theorem section_inputsBefore (s : State) (t i : TrackId) (x : Coinciding) :
    (s.inputsBefore t x).section i = s.section i := rfl
@[simp] theorem ctx_inputsBefore (s : State) (t i : TrackId) (x : Coinciding) :
    (s.inputsBefore t x).ctx i = s.ctx i := rfl
@[simp] theorem pacer_inputsBefore (s : State) (t i : TrackId) (x : Coinciding) :
    (s.inputsBefore t x).pacer i = s.pacer i := rfl
@[simp] theorem context_inputsBefore (s : State) (t i : TrackId) (x : Coinciding) :
    (s.inputsBefore t x).context i = s.context i := rfl
@[simp] theorem siteArea_inputsBefore (s : State) (t : TrackId) (x : Coinciding) :
    (s.inputsBefore t x).siteArea = s.siteArea := rfl
@[simp] theorem pair_inputsBefore (s : State) (t : TrackId) (x : Coinciding) (e : SectionEnd) :
    (s.inputsBefore t x).pair t e = x.pairs.get e := by
  cases t <;> rfl
@[simp] theorem area_inputsBefore (s : State) (t : TrackId) (x : Coinciding) :
    (s.inputsBefore t x).area t = (s.area t).withSensorsOf x.area := by
  cases t <;> rfl
@[simp] theorem section_inputsOf (s u : State) (t i : TrackId) :
    (s.inputsOf u t).section i = s.section i := rfl
@[simp] theorem ctx_inputsOf (s u : State) (t i : TrackId) : (s.inputsOf u t).ctx i = s.ctx i := rfl
@[simp] theorem pacer_inputsOf (s u : State) (t i : TrackId) : (s.inputsOf u t).pacer i = s.pacer i := rfl
@[simp] theorem context_inputsOf (s u : State) (t i : TrackId) :
    (s.inputsOf u t).context i = s.context i := rfl
@[simp] theorem siteArea_inputsOf (s u : State) (t : TrackId) :
    (s.inputsOf u t).siteArea = s.siteArea := rfl
@[simp] theorem pair_inputsOf (s u : State) (t : TrackId) (e : SectionEnd) :
    (s.inputsOf u t).pair t e = u.pair t e := by
  cases t <;> rfl
@[simp] theorem area_inputsOf (s u : State) (t : TrackId) : (s.inputsOf u t).area t = u.area t := by
  cases t <;> rfl

end Sys2Proof.Machine
end

