-- ==== Sys2Proof/Laws/Frames.lean ====
section
/-! SUPPORT. What each shared operation may change, said once: `Frame F s u` says that every part of the
state that `F` does not list is in `u` as it is in `s`. -/

namespace Sys2Proof.Machine

open Sys2Proof

-- One proof after another: elaborated side by side they ask for more threads than check.sh allows.
set_option Elab.async false

/-- The parts of the state that a frame speaks of. -/
inductive Part where
  | siteTime | stationTime | secondStart | choice | pending
  | sensors (t : TrackId)
  | pairs (t : TrackId)
  | control (t : TrackId)
  | pacer (t : TrackId)
  | scanners (t : TrackId)
  | context (t : TrackId)
  | zeros (t : TrackId)
  | drifted (t : TrackId)
  | slot (t : TrackId)
  | zeroTimer (t : TrackId)
  | scan | lastServed | ambient | store | alarms
  | notices (p : Port)
  | view (p : Port)
  | attached (p : Port)
  | transaction (p : Port)
  | area (t : TrackId)
  | site | generation
  deriving DecidableEq, Repr

/-- A part of the state is in `u` as it is in `s`. -/
def Part.Same : Part → State → State → Prop
  | .siteTime, s, u => u.siteTime = s.siteTime
  | .stationTime, s, u => u.stationTime = s.stationTime
  | .secondStart, s, u => u.secondStart = s.secondStart
  | .choice, s, u => u.choice = s.choice
  | .pending, s, u => u.pending = s.pending
  | .sensors t, s, u => u.sensors.get t = s.sensors.get t
  | .pairs t, s, u => u.pairs.get t = s.pairs.get t
  | .control t, s, u => u.sections.get t = s.sections.get t
  | .pacer t, s, u => u.pacers.get t = s.pacers.get t
  | .scanners t, s, u => u.scanners.get t = s.scanners.get t
  | .context t, s, u => u.contexts.get t = s.contexts.get t
  | .zeros t, s, u => u.strain.zeros.get t = s.strain.zeros.get t
  | .drifted t, s, u => u.strain.drifted.get t = s.strain.drifted.get t
  | .slot t, s, u => u.strain.slots.get t = s.strain.slots.get t
  | .zeroTimer t, s, u => u.strain.zeroTimers.get t = s.strain.zeroTimers.get t
  | .scan, s, u => u.strain.scan = s.strain.scan
  | .lastServed, s, u => u.strain.lastServed = s.strain.lastServed
  | .ambient, s, u => u.strain.ambient = s.strain.ambient
  | .store, s, u => u.store = s.store
  | .alarms, s, u => u.alarms = s.alarms
  | .notices p, s, u => (u.ports.get p).notices = (s.ports.get p).notices
  | .view p, s, u => (u.ports.get p).view = (s.ports.get p).view
  | .attached p, s, u => (u.ports.get p).attached = (s.ports.get p).attached
  | .transaction p, s, u =>
    (u.ports.get p).phase = (s.ports.get p).phase ∧ (u.ports.get p).dataOut = (s.ports.get p).dataOut
  | .area t, s, u => u.config.tracks.get t = s.config.tracks.get t
  | .site, s, u => u.config.site = s.config.site
  | .generation, s, u => u.config.generation = s.config.generation

/-- Every part that `F` does not list is the same. -/
def Frame (F : List Part) (s u : State) : Prop := ∀ x, x ∉ F → x.Same s u

theorem Part.Same.refl (x : Part) (s : State) : x.Same s s := by
  cases x <;> first | rfl | exact ⟨rfl, rfl⟩

theorem Part.Same.trans {x : Part} {s u v : State} (h : x.Same s u) (k : x.Same u v) : x.Same s v := by
  cases x <;> first | exact Eq.trans k h | exact ⟨k.1.trans h.1, k.2.trans h.2⟩

theorem Frame.refl (F : List Part) (s : State) : Frame F s s := fun x _ => .refl x s

theorem Frame.trans {F : List Part} {s u v : State} (h : Frame F s u) (k : Frame F u v) :
    Frame F s v := fun x hx => (h x hx).trans (k x hx)

theorem Frame.mono {F G : List Part} {s u : State} (h : Frame G s u) (hsub : G ⊆ F) : Frame F s u :=
  fun x hx => h x fun hg => hx (hsub hg)

/-! ### The lists of parts that operations change -/

/-- Sending notices. -/
abbrev noticeParts : List Part := [.notices .a, .notices .b]

/-- Reclaiming passes. -/
abbrev reclaimParts : List Part := [.store, .notices .a, .notices .b, .view .a, .view .b]

/-- Raising alarms. -/
abbrev alarmParts : List Part := [.store, .alarms, .notices .a, .notices .b]

/-- Recognising vehicles on a track. -/
abbrev vehicleParts (t : TrackId) : List Part :=
  [.context t, .store, .alarms, .notices .a, .notices .b, .view .a, .view .b]

/-- Finishing entries of a track. -/
abbrev finishParts (t : TrackId) : List Part :=
  [.control t, .choice, .context t, .store, .alarms, .notices .a, .notices .b, .view .a, .view .b]

/-- Asking the scanners of a track for lines. -/
abbrev lineParts (t : TrackId) : List Part := [.control t, .scanners t, .store]

/-- A pace tick of a track. -/
abbrev tickParts (t : TrackId) : List Part :=
  [.control t, .scanners t, .store, .slot .t1, .slot .t2, .scan, .lastServed]

/-- Waking a track. -/
abbrev wakeParts (t : TrackId) : List Part := [.control t, .zeroTimer t, .slot t, .scanners t]

/-- Promoting the site area. -/
abbrev promoteSiteParts : List Part := [.site, .ambient, .notices .a, .notices .b]

/-- Promoting a track area. -/
abbrev promoteTrackParts (t : TrackId) : List Part :=
  [.area t, .control t, .zeroTimer t, .sensors t, .pairs t, .slot t, .zeros t, .drifted t, .scan,
    .choice, .notices .a, .notices .b]

/-- A track coming to rest. -/
abbrev restParts (t : TrackId) : List Part :=
  [.pacer t, .area t, .control t, .zeroTimer t, .sensors t, .pairs t, .slot t, .zeros t, .drifted t, .scan,
    .choice, .notices .a, .notices .b, .site, .ambient]

/-- Opening, running and closing a pass of a track. -/
abbrev passParts (t : TrackId) : List Part :=
  [.control t, .pacer t, .scanners t, .context t, .slot t, .zeroTimer t, .store, .alarms, .notices .a,
    .notices .b, .view .a, .view .b, .choice, .site, .ambient]

/-- Handling edges of a track's sensors. -/
abbrev edgeParts (t : TrackId) : List Part :=
  [.sensors t, .pairs t, .control t, .pacer t, .scanners t, .context t, .slot t, .zeroTimer t, .store,
    .alarms, .notices .a, .notices .b, .view .a, .view .b, .choice, .site, .ambient]

/-- An operation that keeps a frame after one that keeps a wider frame. -/
theorem Frame.step {F G : List Part} {s u v : State} (h : Frame F s u) (k : Frame G u v)
    (hsub : G ⊆ F := by simp) : Frame F s v := h.trans (k.mono hsub)

/-- A single operation seen in a wider frame. -/
theorem Frame.one {F G : List Part} {s u : State} (k : Frame G s u) (hsub : G ⊆ F := by simp) :
    Frame F s u := k.mono hsub

/-! ### Updates -/

theorem atTime_frame (s : State) (now : SiteTime) : Frame [.siteTime] s (s.atTime now) := by
  intro x hx
  cases x <;> first | rfl | exact ⟨rfl, rfl⟩ | exact absurd (by simp) hx

theorem setSection_frame (s : State) (t : TrackId) (c : SectionController) :
    Frame [.control t] s (s.setSection t c) := by
  intro x hx
  cases x <;>
    first | rfl | exact ⟨rfl, rfl⟩ | exact PerTrack.get_set_of_ne _ (by rintro rfl; exact hx (by simp)) _

theorem setCtx_frame (s : State) (t : TrackId) (c : Option PassContext) :
    Frame [.control t] s (s.setCtx t c) := setSection_frame s t _

theorem updateEntry_frame (s : State) (t : TrackId) (i : Nat) (f : AxleEntry → AxleEntry) :
    Frame [.control t] s (s.updateEntry t i f) := setSection_frame s t _

theorem setApproachInput_frame (s : State) (t : TrackId) (e : SectionEnd) (f : InputFilter) :
    Frame [.control t] s (s.setApproachInput t e f) := setSection_frame s t _

theorem setPacer_frame (s : State) (t : TrackId) (p : Pacer) : Frame [.pacer t] s (s.setPacer t p) := by
  intro x hx
  cases x <;>
    first | rfl | exact ⟨rfl, rfl⟩ | exact PerTrack.get_set_of_ne _ (by rintro rfl; exact hx (by simp)) _

theorem writeSpeed_frame (s : State) (t : TrackId) (v : Nat) : Frame [.pacer t] s (s.writeSpeed t v) :=
  setPacer_frame s t _

theorem startPacer_frame (s : State) (t : TrackId) : Frame [.pacer t] s (s.startPacer t) :=
  setPacer_frame s t _

theorem stopPacer_frame (s : State) (t : TrackId) : Frame [.pacer t] s (s.stopPacer t) :=
  setPacer_frame s t _

theorem setSensor_frame (s : State) (t : TrackId) (e : SectionEnd) (r : Role) (v : Sensor) :
    Frame [.sensors t] s (s.setSensor t e r v) := by
  intro x hx
  cases x <;>
    first | rfl | exact ⟨rfl, rfl⟩ | exact PerTrack.get_set_of_ne _ (by rintro rfl; exact hx (by simp)) _

theorem setFilter_frame (s : State) (t : TrackId) (e : SectionEnd) (r : Role) (f : InputFilter) :
    Frame [.sensors t] s (s.setFilter t e r f) := setSensor_frame s t e r _

theorem setPair_frame (s : State) (t : TrackId) (e : SectionEnd) (m : PairMachine) :
    Frame [.pairs t] s (s.setPair t e m) := by
  intro x hx
  cases x <;>
    first | rfl | exact ⟨rfl, rfl⟩ | exact PerTrack.get_set_of_ne _ (by rintro rfl; exact hx (by simp)) _

theorem setMachine_frame (s : State) (t : TrackId) (e : SectionEnd) (m : PairState) :
    Frame [.pairs t] s (s.setMachine t e m) := setPair_frame s t e _

theorem setScanner_frame (s : State) (t : TrackId) (n : ScannerName) (v : Scanner) :
    Frame [.scanners t] s (s.setScanner t n v) := by
  intro x hx
  cases x <;>
    first | rfl | exact ⟨rfl, rfl⟩ | exact PerTrack.get_set_of_ne _ (by rintro rfl; exact hx (by simp)) _

theorem openShutters_frame (s : State) (t : TrackId) : Frame [.scanners t] s (s.openShutters t) := by
  intro x hx
  cases x <;>
    first | rfl | exact ⟨rfl, rfl⟩ | exact PerTrack.get_set_of_ne _ (by rintro rfl; exact hx (by simp)) _

theorem closeShutters_frame (s : State) (t : TrackId) : Frame [.scanners t] s (s.closeShutters t) := by
  intro x hx
  cases x <;>
    first | rfl | exact ⟨rfl, rfl⟩ | exact PerTrack.get_set_of_ne _ (by rintro rfl; exact hx (by simp)) _

theorem setContext_frame (s : State) (t : TrackId) (c : Option MatchContext) :
    Frame [.context t] s (s.setContext t c) := by
  intro x hx
  cases x <;>
    first | rfl | exact ⟨rfl, rfl⟩ | exact PerTrack.get_set_of_ne _ (by rintro rfl; exact hx (by simp)) _

theorem setSlot_frame (s : State) (t : TrackId) (r : Option ScanRequest) :
    Frame [.slot t] s (s.setSlot t r) := by
  intro x hx
  cases x <;>
    first | rfl | exact ⟨rfl, rfl⟩ | exact PerTrack.get_set_of_ne _ (by rintro rfl; exact hx (by simp)) _

theorem setZero_frame (s : State) (t : TrackId) (rail : Rail) (b : Fin 8) (z : Option Int) :
    Frame [.zeros t] s (s.setZero t rail b z) := by
  intro x hx
  cases x <;>
    first | rfl | exact ⟨rfl, rfl⟩ | exact PerTrack.get_set_of_ne _ (by rintro rfl; exact hx (by simp)) _

theorem setDrifted_frame (s : State) (t : TrackId) (rail : Rail) (b : Fin 8) (d : Bool) :
    Frame [.drifted t] s (s.setDrifted t rail b d) := by
  intro x hx
  cases x <;>
    first | rfl | exact ⟨rfl, rfl⟩ | exact PerTrack.get_set_of_ne _ (by rintro rfl; exact hx (by simp)) _

theorem startZeroTimer_frame (s : State) (t : TrackId) : Frame [.zeroTimer t] s (s.startZeroTimer t) := by
  intro x hx
  cases x <;>
    first | rfl | exact ⟨rfl, rfl⟩ | exact PerTrack.get_set_of_ne _ (by rintro rfl; exact hx (by simp)) _

theorem stopZeroTimer_frame (s : State) (t : TrackId) : Frame [.zeroTimer t] s (s.stopZeroTimer t) := by
  intro x hx
  cases x <;>
    first | rfl | exact ⟨rfl, rfl⟩ | exact PerTrack.get_set_of_ne _ (by rintro rfl; exact hx (by simp)) _

theorem updatePass_frame (s : State) (t : TrackId) (n : Nat) (f : HeldPass → HeldPass) :
    Frame [.store] s (s.updatePass t n f) := by
  intro x hx
  cases x <;> first | rfl | exact ⟨rfl, rfl⟩ | exact absurd (by simp) hx

theorem flagPass_frame (s : State) (t : TrackId) (n : Nat) (f : PassFlags → PassFlags) :
    Frame [.store] s (s.flagPass t n f) := updatePass_frame s t n _

theorem updateAxle_frame (s : State) (t : TrackId) (n i : Nat) (f : AxleRecord → AxleRecord) :
    Frame [.store] s (s.updateAxle t n i f) := updatePass_frame s t n _

theorem updateVehicle_frame (s : State) (t : TrackId) (n i : Nat) (f : VehicleRecord → VehicleRecord) :
    Frame [.store] s (s.updateVehicle t n i f) := updatePass_frame s t n _

theorem writeAxle_frame (s : State) (t : TrackId) (n : Nat) (e : AxleEntry) :
    Frame [.store] s (s.writeAxle t n e) :=
  updatePass_frame s t n _

theorem takeAxleChunk_frame (s : State) (t : TrackId) (n : Nat) :
    Frame [.store] s (s.takeAxleChunk t n) := by
  intro x hx
  cases x <;> first | rfl | exact ⟨rfl, rfl⟩ | exact absurd (by simp) hx

theorem takeVehicleChunk_frame (s : State) (t : TrackId) (n : Nat) :
    Frame [.store] s (s.takeVehicleChunk t n) := by
  intro x hx
  cases x <;> first | rfl | exact ⟨rfl, rfl⟩ | exact absurd (by simp) hx

theorem withStore_frame (s : State) (st : PassStore) : Frame [.store] s { s with store := st } := by
  intro x hx
  cases x <;> first | rfl | exact ⟨rfl, rfl⟩ | exact absurd (by simp) hx

theorem withAlarms_frame (s : State) (u : AlarmUnit) : Frame [.alarms] s { s with alarms := u } := by
  intro x hx
  cases x <;> first | rfl | exact ⟨rfl, rfl⟩ | exact absurd (by simp) hx

theorem withChoice_frame (s : State) (n : Nat) : Frame [.choice] s { s with choice := n } := by
  intro x hx
  cases x <;> first | rfl | exact ⟨rfl, rfl⟩ | exact absurd (by simp) hx

/-! ### Notices -/

theorem receive_attached (p : StationPort) (n : Notice) : (p.receive n).attached = p.attached := by
  unfold StationPort.receive; split <;> rfl

theorem receive_view (p : StationPort) (n : Notice) : (p.receive n).view = p.view := by
  unfold StationPort.receive; split <;> rfl

theorem receive_phase (p : StationPort) (n : Notice) : (p.receive n).phase = p.phase := by
  unfold StationPort.receive; split <;> rfl

theorem receive_dataOut (p : StationPort) (n : Notice) : (p.receive n).dataOut = p.dataOut := by
  unfold StationPort.receive; split <;> rfl

theorem notify_frame (s : State) (b : NoticeBody) : Frame noticeParts s (s.notify b) := by
  intro x hx
  cases x with
  | notices p => exact absurd (by cases p <;> simp) hx
  | view p => simp [Part.Same, State.notify, receive_view]
  | attached p => simp [Part.Same, State.notify, receive_attached]
  | transaction p => simp [Part.Same, State.notify, receive_phase, receive_dataOut]
  | _ => rfl

theorem notifyAll_frame (s : State) (bs : List NoticeBody) : Frame noticeParts s (s.notifyAll bs) := by
  unfold State.notifyAll
  induction bs generalizing s with
  | nil => exact .refl _ s
  | cons b rest ih => exact (notify_frame s b).trans (ih _)

theorem notifyTogether_frame (s : State) (a b : List (List NoticeBody)) :
    Frame [.choice, .notices .a, .notices .b] s (s.notifyTogether a b) :=
  .step (.one (notifyAll_frame s _)) (withChoice_frame _ _)

/-! ### The pass store -/

theorem dropNotice_attached (x : StationPort) (h : Bool) (n : Notice) :
    (x.dropNotice h n).attached = x.attached := by
  unfold StationPort.dropNotice; split <;> simp [receive_attached]

theorem dropNotice_phase (x : StationPort) (h : Bool) (n : Notice) :
    (x.dropNotice h n).phase = x.phase := by
  unfold StationPort.dropNotice; split <;> simp [receive_phase]

theorem dropNotice_dataOut (x : StationPort) (h : Bool) (n : Notice) :
    (x.dropNotice h n).dataOut = x.dataOut := by
  unfold StationPort.dropNotice; split <;> simp [receive_dataOut]

theorem reclaim_frame (s : State) (p : HeldPass) (tier2 : Bool) :
    Frame reclaimParts s (s.reclaim p tier2) := by
  intro x hx
  cases x with
  | notices p => exact absurd (by cases p <;> simp) hx
  | view p => exact absurd (by cases p <;> simp) hx
  | store => exact absurd (by simp) hx
  | attached p => cases p <;> exact dropNotice_attached _ _ _
  | transaction p => cases p <;> exact ⟨dropNotice_phase _ _ _, dropNotice_dataOut _ _ _⟩
  | _ => rfl

theorem reclaimUntil_frame (room : PassStore → Bool) (fuel : Nat) (s : State) :
    Frame reclaimParts s (State.reclaimUntil room fuel s) := by
  induction fuel generalizing s with
  | zero => exact .refl _ s
  | succ k ih =>
    unfold State.reclaimUntil
    split
    · exact .refl _ s
    · split
      · exact .refl _ s
      · exact (reclaim_frame s _ _).trans (ih _)

theorem makeRoom_frame (s : State) (room : PassStore → Bool) :
    Frame reclaimParts s (s.makeRoom room) := reclaimUntil_frame room _ s

theorem reclaimReleased_frame (fuel : Nat) (s : State) :
    Frame reclaimParts s (State.reclaimReleased fuel s) := by
  induction fuel generalizing s with
  | zero => exact .refl _ s
  | succ k ih =>
    unfold State.reclaimReleased
    split
    · exact .refl _ s
    · exact (reclaim_frame s _ _).trans (ih _)

theorem requestHeader_frame (s : State) (p : HeldPass) :
    Frame reclaimParts s (s.requestHeader p).1 := by
  unfold State.requestHeader
  dsimp only
  split
  · exact .step (makeRoom_frame s _) (withStore_frame _ _)
  · exact makeRoom_frame s _

theorem stopStoring_frame (s : State) (t : TrackId) (c : PassContext) (pool : Bool) :
    Frame [.control t, .store] s (s.stopStoring t c pool) :=
  .step (.one (flagPass_frame s _ _ _)) (setCtx_frame _ t _)

theorem requestAxle_frame (s : State) (t : TrackId) (c : PassContext) (e : AxleEntry) :
    Frame (.control t :: reclaimParts) s (s.requestAxle t c e).1 := by
  unfold State.requestAxle
  dsimp only
  split
  · exact .one (stopStoring_frame s t c _)
  · split
    · split
      · exact .step (.step (.one (makeRoom_frame s _)) (takeAxleChunk_frame _ _ _)) (writeAxle_frame _ _ _ _)
      · exact .step (.one (makeRoom_frame s _)) (stopStoring_frame _ t c _)
    · exact .one (writeAxle_frame s _ _ _)

theorem requestVehicle_frame (s : State) (t : TrackId) (n : Nat) :
    Frame reclaimParts s (s.requestVehicle t n).1 := by
  unfold State.requestVehicle
  split
  · exact .refl _ s
  · split
    · dsimp only
      split
      · exact .step (makeRoom_frame s _) (takeVehicleChunk_frame _ _ _)
      · exact makeRoom_frame s _
    · exact .refl _ s

/-! ### Alarms and vehicles -/

theorem raise_frame (s : State) (a : Alarm) : Frame alarmParts s (s.raise a) := by
  unfold State.raise
  dsimp only
  split
  · exact .step (.step (.one (withAlarms_frame s _)) (updatePass_frame _ _ _ _)) (notify_frame _ _)
  · exact .step (.step (.one (withAlarms_frame s _)) (updatePass_frame _ _ _ _)) (notify_frame _ _)

theorem raiseAll_frame (s : State) (as : List Alarm) : Frame alarmParts s (s.raiseAll as) := by
  unfold State.raiseAll
  induction as generalizing s with
  | nil => exact .refl _ s
  | cons a rest ih => exact (raise_frame s a).trans (ih _)

theorem completeVehicle_frame (s : State) (t : TrackId) (n i : Nat) :
    Frame alarmParts s (s.completeVehicle t n i) := by
  unfold State.completeVehicle
  split
  · dsimp only
    split
    · exact .one (updateVehicle_frame s _ _ _ _)
    · exact .step (.one (updateVehicle_frame s _ _ _ _)) (raise_frame _ _)
  · exact .refl _ s

theorem makeVehicle_frame (s : State) (t : TrackId) (m : MatchContext) (shape : VehicleShape) :
    Frame (vehicleParts t) s (s.makeVehicle t m shape) := by
  unfold State.makeVehicle
  dsimp only
  split
  · split
    · exact .step (.step (.step (.one (requestVehicle_frame s _ _)) (updatePass_frame _ _ _ _))
        (setContext_frame _ t _)) (completeVehicle_frame _ _ _ _)
    · exact .step (.step (.one (requestVehicle_frame s _ _)) (updatePass_frame _ _ _ _))
        (setContext_frame _ t _)
  · exact .step (.step (.one (requestVehicle_frame s _ _)) (flagPass_frame _ _ _ _)) (setContext_frame _ t _)

theorem attempts_frame (look : List WaitingAxle → List VehicleType → Decision) (t : TrackId)
    (fuel : Nat) (s : State) : Frame (vehicleParts t) s (State.attempts look t fuel s) := by
  induction fuel generalizing s with
  | zero => exact .refl _ s
  | succ k ih =>
    unfold State.attempts
    split
    · exact .refl _ s
    · split
      · split
        · exact .refl _ s
        · exact (makeVehicle_frame s t _ _).trans (ih _)
        · exact (makeVehicle_frame s t _ _).trans (ih _)
      · exact .refl _ s

theorem tellCounted_frame (s : State) (t : TrackId) (pass : Nat) (e : AxleEntry) (stored : Bool) :
    Frame (vehicleParts t) s (s.tellCounted t pass e stored) := by
  unfold State.tellCounted
  dsimp only
  split
  · exact .refl _ s
  · split
    · split
      · exact .step (.step (.one (updateAxle_frame s _ _ _ _)) (setContext_frame _ t _))
          (attempts_frame _ t _ _)
      · exact .step (.one (updateAxle_frame s _ _ _ _)) (setContext_frame _ t _)
    · exact .one (setContext_frame s t _)

theorem closingMatch_frame (s : State) (t : TrackId) :
    Frame (vehicleParts t) s (s.closingMatch t) := by
  unfold State.closingMatch
  split
  · exact .refl _ s
  · exact .step (attempts_frame _ t _ s) (setContext_frame _ t _)

theorem tellEnded_frame (s : State) (t : TrackId) (pass i : Nat) (o : AxleOutcome) (l : Level) :
    Frame (vehicleParts t) s (s.tellEnded t pass i o l) := by
  unfold State.tellEnded
  split
  · exact .refl _ s
  · dsimp only
    split
    · exact .one (setContext_frame s t _)
    · split
      · exact .step (.one (setContext_frame s t _)) (updateVehicle_frame _ _ _ _ _)
      · split
        · exact .step (.step (.one (setContext_frame s t _)) (updateVehicle_frame _ _ _ _ _))
            (completeVehicle_frame _ _ _ _)
        · exact .step (.one (setContext_frame s t _)) (updateVehicle_frame _ _ _ _ _)

/-! ### Strain acquisition -/

theorem withdrawZero_frame (s : State) (t : TrackId) : Frame [.slot t] s (s.withdrawZero t) := by
  unfold State.withdrawZero
  split <;> first | exact setSlot_frame s t _ | exact .refl _ s

theorem withdrawPace_frame (s : State) (t : TrackId) (n : Nat) :
    Frame [.slot t] s (s.withdrawPace t n) := by
  unfold State.withdrawPace
  split <;> try split
  all_goals first | exact setSlot_frame s t _ | exact .refl _ s

theorem grant_frame (s : State) (t : TrackId) (r : ScanRequest) :
    Frame [.slot t, .scan, .lastServed] s (s.grant t r) := by
  intro x hx
  cases x <;>
    first
      | rfl | exact ⟨rfl, rfl⟩ | (simp at hx; done)
      | exact PerTrack.get_set_of_ne _ (by rintro rfl; exact hx (by simp)) _

theorem arbitrate_frame (s : State) :
    Frame [.slot .t1, .slot .t2, .scan, .lastServed] s s.arbitrate := by
  unfold State.arbitrate
  split
  · exact .refl _ s
  · split
    · exact .refl _ s
    · exact .one (grant_frame s .t1 _)
    · exact .one (grant_frame s .t2 _)
    · split
      · exact .one (grant_frame s .t2 _)
      · exact .one (grant_frame s .t1 _)

theorem requestScan_frame (s : State) (t : TrackId) (r : ScanRequest) :
    Frame [.store, .slot .t1, .slot .t2, .scan, .lastServed] s (s.requestScan t r) := by
  unfold State.requestScan
  split
  · refine .step (.one (setSlot_frame s t _) ?_) (arbitrate_frame _)
    cases t <;> simp
  · split
    · exact .one (flagPass_frame s _ _ _)
    · exact .refl _ s

theorem checkDrift_frame (s : State) (t : TrackId) (rail : Rail) (b : Fin 8) :
    Frame [.drifted t, .notices .a, .notices .b] s (s.checkDrift t rail b) := by
  unfold State.checkDrift
  dsimp only
  split
  · exact .refl _ s
  · exact .step (.one (setDrifted_frame s t rail b _)) (notify_frame _ _)

theorem withScan_frame (s : State) (x : Option Scan) :
    Frame [.scan] s { s with strain := { s.strain with scan := x } } := by
  intro x hx
  cases x <;> first | rfl | exact ⟨rfl, rfl⟩ | exact absurd (by simp) hx

theorem realign_frame (s : State) (t : TrackId) (before : TrackArea) :
    Frame [.slot t, .zeros t, .drifted t, .scan] s (s.realign t before) := by
  refine .step (.one (withdrawZero_frame s t)) (G := [.zeros t, .drifted t, .scan]) ?_
  intro x hx
  cases x <;>
    first
      | rfl | exact ⟨rfl, rfl⟩ | (simp at hx; done)
      | exact PerTrack.get_set_of_ne _ (by rintro rfl; exact hx (by simp)) _

/-! ### Scanners and the pacer's ticks -/

theorem putScanner_frame (s : State) (t : TrackId) (n : ScannerName) (v : Scanner) :
    Frame [.scanners t, .notices .a, .notices .b] s (s.putScanner t n v) := by
  unfold State.putScanner
  dsimp only
  split
  · exact .step (.one (setScanner_frame s t n v)) (notify_frame _ _)
  · exact .one (setScanner_frame s t n v)

theorem markEntryShutter_frame (s : State) (t : TrackId) (n : ScannerName) (pass : Nat) (e : AxleEntry) :
    Frame [.control t, .store] s (s.markEntryShutter t n pass e) := by
  unfold State.markEntryShutter
  dsimp only
  split
  · exact .step (.one (updateEntry_frame s t _ _)) (flagPass_frame _ _ _ _)
  · exact .one (updateEntry_frame s t _ _)

theorem askScanner_frame (s : State) (t : TrackId) (pass : Nat) (n : ScannerName) (i : Nat) :
    Frame (lineParts t) s (s.askScanner t pass n i) := by
  unfold State.askScanner
  split
  · exact .refl _ s
  · dsimp only
    split
    · exact .refl _ s
    · split
      · exact .one (setScanner_frame s t n _)
      · exact .one (markEntryShutter_frame s t n pass _)
      · exact .one (markEntryShutter_frame s t n pass _)
      · exact .one (markEntryShutter_frame s t n pass _)
      · exact .one (updateEntry_frame s t _ _)
      · exact .one (updateEntry_frame s t _ _)

theorem takeTick_frame (s : State) (t : TrackId) (c : PassContext) :
    Frame (tickParts t) s (s.takeTick t c) := by
  have lines : ∀ (names : List ScannerName) (index : ScannerName → Option Nat) (s : State),
      Frame (lineParts t) s (names.foldl (fun s n =>
        match index n with
        | none => s
        | some i => s.askScanner t c.number n i) s) := by
    intro names index
    induction names with
    | nil => intro s; exact .refl _ s
    | cons n rest ih =>
      intro s
      refine .trans ?_ (ih _)
      dsimp only
      split
      · exact .refl _ s
      · exact askScanner_frame s t _ n _
  unfold State.takeTick
  dsimp only
  refine .step ?_ (lines _ (fun n => onlyIndex (insideGate _ _ _ n)) _)
  split
  · exact .step (.one (setSection_frame s t _)) (requestScan_frame _ t _)
  · exact .one (setSection_frame s t _)

/-! ### Promotion -/

theorem restartFilters_frame (s : State) (t : TrackId) :
    Frame [.sensors t, .pairs t, .control t] s (s.restartFilters t) := by
  refine .step (u := { s with
    sensors := s.sensors.set t (restartSensors (s.sensors.get t) s.siteTime)
    pairs := s.pairs.set t resetPairs }) ?_ (setSection_frame _ t _)
  intro x hx
  cases x <;>
    first | rfl | exact ⟨rfl, rfl⟩ | exact PerTrack.get_set_of_ne _ (by rintro rfl; exact hx (by simp)) _

theorem configureTrack_frame (s : State) (t : TrackId) :
    Frame [.control t, .zeroTimer t] s (s.configureTrack t) := by
  unfold State.configureTrack
  dsimp only
  split
  · exact .step (.one (setSection_frame s t _)) (startZeroTimer_frame _ t)
  · exact .refl _ s

theorem promoteTrack_frame (s : State) (t : TrackId) (image : TrackArea) (g : Nat) :
    Frame (promoteTrackParts t) s (s.promoteTrack t image g) := by
  unfold State.promoteTrack
  dsimp only
  refine .step (.step (.step (.step (.step (u := { s with config := { s.config with
    tracks := s.config.tracks.set t ((s.config.tracks.get t).install image g) } }) ?_
    (configureTrack_frame _ t)) (restartFilters_frame _ t)) (realign_frame _ t _))
    (notifyTogether_frame _ _ _)) (notify_frame _ _)
  intro x hx
  cases x <;>
    first | rfl | exact ⟨rfl, rfl⟩ | exact PerTrack.get_set_of_ne _ (by rintro rfl; exact hx (by simp)) _

theorem promoteTrackIfReady_frame (s : State) (t : TrackId) :
    Frame (promoteTrackParts t) s (s.promoteTrackIfReady t) := by
  unfold State.promoteTrackIfReady
  split
  · exact .refl _ s
  · split
    · exact promoteTrack_frame s t _ _
    · exact .refl _ s

theorem promoteSite_frame (s : State) (image : SiteArea) (g : Nat) :
    Frame promoteSiteParts s (s.promoteSite image g) := by
  unfold State.promoteSite
  dsimp only
  refine .step (u := { s with
    config := { s.config with site := s.config.site.install image g }
    strain := s.strain.takeSite s.siteArea image }) ?_ (notify_frame _ _)
  intro x hx
  unfold StrainUnit.takeSite
  split <;> cases x <;> first | rfl | exact ⟨rfl, rfl⟩ | exact absurd (by simp) hx

theorem promoteSiteIfReady_frame (s : State) : Frame promoteSiteParts s s.promoteSiteIfReady := by
  unfold State.promoteSiteIfReady
  split
  · exact .refl _ s
  · split
    · exact promoteSite_frame s _ _
    · exact .refl _ s

/-! ### Approach, finishing and abandoning -/

theorem leaveIdle_frame (s : State) (t : TrackId) :
    Frame [.control t, .zeroTimer t, .slot t] s (s.leaveIdle t) :=
  .step (.step (.one (stopZeroTimer_frame s t)) (withdrawZero_frame _ t)) (setSection_frame _ t _)

theorem keepLateClose_frame (s : State) (t : TrackId) : Frame [.control t] s (s.keepLateClose t) :=
  setSection_frame s t _

theorem wakeTrack_frame (s : State) (t : TrackId) : Frame (wakeParts t) s (s.wakeTrack t) := by
  unfold State.wakeTrack
  dsimp only
  split
  · exact .step (.step (.step (.one (keepLateClose_frame s t)) (leaveIdle_frame _ t)) (setSection_frame _ t _))
      (openShutters_frame _ t)
  · exact .one (setSection_frame s t _)
  all_goals exact .refl _ s

theorem finish_frame (s : State) (t : TrackId) (c : PassContext) (e : AxleEntry) (drift : Option Int)
    (uncertain forced : Bool) : Frame (finishParts t) s (s.finish t c e drift uncertain forced) := by
  unfold State.finish
  exact .step (.step (.step (.step (.step (.one (updateAxle_frame s _ _ _ _)) (withChoice_frame _ _))
    (raiseAll_frame _ _)) (setCtx_frame _ t _)) (updateAxle_frame _ _ _ _ _)) (tellEnded_frame _ t _ _ _ _)

theorem finishForced_frame (s : State) (t : TrackId) (es : List AxleEntry) :
    Frame (finishParts t) s (s.finishForced t es) := by
  induction es generalizing s with
  | nil => exact .refl _ s
  | cons e rest ih =>
    unfold State.finishForced
    split
    · exact .refl _ s
    · exact .trans (.step (.one (setSection_frame s t _)) (finish_frame _ t _ _ _ _ _)) (ih _)

theorem forcedClose_frame (s : State) (t : TrackId) : Frame (finishParts t) s (s.forcedClose t) :=
  finishForced_frame s t _

theorem abandonEntry_frame (s : State) (t : TrackId) (n : Nat) (e : AxleEntry) :
    Frame (vehicleParts t) s (s.abandonEntry t n e) :=
  .step (.one (updateAxle_frame s _ _ _ _)) (tellEnded_frame _ t _ _ _ _)

theorem abandonEach_frame (s : State) (t : TrackId) (es : List AxleEntry) :
    Frame (.control t :: vehicleParts t) s (s.abandonEach t es) := by
  induction es generalizing s with
  | nil => exact .refl _ s
  | cons e rest ih =>
    unfold State.abandonEach
    split
    · exact .refl _ s
    · exact .trans (.step (.one (setSection_frame s t _)) (abandonEntry_frame _ t _ _)) (ih _)

theorem abandonAll_frame (s : State) (t : TrackId) :
    Frame (.control t :: vehicleParts t) s (s.abandonAll t) := abandonEach_frame s t _

/-! ### Sections -/

theorem startHold_frame (s : State) (t : TrackId) : Frame [.control t] s (s.startHold t) := by
  unfold State.startHold
  split
  · exact .refl _ s
  · exact setSection_frame s t _

theorem takeSpeed_frame (s : State) (t : TrackId) (e : PairEvent) :
    Frame [.control t, .pacer t] s (s.takeSpeed t e) := by
  unfold State.takeSpeed
  split
  · exact .refl _ s
  · split
    · exact .step (.one (setCtx_frame s t _)) (writeSpeed_frame _ t _)
    · exact .refl _ s

theorem askRecord_frame (s : State) (t : TrackId) (c : PassContext) (e : AxleEntry) :
    Frame (.control t :: reclaimParts) s (s.askRecord t c e).1 := by
  unfold State.askRecord
  split
  · exact requestAxle_frame s t c e
  · exact .refl _ s

theorem joinQueue_frame (s : State) (t : TrackId) (c : PassContext) (e : AxleEntry) :
    Frame [.control t] s (s.joinQueue t c e) := setSection_frame s t _

theorem countIn_frame (s : State) (t : TrackId) (ev : PairEvent) :
    Frame (.control t :: vehicleParts t) s (s.countIn t ev) := by
  unfold State.countIn
  split
  · exact .refl _ s
  · exact .step (.step (.step (.one (joinQueue_frame s t _ _)) (askRecord_frame _ t _ _))
      (tellCounted_frame _ t _ _ _)) (startHold_frame _ t)

theorem formPass_frame (s : State) (t : TrackId) (ev : PairEvent) :
    Frame (.control t :: .alarms :: reclaimParts) s (s.formPass t ev) := by
  unfold State.formPass
  exact .step (.step (.step (.step (.one (withStore_frame s _)) (requestHeader_frame _ _))
    (setSection_frame _ t _)) (withAlarms_frame _ _)) (notify_frame _ _)

theorem enterOccupied_frame (s : State) (t : TrackId) :
    Frame [.control t, .pacer t] s (s.enterOccupied t) :=
  .step (.one (setSection_frame s t _)) (startPacer_frame _ t)

theorem openPass_frame (s : State) (t : TrackId) (ev : PairEvent) :
    Frame (passParts t) s (s.openPass t ev) := by
  unfold State.openPass
  extract_lets idle a b d
  have ha : Frame (passParts t) s a := by
    unfold a
    split
    · exact .step (.one (keepLateClose_frame s t)) (leaveIdle_frame _ t)
    · exact .refl _ s
  have hb : Frame (passParts t) s b := .step (.step ha (formPass_frame a t ev)) (enterOccupied_frame _ t)
  have hd : Frame (passParts t) s d := by
    unfold d
    split
    · exact .step hb (openShutters_frame b t)
    · exact hb
  exact .step (.step (.step hd (writeSpeed_frame d t _)) (startHold_frame _ t)) (countIn_frame _ t ev)

theorem closePass_frame (s : State) (t : TrackId) (reason : EndReason) :
    Frame (.control t :: .slot t :: vehicleParts t) s (s.closePass t reason) := by
  unfold State.closePass
  split
  · exact .refl _ s
  · extract_lets a b d e f g
    have hb : Frame (.control t :: .slot t :: vehicleParts t) s b :=
      .step (.one (withAlarms_frame s _)) (updatePass_frame a _ _ _)
    have hd : Frame (.control t :: .slot t :: vehicleParts t) s d := by
      unfold d
      split
      · exact .step (.step hb (flagPass_frame b _ _ _)) (raise_frame _ _)
      · exact hb
    exact .step (.step (.step (.step (.step hd (closingMatch_frame d t)) (updatePass_frame e _ _ _))
      (notify_frame f _)) (setSection_frame g t _)) (withdrawPace_frame _ t _)

theorem rest_frame (s : State) (t : TrackId) (withDelay : Bool) :
    Frame [.control t, .zeroTimer t, .pacer t] s (s.rest t withDelay) := by
  unfold State.rest
  exact .step (.step (.one (setSection_frame s t _)) (startZeroTimer_frame _ t)) (stopPacer_frame _ t)

theorem enterIdle_frame (s : State) (t : TrackId) (withDelay : Bool) :
    Frame (restParts t) s (s.enterIdle t withDelay) :=
  .step (.step (.one (rest_frame s t _)) (promoteSiteIfReady_frame _)) (promoteTrackIfReady_frame _ t)

theorem drain_frame (s : State) (t : TrackId) (n : Nat) :
    Frame [.control t, .pacer t] s (s.drain t n) :=
  .step (.one (setSection_frame s t _)) (stopPacer_frame _ t)

theorem underflow_frame (s : State) (t : TrackId) :
    Frame [.control t, .notices .a, .notices .b] s (s.underflow t) := by
  unfold State.underflow
  split
  · exact .refl _ s
  · exact .step (.one (setSection_frame s t _)) (notify_frame _ _)

theorem forceOut_frame (s : State) (t : TrackId) (reason : EndReason) (n : Nat) :
    Frame (passParts t) s (s.forceOut t reason n) :=
  .step (.step (.step (.one (forcedClose_frame s t)) (closePass_frame _ t _)) (drain_frame _ t _))
    (promoteSiteIfReady_frame _)

theorem enterClearing_frame (s : State) (t : TrackId) : Frame [.control t] s (s.enterClearing t) :=
  setSection_frame s t _

theorem countOut_frame (s : State) (t : TrackId) (ev : PairEvent) :
    Frame (finishParts t) s (s.countOut t ev) := by
  unfold State.countOut
  split
  · exact .refl _ s
  · dsimp only
    split <;> split
    · exact .step (.one (setSection_frame s t _)) (enterClearing_frame _ t)
    · exact .step (.step (.one (setSection_frame s t _)) (finish_frame _ t _ _ _ _ _))
        (enterClearing_frame _ t)
    · exact .step (.one (setSection_frame s t _)) (startHold_frame _ t)
    · exact .step (.step (.one (setSection_frame s t _)) (finish_frame _ t _ _ _ _ _))
        (startHold_frame _ t)

theorem takeOccupied_frame (s : State) (t : TrackId) (c : PassContext) (ev : PairEvent) :
    Frame (passParts t) s (s.takeOccupied t c ev) := by
  unfold State.takeOccupied
  dsimp only
  split
  · split
    · split
      · exact .step (.one (takeSpeed_frame s t ev)) (countIn_frame _ t ev)
      · exact .trans (.one (takeSpeed_frame s t ev)) (forceOut_frame _ t _ _)
    · exact forceOut_frame s t _ _
  · split
    · exact .step (.one (takeSpeed_frame s t ev)) (countOut_frame _ t ev)
    · exact forceOut_frame s t _ _

theorem resume_frame (s : State) (t : TrackId) : Frame [.control t, .pacer t] s (s.resume t) :=
  .step (.one (enterOccupied_frame s t)) (startHold_frame _ t)

theorem lateCountOut_frame (s : State) (t : TrackId) (c : PassContext) (ev : PairEvent) :
    Frame [.control t] s (s.lateCountOut t c ev) := by
  unfold State.lateCountOut
  split
  · exact setCtx_frame s t _
  · exact .refl _ s

theorem takeClearing_frame (s : State) (t : TrackId) (c : PassContext) (ev : PairEvent) :
    Frame (passParts t) s (s.takeClearing t c ev) := by
  unfold State.takeClearing
  split
  · split
    · exact .step (.step (.step (.one (enterOccupied_frame s t)) (takeSpeed_frame _ t ev))
        (startHold_frame _ t)) (countIn_frame _ t ev)
    · exact .trans (.one (closePass_frame s t _)) (openPass_frame _ t ev)
  · exact .step (.one (lateCountOut_frame s t c ev)) (underflow_frame _ t)

theorem takeEvent_frame (s : State) (t : TrackId) (ev : PairEvent) :
    Frame (passParts t) s (s.takeEvent t ev) := by
  unfold State.takeEvent
  split
  · exact .refl _ s
  · exact .refl _ s
  · split
    · exact openPass_frame s t ev
    · exact .one (underflow_frame s t)
  · split
    · exact openPass_frame s t ev
    · exact .one (underflow_frame s t)
  · exact .one (setSection_frame s t _)
  · split
    · exact .refl _ s
    · exact takeClearing_frame s t _ ev
  · split
    · exact .refl _ s
    · exact .trans (.one (resume_frame s t)) (takeOccupied_frame _ t _ ev)
  · split
    · exact .refl _ s
    · exact takeOccupied_frame s t _ ev

theorem markExit_frame (s : State) (t : TrackId) (e : SectionEnd) (x : Edge) :
    Frame [.control t] s (s.markExit t e x) := by
  unfold State.markExit
  split
  · exact .refl _ s
  · split
    · exact setSection_frame s t _
    · exact .refl _ s

theorem sensorActivity_frame (s : State) (t : TrackId) (e : SectionEnd) (x : Edge) :
    Frame [.control t] s (s.sensorActivity t e x) := by
  unfold State.sensorActivity
  dsimp only
  split
  · exact .trans (markExit_frame s t e x) (setSection_frame _ t _)
  · exact markExit_frame s t e x

theorem abandonPass_frame (s : State) (t : TrackId) (reason : EndReason) :
    Frame (.control t :: .slot t :: vehicleParts t) s (s.abandonPass t reason) :=
  .trans (.one (abandonAll_frame s t)) (closePass_frame _ t reason)

theorem abortTrack_frame (s : State) (t : TrackId) : Frame (passParts t) s (s.abortTrack t) :=
  .step (.step (.step (.one (abandonPass_frame s t _)) (leaveIdle_frame _ t)) (drain_frame _ t _))
    (promoteSiteIfReady_frame _)

theorem takeIn_frame (s : State) (t : TrackId) : Frame (restParts t) s (s.takeIn t) :=
  enterIdle_frame s t false

theorem enterStanding_frame (s : State) (t : TrackId) (c : PassContext) :
    Frame [.control t, .pacer t] s (s.enterStanding t c) :=
  .step (.one (setSection_frame s t _)) (stopPacer_frame _ t)

/-! ### Sensor pairs -/

theorem markSuspect_frame (s : State) (t : TrackId) (e : SectionEnd) (x : Role) :
    Frame [.sensors t, .notices .a, .notices .b] s (s.markSuspect t e x) := by
  unfold State.markSuspect
  split
  · exact .refl _ s
  · exact .step (.one (setSensor_frame s t e x _)) (notify_frame _ _)

theorem singleCount_frame (s : State) (t : TrackId) (e : SectionEnd) (x : Role) (stamp : SiteTime) :
    Frame (edgeParts t) s (s.singleCount t e x stamp) := by
  unfold State.singleCount
  dsimp only
  split
  · exact .one (markSuspect_frame s t e _)
  · exact .step (.one (markSuspect_frame s t e _)) (takeEvent_frame _ t _)

theorem endWait_frame (s : State) (t : TrackId) (e : SectionEnd) (x : Role) (stamp : SiteTime) :
    Frame (edgeParts t) s (s.endWait t e x stamp) :=
  .trans (.one (setMachine_frame s t e _)) (singleCount_frame _ t e x stamp)

theorem expirePassed_frame (s : State) (t : TrackId) (e : SectionEnd) (stamp : SiteTime) :
    Frame (edgeParts t) s (s.expirePassed t e stamp) := by
  unfold State.expirePassed
  split
  · exact .refl _ s
  · split
    · exact endWait_frame s t e _ _
    · exact .refl _ s

theorem firstRise_frame (s : State) (t : TrackId) (e : SectionEnd) (x : Role) (stamp : SiteTime) :
    Frame (edgeParts t) s (s.firstRise t e x stamp) := by
  unfold State.firstRise
  split
  · exact singleCount_frame s t e x stamp
  · exact .one (setMachine_frame s t e _)

theorem restartWait_frame (s : State) (t : TrackId) (e : SectionEnd) (x : Role) (first stamp : SiteTime) :
    Frame (edgeParts t) s (s.restartWait t e x first stamp) := by
  unfold State.restartWait
  dsimp only
  split
  · exact .step (singleCount_frame s t e x first) (setMachine_frame _ t e _)
  · exact .one (setMachine_frame s t e _)

theorem offerRise_frame (s : State) (t : TrackId) (e : SectionEnd) (x : Role) (stamp : SiteTime) :
    Frame (edgeParts t) s (s.offerRise t e x stamp) := by
  unfold State.offerRise
  dsimp only
  split
  · exact .trans (expirePassed_frame s t e stamp) (firstRise_frame _ t e x stamp)
  · split
    · exact .trans (expirePassed_frame s t e stamp) (restartWait_frame _ t e x _ stamp)
    · exact .step (.step (expirePassed_frame s t e stamp) (setMachine_frame _ t e _))
        (takeEvent_frame _ t _)

theorem leaveHeld_frame (s : State) (t : TrackId) (e : SectionEnd) (x : Role) :
    Frame [.sensors t, .notices .a, .notices .b] s (s.leaveHeld t e x) :=
  .step (.one (setSensor_frame s t e x _)) (notify_frame _ _)

theorem takeEdge_frame (s : State) (t : TrackId) (e : SectionEnd) (x : Edge) :
    Frame (edgeParts t) s (s.takeEdge t e x) := by
  unfold State.takeEdge
  dsimp only
  split
  · split
    · exact .refl _ s
    · exact .one (leaveHeld_frame s t e _)
  · split
    · exact .trans (.step (.one (setSensor_frame s t e _ _)) (sensorActivity_frame _ t e x))
        (offerRise_frame _ t e _ _)
    · exact .step (.one (setSensor_frame s t e _ _)) (sensorActivity_frame _ t e x)

theorem release_frame (t : TrackId) (e : SectionEnd) (fuel : Nat) (s : State) :
    Frame (edgeParts t) s (State.release t e fuel s) := by
  induction fuel generalizing s with
  | zero => exact .refl _ s
  | succ k ih =>
    unfold State.release
    split
    · exact .refl _ s
    · split
      · exact .refl _ s
      · exact .trans (.trans (.one (setPair_frame s t e _)) (takeEdge_frame _ t e _)) (ih _)

theorem releaseAll_frame (s : State) (t : TrackId) (e : SectionEnd) :
    Frame (edgeParts t) s (s.releaseAll t e) := release_frame t e _ s

theorem confirmEdge_frame (s : State) (t : TrackId) (e : SectionEnd) (x : Role) (stamp : SiteTime) :
    Frame (edgeParts t) s (s.confirmEdge t e x stamp) := by
  unfold State.confirmEdge
  exact .trans (.step (.one (setSensor_frame s t e x _)) (setPair_frame _ t e _)) (releaseAll_frame _ t e)

theorem rawChange_frame (s : State) (t : TrackId) (e : SectionEnd) (x : Role) (level : Bool) :
    Frame (edgeParts t) s (s.rawChange t e x level) := by
  unfold State.rawChange
  dsimp only
  split
  · exact .trans (.one (setFilter_frame s t e x _)) (confirmEdge_frame _ t e x _)
  · exact .trans (.one (setFilter_frame s t e x _)) (releaseAll_frame _ t e)
  · exact .trans (.one (setFilter_frame s t e x _)) (releaseAll_frame _ t e)
  · exact .one (setFilter_frame s t e x _)

theorem takeRawChange_frame (s : State) (t : TrackId) (e : SectionEnd) (x : Role)
    (level : Bool) : Frame (edgeParts t) s (s.takeRawChange t e x level) := by
  unfold State.takeRawChange
  dsimp only
  split
  · exact (rawChange_frame s t e .outer _).trans (rawChange_frame _ t e x level)
  · exact rawChange_frame s t e x level

theorem confirmDue_frame (s : State) (t : TrackId) (e : SectionEnd) (x : Role) :
    Frame (edgeParts t) s (s.confirmDue t e x) := by
  unfold State.confirmDue
  split
  · exact .refl _ s
  · split
    · exact confirmEdge_frame s t e x _
    · exact .refl _ s

theorem changeCoinciding_frame (s : State) (t : TrackId) (f : Coinciding → Coinciding) :
    Frame [.control t] s (s.changeCoinciding t f) := by
  unfold State.changeCoinciding
  split
  · exact .refl _ s
  · exact setSection_frame s t _

theorem changeApproachBefore_frame (s : State) (t : TrackId) (e : SectionEnd)
    (g : InputFilter → InputFilter) : Frame [.control t] s (s.changeApproachBefore t e g) :=
  changeCoinciding_frame s t _

theorem keepCoinciding_frame (s : State) (t : TrackId) : Frame [.control t] s (s.keepCoinciding t) := by
  unfold State.keepCoinciding
  split
  · exact setSection_frame s t _
  · exact .refl _ s

theorem inputsBefore_frame (s : State) (t : TrackId) (x : Coinciding) :
    Frame [.sensors t, .pairs t, .area t] s (s.inputsBefore t x) := by
  intro y hy
  cases y <;>
    first | rfl | exact ⟨rfl, rfl⟩ | exact PerTrack.get_set_of_ne _ (by rintro rfl; exact hy (by simp)) _

theorem inputsOf_frame (s u : State) (t : TrackId) :
    Frame [.sensors t, .pairs t, .area t] s (s.inputsOf u t) := by
  intro y hy
  cases y <;>
    first | rfl | exact ⟨rfl, rfl⟩ | exact PerTrack.get_set_of_ne _ (by rintro rfl; exact hy (by simp)) _

/-- R187: an input taken as well by what a COMMIT has kept changes no more than the input does. -/
theorem orAsBefore_frame (s : State) (t : TrackId) (run : State → State)
    (h : ∀ u, Frame (edgeParts t) u (run u)) : Frame (edgeParts t) s (s.orAsBefore t run) := by
  unfold State.orAsBefore
  dsimp only
  split
  · exact h s
  · rename_i y _
    split
    · exact h s
    · split
      · intro x hx
        by_cases hr : x = .area t
        · subst hr
          exact (PerTrack.get_set _ _ _).trans (h s _ hx)
        · have hb : Frame (.area t :: edgeParts t) s ((run (s.inputsBefore t y)).inputsOf (run s) t) :=
            .step (.step (.one (inputsBefore_frame s t y)) (h _)) (inputsOf_frame _ _ t)
          exact hb x (by simp [hx, hr])
      · exact .step (h s) (changeCoinciding_frame _ t _)

theorem enterHeld_frame (s : State) (t : TrackId) (e : SectionEnd) (x : Role) :
    Frame [.sensors t, .notices .a, .notices .b] s (s.enterHeld t e x) :=
  .step (.one (setSensor_frame s t e x _)) (notify_frame _ _)

theorem partnerHeld_frame (s : State) (t : TrackId) (e : SectionEnd) (x : Role) :
    Frame (edgeParts t) s (s.partnerHeld t e x) := by
  unfold State.partnerHeld
  split
  · exact .refl _ s
  · split
    · exact endWait_frame s t e _ _
    · exact .refl _ s

/-! ### Samples -/

theorem creditPace_frame (s : State) (t : TrackId) (pass : Nat) (bays : BayAssignment) (channel : Nat)
    (sample : Int) : Frame [.control t] s (s.creditPace t pass bays channel sample) := by
  unfold State.creditPace
  split
  · exact .refl _ s
  · split
    · split
      · exact .refl _ s
      · exact updateEntry_frame s t _ _
    · exact .refl _ s

theorem takeZeroSample_frame (s : State) (t : TrackId) (channel : Nat) (sample : Int) :
    Frame (.zeros t :: .drifted t :: .notices .a :: .notices .b :: wakeParts t) s
      (s.takeZeroSample t channel sample) := by
  unfold State.takeZeroSample
  split
  · exact .refl _ s
  · split
    · exact .refl _ s
    · split
      · exact .one (wakeTrack_frame s t)
      · split
        · exact .refl _ s
        · exact .step (.one (setZero_frame s t _ _ _)) (checkDrift_frame _ t _ _)

theorem takeAmbient_frame (s : State) (sample : Int) : Frame [.ambient] s (s.takeAmbient sample) := by
  unfold State.takeAmbient
  split
  · exact .refl _ s
  · intro x hx
    cases x <;> first | rfl | exact ⟨rfl, rfl⟩ | exact absurd (by simp) hx

theorem takeSample_frame (s : State) (x : Scan) (sample : Int) :
    Frame (.ambient :: .zeros x.track :: .drifted x.track :: .notices .a :: .notices .b ::
      wakeParts x.track) s (s.takeSample x sample) := by
  unfold State.takeSample
  split
  · exact .one (takeAmbient_frame s sample)
  · split
    · exact .one (creditPace_frame s _ _ _ _ _)
    · split
      · exact .refl _ s
      · split
        · split
          · exact .one (wakeTrack_frame s _)
          · exact .refl _ s
        · exact .one (takeZeroSample_frame s _ _ _)

theorem endConversion_frame (s : State) (x : Scan) :
    Frame [.slot .t1, .slot .t2, .scan, .lastServed] s (s.endConversion x) := by
  unfold State.endConversion
  split
  · exact .step (.one (withScan_frame s _)) (arbitrate_frame _)
  · exact .one (withScan_frame s _)

end Sys2Proof.Machine
end

