-- ==== Sys2Proof/Laws/Notices.lean ====
section
/-! SUPPORT. What the sending of a notice can do to a queue (R165, R166). -/

namespace Sys2Proof.Machine

open Sys2Proof

/-- R166: what a notice arriving at a queue in order does: it joins the queue, makes an OVERFLOW as its 32nd
entry, or is counted in the OVERFLOW that is its newest. -/
theorem pushNotice_cases (n : Notice) (q : List Notice) :
    (newestIsOverflow q = false ∧ q.length < 31 ∧ pushNotice n q = q ++ [n]) ∨
    (newestIsOverflow q = false ∧ q.length = 31 ∧ pushNotice n q = q ++ [⟨.overflow 1, n.sentAt⟩]) ∨
    (newestIsOverflow q = false ∧ 31 < q.length ∧ pushNotice n q = q) ∨
    ∃ c t, q.getLast? = some ⟨.overflow c, t⟩ ∧ newestIsOverflow q = true ∧
      pushNotice n q = q.dropLast ++ [⟨.overflow (min (c + 1) 65535), t⟩] := by
  unfold pushNotice newestIsOverflow
  cases h : q.getLast? with
  | none =>
    have : q = [] := by simpa using h
    subst this; simp
  | some m =>
    obtain ⟨b, t⟩ := m
    cases b with
    | overflow c => exact .inr (.inr (.inr ⟨c, t, rfl, rfl, rfl⟩))
    | _ =>
      simp only [Notice.isOverflow]
      rcases Nat.lt_trichotomy q.length 31 with hl | hl | hl
      · exact .inl ⟨trivial, hl, by simp [hl]⟩
      · exact .inr (.inl ⟨trivial, hl, by simp [hl]⟩)
      · exact .inr (.inr (.inl ⟨trivial, hl, by simp [Nat.not_lt.mpr (Nat.le_of_lt hl), Nat.ne_of_gt hl]⟩))

/-- The entries before the newest of a queue in order are no OVERFLOW, and with the newest none too, none is. -/
theorem all_plain_of_newest {q : List Notice} (h : q.dropLast.all (fun n => !n.isOverflow) = true)
    (hn : newestIsOverflow q = false) : q.all (fun n => !n.isOverflow) = true := by
  revert h hn
  rcases List.eq_nil_or_concat q with rfl | ⟨l, x, rfl⟩
  · intro _ _; rfl
  · intro h hn
    have hx : x.isOverflow = false := by simpa [newestIsOverflow] using hn
    simpa [hx] using h

/-- R166: a queue in order stays in order. -/
theorem pushNotice_ok (n : Notice) {q : List Notice} (h : queueOk q = true) :
    queueOk (pushNotice n q) = true := by
  simp only [queueOk, Bool.and_eq_true, decide_eq_true_eq, Bool.or_eq_true] at h ⊢
  obtain ⟨⟨hlen, hall⟩, hlast⟩ := h
  rcases pushNotice_cases n q with ⟨ho, hl, e⟩ | ⟨ho, hl, e⟩ | ⟨ho, hl, e⟩ | ⟨c, t, hg, ho, e⟩
  · rw [e]; refine ⟨⟨by simp; omega, ?_⟩, .inl (by simp; omega)⟩
    simpa using all_plain_of_newest hall ho
  · rw [e]; refine ⟨⟨by simp; omega, ?_⟩, .inr (by simp [newestIsOverflow, Notice.isOverflow])⟩
    simpa using all_plain_of_newest hall ho
  · rcases hlast with h1 | h1
    · omega
    · rw [ho] at h1; cases h1
  · have hne : q ≠ [] := by rintro rfl; simp at hg
    have hpos := List.length_pos_iff.mpr hne
    rw [e]
    refine ⟨⟨by simp; omega, by simpa using hall⟩,
      .inr (by simp [newestIsOverflow, Notice.isOverflow])⟩

/-- R165, R166: a port in order stays in order when it is sent a notice. -/
theorem receive_ok {p : StationPort} (n : Notice)
    (h : p.noticesOk = true) : (p.receive n).noticesOk = true := by
  unfold StationPort.receive
  split
  · rename_i ha
    simp [StationPort.noticesOk, ha] at h ⊢
    exact pushNotice_ok n h
  · exact h

/-- R136: a port in order stays in order when it is sent PASS_DROPPED or is passed over. -/
theorem dropNotice_ok {p : StationPort} (n : Notice) (holds : Bool)
    (h : p.noticesOk = true) : (p.dropNotice holds n).noticesOk = true := by
  unfold StationPort.dropNotice
  split
  · exact receive_ok n h
  · exact h

theorem notify_ok {s : State} (b : NoticeBody) (h : s.noticesOk = true) :
    (s.notify b).noticesOk = true := by
  simp only [State.noticesOk, Bool.and_eq_true] at h ⊢
  exact ⟨receive_ok _ h.1, receive_ok _ h.2⟩

end Sys2Proof.Machine
end

