-- ==== Sys2Proof/Laws/Alarms.lean ====
section
/-! SUPPORT. What offering, raising, acknowledging and driving can do (R144, R145, R149, R153). -/

namespace Sys2Proof.Machine

open Sys2Proof

/-- R145: what an offer does: with room the record is appended; with the list full the first acknowledged
record goes and the new one is appended, or, where none is acknowledged, the record is refused. -/
theorem offer_cases (l : List AlarmRecord) (r : AlarmRecord) :
    (l.length < 256 ∧ offer l r = (l ++ [r], true)) ∨
    (256 ≤ l.length ∧ ∃ before x after, l = before ++ x :: after ∧ x.acknowledged.isSome = true ∧
      (∀ y ∈ before, y.acknowledged = none) ∧ offer l r = (before ++ after ++ [r], true)) ∨
    (256 ≤ l.length ∧ (∀ x ∈ l, x.acknowledged = none) ∧ offer l r = (l, false)) := by
  unfold offer alarmCapacity
  split
  · rename_i h; exact .inl ⟨h, rfl⟩
  · rename_i h
    have hl : 256 ≤ l.length := Nat.le_of_not_lt h
    split
    · rename_i i hi
      obtain ⟨hlt, hx, hb⟩ := List.findIdx?_eq_some_iff_getElem.mp hi
      refine .inr (.inl ⟨hl, l.take i, l[i], l.drop (i + 1), ?_, hx, ?_, ?_⟩)
      · simp
      · intro y hy
        obtain ⟨k, hk, rfl⟩ := List.mem_take_iff_getElem.mp hy
        have := hb k (by omega)
        simpa using this
      · rw [List.eraseIdx_eq_take_drop_succ]
    · rename_i hi
      refine .inr (.inr ⟨hl, ?_, rfl⟩)
      simpa [List.findIdx?_eq_none_iff] using hi

/-- R145: an offer is stored exactly where the list is not exhausted. -/
theorem offer_stored (l : List AlarmRecord) (r : AlarmRecord) : (offer l r).2 = !listExhausted l := by
  unfold listExhausted alarmCapacity
  rcases offer_cases l r with ⟨h, e⟩ | ⟨_, before, y, after, rfl, hy, _, e⟩ | ⟨h, ha, e⟩ <;> rw [e]
  · simp [h]
  · simp [hy]
  · simpa [h] using ha

/-- R145: an offer keeps every unacknowledged record. -/
theorem mem_offer {l : List AlarmRecord} {r x : AlarmRecord} (hx : x ∈ l)
    (ha : x.acknowledged = none) : x ∈ (offer l r).1 := by
  rcases offer_cases l r with ⟨_, e⟩ | ⟨_, before, y, after, rfl, hy, _, e⟩ | ⟨_, _, e⟩ <;> rw [e]
  · simp [hx]
  · simp only [List.mem_append, List.mem_cons] at hx ⊢
    rcases hx with h | rfl | h
    · exact .inl (.inl h)
    · simp [ha] at hy
    · exact .inl (.inr h)
  · exact hx

/-- R145: a stored record is in the list. -/
theorem mem_offer_self {l : List AlarmRecord} {r : AlarmRecord} (h : (offer l r).2 = true) :
    r ∈ (offer l r).1 := by
  rcases offer_cases l r with ⟨_, e⟩ | ⟨_, _, _, _, _, _, _, e⟩ | ⟨_, _, e⟩ <;> rw [e] at h ⊢ <;> simp_all

/-- R149: driving lines changes the lines and nothing else of the alarm unit. -/
theorem driveLines_only_lines (u : AlarmUnit) (site : SiteArea) (now : SiteTime)
    (targets : List (Fin 8 × LineMode)) (h : Option Holder) (o : Bool) :
    ∃ ls, u.driveLines site now targets h o = { u with lines := ls } := by
  unfold AlarmUnit.driveLines
  generalize eight = is
  induction is generalizing u with
  | nil => exact ⟨u.lines, rfl⟩
  | cons i rest ih =>
    obtain ⟨ls, e⟩ := ih (u.setLine i ((u.line i).drive (reached targets i .latch)
      (reached targets i .pulse) (reached targets i .follow) h o now (site.pulseTime i)))
    exact ⟨ls, e⟩

theorem driveLines_list (u : AlarmUnit) (site : SiteArea) (now : SiteTime)
    (targets : List (Fin 8 × LineMode)) (h : Option Holder) (o : Bool) :
    (u.driveLines site now targets h o).list = u.list := by
  obtain ⟨_, e⟩ := driveLines_only_lines u site now targets h o; rw [e]

theorem driveLines_listFull (u : AlarmUnit) (site : SiteArea) (now : SiteTime)
    (targets : List (Fin 8 × LineMode)) (h : Option Holder) (o : Bool) :
    (u.driveLines site now targets h o).listFull = u.listFull := by
  obtain ⟨_, e⟩ := driveLines_only_lines u site now targets h o; rw [e]

theorem driveLines_next (u : AlarmUnit) (site : SiteArea) (now : SiteTime)
    (targets : List (Fin 8 × LineMode)) (h : Option Holder) (o : Bool) :
    (u.driveLines site now targets h o).next = u.next := by
  obtain ⟨_, e⟩ := driveLines_only_lines u site now targets h o; rw [e]

/-- The record an alarm becomes where it is numbered (R144, R146). -/
def State.recordOf (s : State) (a : Alarm) : AlarmRecord :=
  ⟨s.alarms.next, a, s.siteTime, s.stationTime,
    eight.filter fun i => reached (s.siteArea.routes a) i .latch, none⟩

/-- R144, R145: what raising an alarm does to the list: nothing once the numbers are used up, else the
record is offered and the next number goes up by one. -/
theorem raise_alarms (s : State) (a : Alarm) :
    (¬s.alarms.next < 4294967295 ∧ (s.raise a).alarms.list = s.alarms.list ∧
      (s.raise a).alarms.next = s.alarms.next) ∨
    (s.alarms.next < 4294967295 ∧ (s.raise a).alarms.list = (offer s.alarms.list (s.recordOf a)).1 ∧
      (s.raise a).alarms.next = s.alarms.next + 1) := by
  by_cases h : s.alarms.next < 4294967295
  · have e : s.alarms.takeNumber = some s.alarms.next := if_pos h
    refine .inr ⟨h, ?_, ?_⟩ <;>
      simp [State.raise, e, driveLines_list, driveLines_next, State.recordOf]
  · have e : s.alarms.takeNumber = none := if_neg h
    refine .inl ⟨h, ?_, ?_⟩ <;> simp [State.raise, e, driveLines_list, driveLines_next]

/-- R145: raising an alarm sets LIST_FULL exactly where the list is exhausted, also by an alarm that no number
is left for (log 19). -/
theorem raise_listFull (s : State) (a : Alarm) :
    (s.raise a).alarms.listFull = (s.alarms.listFull || listExhausted s.alarms.list) := by
  unfold State.raise
  dsimp only
  split <;> simp [driveLines_listFull, offer_stored]

/-- R144: what raising an alarm does to the store: the alarm count of its pass's header goes up. -/
theorem raise_store (s : State) (a : Alarm) :
    (s.raise a).store = s.store.updateOfTrack a.track a.pass fun p => { p with alarmCount := p.alarmCount + 1 } := by
  unfold State.raise
  dsimp only
  split <;> rfl

/-- R145: raising an alarm keeps every unacknowledged record. -/
theorem mem_raise {s : State} {a : Alarm} {x : AlarmRecord} (hx : x ∈ s.alarms.list)
    (ha : x.acknowledged = none) : x ∈ (s.raise a).alarms.list := by
  rcases raise_alarms s a with ⟨_, e, _⟩ | ⟨_, e, _⟩ <;> rw [e]
  · exact hx
  · exact mem_offer hx ha

theorem AlarmUnit.listOk_iff (u : AlarmUnit) : u.listOk = true ↔
    u.list.length ≤ 256 ∧ (u.list.map fun r => r.number).Pairwise (· < ·) ∧
      (∀ r ∈ u.list, r.number < u.next) ∧ 1 ≤ u.next ∧ u.next ≤ 4294967295 := by
  simp only [AlarmUnit.listOk, Bool.and_eq_true, decide_eq_true_eq, List.all_eq_true]
  tauto

/-- R145: a list in order stays in order when a record with the next number is offered. -/
theorem offer_sorted {l : List AlarmRecord} {r : AlarmRecord}
    (hlen : l.length ≤ 256) (hs : (l.map fun r => r.number).Pairwise (· < ·))
    (hb : ∀ x ∈ l, x.number < r.number) :
    (offer l r).1.length ≤ 256 ∧ ((offer l r).1.map fun r => r.number).Pairwise (· < ·) ∧
      ∀ x ∈ (offer l r).1, x.number ≤ r.number := by
  rcases offer_cases l r with ⟨h, e⟩ | ⟨_, before, y, after, rfl, _, _, e⟩ | ⟨_, _, e⟩ <;> rw [e]
  · refine ⟨by simp; omega, ?_, ?_⟩
    · simp only [List.map_append, List.map_cons, List.map_nil, List.pairwise_append]
      refine ⟨hs, by simp, ?_⟩
      intro n hn m hm
      obtain ⟨x, hx, rfl⟩ := List.mem_map.mp hn
      simp at hm; subst hm; exact hb x hx
    · intro x hx
      rcases List.mem_append.mp hx with h | h
      · exact Nat.le_of_lt (hb x h)
      · simp at h; simp [h]
  · have hsub : (before ++ after).Sublist (before ++ y :: after) := by simp
    have hs2 := hs.sublist (hsub.map _)
    refine ⟨by simp at hlen ⊢; omega, ?_, ?_⟩
    · rw [List.map_append]
      refine List.pairwise_append.mpr ⟨hs2, by simp, ?_⟩
      intro n hn m hm
      obtain ⟨x, hx, rfl⟩ := List.mem_map.mp hn
      simp at hm; subst hm; exact hb x (hsub.subset hx)
    · intro x hx
      rcases List.mem_append.mp hx with h | h
      · exact Nat.le_of_lt (hb x (hsub.subset h))
      · simp at h; simp [h]
  · exact ⟨hlen, hs, fun x hx => Nat.le_of_lt (hb x hx)⟩

/-- R143 to R145: raising an alarm keeps the alarm list in order. -/
theorem raise_listOk {s : State} (a : Alarm) (h : s.alarms.listOk = true) :
    (s.raise a).alarms.listOk = true := by
  rw [AlarmUnit.listOk_iff] at h ⊢
  obtain ⟨hlen, hs, hb, h1, h2⟩ := h
  rcases raise_alarms s a with ⟨_, e, n⟩ | ⟨hn, e, n⟩ <;> rw [e, n]
  · exact ⟨hlen, hs, hb, h1, h2⟩
  · obtain ⟨k1, k2, k3⟩ := offer_sorted (r := s.recordOf a) hlen hs hb
    exact ⟨k1, k2, fun x hx => Nat.lt_succ_of_le (k3 x hx), by omega, by omega⟩

/-- R153: an acknowledgement changes no number. -/
theorem acknowledge_numbers (l : List AlarmRecord) (n : Nat) (p : Port) :
    (acknowledge l n p).map (fun r => r.number) = l.map fun r => r.number := by
  unfold acknowledge
  rw [List.map_map]
  congr 1
  funext r
  simp only [Function.comp]
  split <;> rfl

end Sys2Proof.Machine
end

