-- ==== Sys2Proof/Laws/Store.lean ====
section
/-! SUPPORT. What the pass store's operations can do to its list and its pools (R127, R129 to R132, R136). -/

namespace Sys2Proof.Machine

open Sys2Proof

theorem PassStore.poolsOk_iff (st : PassStore) : st.poolsOk = true ↔
    st.passes.length ≤ 16 ∧ (st.passes.map fun p => p.number).Pairwise (· ≠ ·) ∧
      st.freeAxleChunks + (st.passes.map fun p => p.axleChunks).sum = 64 ∧
      st.freeVehicleChunks + (st.passes.map fun p => p.vehicleChunks).sum = 64 ∧
      1 ≤ st.nextPass ∧ st.nextPass ≤ 65534 := by
  simp only [PassStore.poolsOk, Bool.and_eq_true, decide_eq_true_eq]
  tauto

/-! ### Finding passes -/

theorem PassStore.find_some {st : PassStore} {n : Nat} {p : HeldPass} (h : st.find n = some p) :
    p ∈ st.passes ∧ p.number = n := by
  unfold PassStore.find at h
  exact ⟨List.mem_of_find?_eq_some h, by simpa using List.find?_some h⟩

theorem PassStore.find_none {st : PassStore} {n : Nat} :
    st.find n = none ↔ ∀ p ∈ st.passes, p.number ≠ n := by
  unfold PassStore.find
  simp [List.find?_eq_none]

theorem PassStore.ofTrack_some {st : PassStore} {t : TrackId} {n : Nat} {p : HeldPass}
    (h : st.ofTrack t n = some p) : p ∈ st.passes ∧ p.number = n ∧ p.track = t := by
  unfold PassStore.ofTrack at h
  refine ⟨List.mem_of_find?_eq_some h, ?_⟩
  simpa using List.find?_some h

theorem PassStore.ofTrack_none {st : PassStore} {t : TrackId} {n : Nat} :
    st.ofTrack t n = none ↔ ∀ p ∈ st.passes, p.number = n → p.track ≠ t := by
  unfold PassStore.ofTrack
  simp [List.find?_eq_none]

/-- A held pass of a number and track, its number held once, is the one found by them. -/
theorem PassStore.ofTrack_of_find {st : PassStore} {t : TrackId} {n : Nat} {p : HeldPass}
    (h : st.find n = some p) (ht : p.track = t)
    (hd : (st.passes.map fun p => p.number).Pairwise (· ≠ ·)) : st.ofTrack t n = some p := by
  obtain ⟨hm, hn⟩ := find_some h
  unfold PassStore.ofTrack
  unfold PassStore.find at h
  generalize st.passes = l at h hm hd ⊢
  induction l with
  | nil => cases hm
  | cons q rest ih =>
    simp only [List.map_cons, List.pairwise_cons] at hd
    by_cases hq : q.number = n
    · rw [List.find?_cons_of_pos (by simpa using hq)] at h
      obtain rfl := Option.some.inj h
      exact List.find?_cons_of_pos (by simp [hq, ht])
    · rw [List.find?_cons_of_neg (by simpa using hq)] at h
      rw [List.find?_cons_of_neg (by simp [hq])]
      refine ih h ?_ hd.2
      rcases List.mem_cons.mp hm with rfl | hm
      · exact absurd hn hq
      · exact hm

/-- A change of the pass of one number and track that keeps numbers is seen by finding it. -/
theorem PassStore.find_update {st : PassStore} {f : HeldPass → HeldPass}
    (hf : ∀ p, (f p).number = p.number) (t : TrackId) (n m : Nat) :
    (st.updateOfTrack t n f).find m =
      (st.find m).map fun p => if p.number = n ∧ p.track = t then f p else p := by
  unfold PassStore.find PassStore.updateOfTrack
  dsimp only
  rw [List.find?_map]
  congr 2
  funext p
  simp only [Function.comp]
  split <;> simp [hf]

/-! ### Reclaiming -/

theorem PassStore.pick_some {st : PassStore} {p : HeldPass} {tier2 : Bool}
    (h : st.pick = some (p, tier2)) : p ∈ st.passes ∧ p.state = .closed := by
  unfold PassStore.pick at h
  split at h
  · rename_i q hq
    simp only [Option.some.injEq, Prod.mk.injEq] at h
    obtain ⟨rfl, _⟩ := h
    refine ⟨List.mem_of_find?_eq_some hq, ?_⟩
    have := List.find?_some hq
    simp [HeldPass.fullyReleased] at this
    exact this.1.1
  · split at h
    · rename_i q hq
      simp only [Option.some.injEq, Prod.mk.injEq] at h
      obtain ⟨rfl, _⟩ := h
      refine ⟨List.mem_of_find?_eq_some hq, ?_⟩
      have := List.find?_some hq
      simp [HeldPass.partlyReleased] at this
      exact this.1.1
    · cases h

/-- What a pass of distinct number holds is what its removal takes from the sum. -/
theorem sum_filter_drop {l : List HeldPass} {p : HeldPass} (g : HeldPass → Nat) (hp : p ∈ l)
    (hd : (l.map fun p => p.number).Pairwise (· ≠ ·)) :
    ((l.filter fun x => decide (x.number ≠ p.number)).map g).sum + g p = (l.map g).sum := by
  induction l with
  | nil => cases hp
  | cons q rest ih =>
    simp only [List.map_cons, List.pairwise_cons, List.sum_cons] at hd ⊢
    rcases List.mem_cons.mp hp with rfl | h
    · have hr : rest.filter (fun x => decide (x.number ≠ p.number)) = rest :=
        List.filter_eq_self.mpr fun x hx =>
          decide_eq_true fun e => hd.1 x.number (List.mem_map_of_mem hx) e.symm
      rw [List.filter_cons_of_neg (by simp), hr]
      omega
    · have hq : q.number ≠ p.number := hd.1 p.number (List.mem_map_of_mem h)
      have := ih h hd.2
      rw [List.filter_cons_of_pos (by simpa using hq)]
      simp only [List.map_cons, List.sum_cons]
      omega

/-- R136: a reclaimed pass's slot and chunks become free. -/
theorem PassStore.drop_poolsOk {st : PassStore} {p : HeldPass} (hp : p ∈ st.passes)
    (h : st.poolsOk = true) : (st.drop p).poolsOk = true := by
  rw [PassStore.poolsOk_iff] at h ⊢
  obtain ⟨h1, h2, h3, h4, h5, h6⟩ := h
  have k3 := sum_filter_drop (fun x => x.axleChunks) hp h2
  have k4 := sum_filter_drop (fun x => x.vehicleChunks) hp h2
  refine ⟨(List.length_filter_le _ _).trans h1, h2.sublist (List.filter_sublist.map _), ?_, ?_, h5, h6⟩
  · dsimp only [PassStore.drop] at k3 ⊢; omega
  · dsimp only [PassStore.drop] at k4 ⊢; omega

theorem reclaimUntil_poolsOk (room : PassStore → Bool) (fuel : Nat) {s : State}
    (h : s.store.poolsOk = true) : (State.reclaimUntil room fuel s).store.poolsOk = true := by
  induction fuel generalizing s with
  | zero => exact h
  | succ k ih =>
    unfold State.reclaimUntil
    split
    · exact h
    · split
      · exact h
      · rename_i p tier2 hp
        exact ih (PassStore.drop_poolsOk (PassStore.pick_some hp).1 h)

/-- R136: a reclaim leaves the notice queues in order. -/
theorem reclaim_noticesOk (s : State) (p : HeldPass) (tier2 : Bool) (h : s.noticesOk = true) :
    (s.reclaim p tier2).noticesOk = true := by
  simp only [State.noticesOk, Bool.and_eq_true] at h ⊢
  exact ⟨dropNotice_ok _ _ h.1, dropNotice_ok _ _ h.2⟩

theorem reclaimUntil_noticesOk (room : PassStore → Bool) (fuel : Nat) {s : State}
    (h : s.noticesOk = true) : (State.reclaimUntil room fuel s).noticesOk = true := by
  induction fuel generalizing s with
  | zero => exact h
  | succ k ih =>
    unfold State.reclaimUntil
    split
    · exact h
    · split
      · exact h
      · exact ih (reclaim_noticesOk _ _ _ h)

/-- Reclaiming only removes passes. -/
theorem reclaimUntil_subset (room : PassStore → Bool) (fuel : Nat) (s : State) :
    (State.reclaimUntil room fuel s).store.passes ⊆ s.store.passes := by
  induction fuel generalizing s with
  | zero => exact fun _ h => h
  | succ k ih =>
    unfold State.reclaimUntil
    split
    · exact fun _ h => h
    · split
      · exact fun _ h => h
      · exact fun x hx => List.mem_of_mem_filter (ih _ hx)

/-- A pass that is not closed, nor shares its number with one that is, is not reclaimed. -/
theorem reclaimUntil_keeps (room : PassStore → Bool) (fuel : Nat) {s : State} {n : Nat}
    (hn : ∀ p ∈ s.store.passes, p.number = n → p.state ≠ .closed) :
    (State.reclaimUntil room fuel s).store.find n = s.store.find n := by
  induction fuel generalizing s with
  | zero => rfl
  | succ k ih =>
    unfold State.reclaimUntil
    split
    · rfl
    · split
      · rfl
      · rename_i p tier2 hp
        obtain ⟨hm, hc⟩ := PassStore.pick_some hp
        have hne : n ≠ p.number := fun e => hn p hm e.symm hc
        rw [ih (fun q hq hqn => hn q (List.mem_of_mem_filter hq) hqn)]
        show List.find? _ (List.filter _ _) = List.find? _ _
        rw [List.find?_filter]
        congr 1
        funext q
        by_cases hq : q.number = n
        · simp [hq, hne]
        · simp [hq]

/-! ### Changes of passes -/

/-- A change that keeps the numbers and the chunks of passes keeps the pools in order. -/
theorem PassStore.map_poolsOk {st : PassStore} {f : HeldPass → HeldPass}
    (h1 : ∀ p, (f p).number = p.number) (h2 : ∀ p, (f p).axleChunks = p.axleChunks)
    (h3 : ∀ p, (f p).vehicleChunks = p.vehicleChunks) (h : st.poolsOk = true) :
    { st with passes := st.passes.map f }.poolsOk = true := by
  rw [PassStore.poolsOk_iff] at h ⊢
  simp only [List.length_map, List.map_map, Function.comp_def, h1, h2, h3]
  exact h

theorem PassStore.updateOfTrack_poolsOk {st : PassStore} {t : TrackId} {n : Nat} {f : HeldPass → HeldPass}
    (h1 : ∀ p, (f p).number = p.number) (h2 : ∀ p, (f p).axleChunks = p.axleChunks)
    (h3 : ∀ p, (f p).vehicleChunks = p.vehicleChunks) (h : st.poolsOk = true) :
    (st.updateOfTrack t n f).poolsOk = true :=
  map_poolsOk (f := fun p => if p.number = n ∧ p.track = t then f p else p)
    (fun p => by split <;> simp [h1]) (fun p => by split <;> simp [h2])
    (fun p => by split <;> simp [h3]) h

/-- One more of something for a held pass is one more in the sum. -/
theorem sum_updateOfTrack {st : PassStore} {t : TrackId} {n : Nat} (g : HeldPass → Nat)
    (f : HeldPass → HeldPass) (hf : ∀ p, g (f p) = g p + 1)
    (hd : (st.passes.map fun p => p.number).Pairwise (· ≠ ·)) (held : (st.ofTrack t n).isSome = true) :
    ((st.updateOfTrack t n f).passes.map g).sum = (st.passes.map g).sum + 1 := by
  obtain ⟨p, hp⟩ := Option.isSome_iff_exists.mp held
  obtain ⟨hm, hn, ht⟩ := PassStore.ofTrack_some hp
  simp only [PassStore.updateOfTrack]
  generalize st.passes = l at hm hd
  clear hp held
  induction l with
  | nil => cases hm
  | cons q rest ih =>
    simp only [List.map_cons, List.pairwise_cons, List.sum_cons] at hd ⊢
    rcases List.mem_cons.mp hm with rfl | h
    · have hr : (rest.map fun x => if x.number = n ∧ x.track = t then f x else x) = rest := by
        conv_rhs => rw [← List.map_id rest]
        apply List.map_congr_left
        intro x hx
        have := hd.1 x.number (List.mem_map_of_mem hx)
        rw [if_neg (fun e => this (hn.trans e.1.symm))]
        rfl
      rw [hr, if_pos ⟨hn, ht⟩, hf]
      omega
    · have hq : q.number ≠ n := fun e => hd.1 p.number (List.mem_map_of_mem h) (e.trans hn.symm)
      rw [if_neg (fun e => hq e.1), ih h hd.2]
      omega

theorem map_updateOfTrack {α : Type} (st : PassStore) (t : TrackId) (n : Nat) (g : HeldPass → α)
    (f : HeldPass → HeldPass) (hf : ∀ p, g (f p) = g p) :
    (st.updateOfTrack t n f).passes.map g = st.passes.map g := by
  simp only [PassStore.updateOfTrack, List.map_map]
  congr 1
  funext p
  simp only [Function.comp]
  split <;> simp [hf]

/-- R130: a free axle chunk given to a held pass. -/
theorem takeAxleChunk_poolsOk {s : State} (t : TrackId) (n : Nat) (hfree : 0 < s.store.freeAxleChunks)
    (held : (s.store.ofTrack t n).isSome = true) (h : s.store.poolsOk = true) :
    (s.takeAxleChunk t n).store.poolsOk = true := by
  rw [PassStore.poolsOk_iff] at h ⊢
  obtain ⟨h1, h2, h3, h4, h5, h6⟩ := h
  have e1 : (s.takeAxleChunk t n).store.passes.map (fun p => p.number) =
      s.store.passes.map fun p => p.number := map_updateOfTrack _ t n _ _ fun _ => rfl
  have e2 : ((s.takeAxleChunk t n).store.passes.map fun p => p.axleChunks).sum =
      (s.store.passes.map fun p => p.axleChunks).sum + 1 :=
    sum_updateOfTrack _ _ (fun _ => rfl) h2 held
  have e3 : (s.takeAxleChunk t n).store.passes.map (fun p => p.vehicleChunks) =
      s.store.passes.map fun p => p.vehicleChunks := map_updateOfTrack _ t n _ _ fun _ => rfl
  have e4 : (s.takeAxleChunk t n).store.freeAxleChunks = s.store.freeAxleChunks - 1 := rfl
  exact ⟨by simpa [State.takeAxleChunk, PassStore.updateOfTrack] using h1, by rw [e1]; exact h2, by omega, by rw [e3]; exact h4, h5, h6⟩

/-- R132: a free vehicle chunk given to a held pass. -/
theorem takeVehicleChunk_poolsOk {s : State} (t : TrackId) (n : Nat) (hfree : 0 < s.store.freeVehicleChunks)
    (held : (s.store.ofTrack t n).isSome = true) (h : s.store.poolsOk = true) :
    (s.takeVehicleChunk t n).store.poolsOk = true := by
  rw [PassStore.poolsOk_iff] at h ⊢
  obtain ⟨h1, h2, h3, h4, h5, h6⟩ := h
  have e1 : (s.takeVehicleChunk t n).store.passes.map (fun p => p.number) =
      s.store.passes.map fun p => p.number := map_updateOfTrack _ t n _ _ fun _ => rfl
  have e2 : ((s.takeVehicleChunk t n).store.passes.map fun p => p.vehicleChunks).sum =
      (s.store.passes.map fun p => p.vehicleChunks).sum + 1 :=
    sum_updateOfTrack _ _ (fun _ => rfl) h2 held
  have e3 : (s.takeVehicleChunk t n).store.passes.map (fun p => p.axleChunks) =
      s.store.passes.map fun p => p.axleChunks := map_updateOfTrack _ t n _ _ fun _ => rfl
  have e4 : (s.takeVehicleChunk t n).store.freeVehicleChunks = s.store.freeVehicleChunks - 1 := rfl
  exact ⟨by simpa [State.takeVehicleChunk, PassStore.updateOfTrack] using h1, by rw [e1]; exact h2, by rw [e3]; exact h3, by omega, h5, h6⟩

/-! ### Headers and numbers -/

theorem nextPassNumber_range {n : Nat} (h : 1 ≤ n) : 1 ≤ nextPassNumber n ∧ nextPassNumber n ≤ 65534 := by
  unfold nextPassNumber; split <;> omega

theorem freeNumber_range (st : PassStore) (fuel : Nat) {n : Nat} (h1 : 1 ≤ n) (h2 : n ≤ 65534) :
    1 ≤ st.freeNumber fuel n ∧ st.freeNumber fuel n ≤ 65534 := by
  induction fuel generalizing n with
  | zero => exact ⟨h1, h2⟩
  | succ k ih =>
    unfold PassStore.freeNumber
    split
    · exact ih (nextPassNumber_range h1).1 (nextPassNumber_range h1).2
    · exact ⟨h1, h2⟩

/-- R26: the number of places from one pass number to a later one, in the order they are given. -/
theorem freeNumber_free (st : PassStore) (fuel : Nat) {n : Nat} (h1 : 1 ≤ n) (h2 : n ≤ 65534)
    (used : List Nat) (hu : used.Nodup) (hin : ∀ x ∈ used, ∃ p ∈ st.passes, p.number = x)
    (hfar : ∀ k ≤ fuel, (n - 1 + k) % 65534 + 1 ∉ used)
    (hlen : st.passes.length ≤ fuel + used.length) (hfuel : fuel < 65534) :
    st.find (st.freeNumber fuel n) = none := by
  induction fuel generalizing n used with
  | zero =>
    rw [PassStore.freeNumber, PassStore.find_none]
    intro p hp e
    have hn : n ∉ used := by
      have := hfar 0 (Nat.le_refl 0)
      rwa [Nat.add_zero, Nat.mod_eq_of_lt (by omega), Nat.sub_add_cancel h1] at this
    have hsub : (n :: used) ⊆ st.passes.map fun p => p.number := by
      intro x hx
      rcases List.mem_cons.mp hx with rfl | hx
      · exact List.mem_map.mpr ⟨p, hp, e⟩
      · exact List.mem_map.mpr (hin x hx)
    have := (List.subperm_of_subset (List.nodup_cons.mpr ⟨hn, hu⟩) hsub).length_le
    simp at this
    omega
  | succ k ih =>
    unfold PassStore.freeNumber
    split
    · rename_i hf
      obtain ⟨p, hp⟩ := Option.isSome_iff_exists.mp hf
      obtain ⟨hm, he⟩ := PassStore.find_some hp
      have hn : n ∉ used := by
        have := hfar 0 (Nat.zero_le _)
        rwa [Nat.add_zero, Nat.mod_eq_of_lt (by omega), Nat.sub_add_cancel h1] at this
      have hstep : ∀ j, (nextPassNumber n - 1 + j) % 65534 = (n - 1 + (j + 1)) % 65534 := by
        intro j
        unfold nextPassNumber
        split <;> omega
      refine ih (nextPassNumber_range h1).1 (nextPassNumber_range h1).2 (n :: used)
        (List.nodup_cons.mpr ⟨hn, hu⟩) ?_ ?_ (by simp; omega) (by omega)
      · intro x hx
        rcases List.mem_cons.mp hx with rfl | hx
        · exact ⟨p, hm, he⟩
        · exact hin x hx
      · intro j hj hmem
        rw [hstep] at hmem
        rcases List.mem_cons.mp hmem with e | hmem
        · omega
        · exact hfar (j + 1) (by omega) hmem
    · rename_i hf
      simpa using hf

/-- R26: the number a pass takes is one no held pass has, and lies from 1 to 65,534. -/
theorem takeNumber_free {st : PassStore} (h : st.poolsOk = true) :
    st.find st.takeNumber = none ∧ 1 ≤ st.takeNumber ∧ st.takeNumber ≤ 65534 := by
  rw [PassStore.poolsOk_iff] at h
  obtain ⟨h1, _, _, _, h5, h6⟩ := h
  exact ⟨freeNumber_free st _ h5 h6 [] (by simp) (by simp) (by simp) (by simp) (by omega),
    freeNumber_range st _ h5 h6⟩

/-- R129: a header request for a pass of a number no held pass has, without chunks. -/
theorem requestHeader_poolsOk {s : State} {p : HeldPass} (hn : s.store.find p.number = none)
    (h1 : p.axleChunks = 0) (h2 : p.vehicleChunks = 0) (h : s.store.poolsOk = true) :
    (s.requestHeader p).1.store.poolsOk = true := by
  have hr : (s.makeRoom hasSlot).store.poolsOk = true := reclaimUntil_poolsOk _ _ h
  unfold State.requestHeader
  dsimp only
  split
  · rename_i hs
    have hs : (s.makeRoom hasSlot).store.passes.length < 16 := of_decide_eq_true hs
    have hfresh : ∀ q ∈ (s.makeRoom hasSlot).store.passes, q.number ≠ p.number := fun q hq =>
      PassStore.find_none.mp hn q (reclaimUntil_subset _ _ _ hq)
    rw [PassStore.poolsOk_iff] at hr ⊢
    obtain ⟨k1, k2, k3, k4, k5, k6⟩ := hr
    refine ⟨by simp; omega, ?_, by simp [h1]; omega, by simp [h2]; omega, k5, k6⟩
    simp only [List.map_append, List.map_cons, List.map_nil]
    refine List.pairwise_append.mpr ⟨k2, by simp, ?_⟩
    intro x hx y hy
    obtain ⟨q, hq, rfl⟩ := List.mem_map.mp hx
    simp at hy; subst hy
    exact hfresh q hq
  · exact hr

end Sys2Proof.Machine
end

