-- ==== Sys2Proof/Laws/Moves.lean ====
section
/-! SUPPORT. What the store, the alarm unit and the notice queues can do, said once: every operation of the
blocks is a run of the few moves below, so an invariant of these parts that each move keeps is kept by every
operation. -/

namespace Sys2Proof.Machine

open Sys2Proof

-- One proof after another: elaborated side by side they ask for more threads than check.sh allows.
set_option Elab.async false

/-- The parts that the moves speak of. -/
abbrev movedParts : List Part :=
  [.store, .alarms, .notices .a, .notices .b, .attached .a, .attached .b]

/-- One move: the store, the alarm list and its next number, the notice queues and the attachments change
in one of these ways, other parts in any way. -/
inductive Move : State → State → Prop where
  /-- None of them changes. -/
  | still {s u : State} (hstore : u.store = s.store) (hlist : u.alarms.list = s.alarms.list)
      (hnext : u.alarms.next = s.alarms.next)
      (hports : ∀ p, (u.port p).notices = (s.port p).notices ∧ (u.port p).attached = (s.port p).attached) :
      Move s u
  /-- A notice is sent. -/
  | notify (s : State) (b : NoticeBody) : Move s (s.notify b)
  /-- An alarm is raised. -/
  | raise (s : State) (a : Alarm) : Move s (s.raise a)
  /-- A closed pass is reclaimed. -/
  | reclaim (s : State) (p : HeldPass) (tier2 : Bool) (hp : p ∈ s.store.passes)
      (hclosed : p.state = .closed) : Move s (s.reclaim p tier2)
  /-- A held pass is changed; its number and its chunks are not. -/
  | update (s : State) (t : TrackId) (n : Nat) (f : HeldPass → HeldPass) (h1 : ∀ p, (f p).number = p.number)
      (h2 : ∀ p, (f p).axleChunks = p.axleChunks) (h3 : ∀ p, (f p).vehicleChunks = p.vehicleChunks) :
      Move s (s.updatePass t n f)
  /-- An axle chunk is given. -/
  | axleChunk (s : State) (t : TrackId) (n : Nat) (h : 0 < s.store.freeAxleChunks)
      (held : (s.store.ofTrack t n).isSome = true) : Move s (s.takeAxleChunk t n)
  /-- A vehicle chunk is given. -/
  | vehicleChunk (s : State) (t : TrackId) (n : Nat) (h : 0 < s.store.freeVehicleChunks)
      (held : (s.store.ofTrack t n).isSome = true) : Move s (s.takeVehicleChunk t n)
  /-- A pass takes the next free number and a header is asked for. -/
  | header (s : State) (p : HeldPass) (hn : p.number = s.store.takeNumber) (h1 : p.axleChunks = 0)
      (h2 : p.vehicleChunks = 0) :
      Move s ({ s with store := { s.store with
        nextPass := nextPassNumber s.store.takeNumber } }.requestHeader p).1

/-- A run of moves. -/
def Moves : State → State → Prop := Relation.ReflTransGen Move

theorem Moves.refl (s : State) : Moves s s := Relation.ReflTransGen.refl

theorem Moves.trans {s u v : State} (h : Moves s u) (k : Moves u v) : Moves s v :=
  Relation.ReflTransGen.trans h k

theorem Moves.one {s u : State} (h : Move s u) : Moves s u := Relation.ReflTransGen.single h

/-- An operation whose frame spares these parts makes no move. -/
theorem Moves.of_frame {F : List Part} {s u : State} (h : Frame F s u)
    (hF : ∀ x ∈ movedParts, x ∉ F) : Moves s u := by
  have hs : u.store = s.store := h .store (hF _ (by simp))
  have ha : u.alarms = s.alarms := h .alarms (hF _ (by simp))
  refine .one (.still hs (by rw [ha]) (by rw [ha]) fun p => ?_)
  cases p
  · exact ⟨h (.notices .a) (hF _ (by simp)), h (.attached .a) (hF _ (by simp))⟩
  · exact ⟨h (.notices .b) (hF _ (by simp)), h (.attached .b) (hF _ (by simp))⟩

/-- A property that every move keeps is kept by a run of moves. -/
theorem Moves.keeps {P : State → Prop} (hP : ∀ s u, Move s u → P s → P u) {s u : State}
    (h : Moves s u) (hs : P s) : P u := by
  induction h with
  | refl => exact hs
  | tail _ hm ih => exact hP _ _ hm ih

/-! ### What moves keep -/

theorem noticesOk_congr {s u : State}
    (h : ∀ p, (u.port p).notices = (s.port p).notices ∧ (u.port p).attached = (s.port p).attached) :
    u.noticesOk = s.noticesOk := by
  have ha := h .a
  have hb := h .b
  simp only [State.port, PerPort.get] at ha hb
  simp [State.noticesOk, StationPort.noticesOk, ha, hb]

theorem Move.noticesOk {s u : State} (h : Move s u) (hs : s.noticesOk = true) : u.noticesOk = true := by
  cases h with
  | still _ _ _ hp => rw [noticesOk_congr hp]; exact hs
  | notify b => exact notify_ok b hs
  | raise a =>
    unfold State.raise
    dsimp only
    split
    · exact notify_ok _ hs
    · exact notify_ok _ hs
  | reclaim p tier2 hp hc => exact reclaim_noticesOk s p tier2 hs
  | update t n f h1 h2 h3 => exact hs
  | axleChunk t n h held => exact hs
  | vehicleChunk t n h held => exact hs
  | header p hn h1 h2 =>
    have : ∀ st, ({ s with store := st } : State).noticesOk = true := fun _ => hs
    unfold State.requestHeader
    dsimp only
    split
    · exact reclaimUntil_noticesOk _ _ (this _)
    · exact reclaimUntil_noticesOk _ _ (this _)

theorem Move.listOk {s u : State} (h : Move s u) (hs : s.alarms.listOk = true) :
    u.alarms.listOk = true := by
  cases h with
  | still _ hl hn _ => rw [AlarmUnit.listOk_iff] at hs ⊢; rwa [hl, hn]
  | notify b => exact hs
  | raise a => exact raise_listOk a hs
  | reclaim p tier2 hp hc => exact hs
  | update t n f h1 h2 h3 => exact hs
  | axleChunk t n h held => exact hs
  | vehicleChunk t n h held => exact hs
  | header p hn h1 h2 =>
    have := requestHeader_frame { s with store := { s.store with
      nextPass := nextPassNumber s.store.takeNumber } } p .alarms (by simp)
    simp only [Part.Same] at this
    rw [this]; exact hs

theorem Move.mem_list {s u : State} {r : AlarmRecord} (h : Move s u) (hs : r ∈ s.alarms.list)
    (hr : r.acknowledged = none) : r ∈ u.alarms.list := by
  cases h with
  | still _ hl hn _ => rwa [hl]
  | notify b => exact hs
  | raise a => exact mem_raise hs hr
  | reclaim p tier2 hp hc => exact hs
  | update t n f h1 h2 h3 => exact hs
  | axleChunk t n h held => exact hs
  | vehicleChunk t n h held => exact hs
  | header p hn h1 h2 =>
    have := requestHeader_frame { s with store := { s.store with
      nextPass := nextPassNumber s.store.takeNumber } } p .alarms (by simp)
    simp only [Part.Same] at this
    rw [this]; exact hs

theorem Move.poolsOk {s u : State} (h : Move s u) (hs : s.store.poolsOk = true) :
    u.store.poolsOk = true := by
  cases h with
  | still h _ _ _ => rwa [h]
  | notify b => exact hs
  | raise a =>
    rw [raise_store]; exact PassStore.updateOfTrack_poolsOk (fun _ => rfl) (fun _ => rfl) (fun _ => rfl) hs
  | reclaim p tier2 hp hc => exact PassStore.drop_poolsOk hp hs
  | update t n f h1 h2 h3 => exact PassStore.updateOfTrack_poolsOk h1 h2 h3 hs
  | axleChunk t n h held => exact takeAxleChunk_poolsOk t n h held hs
  | vehicleChunk t n h held => exact takeVehicleChunk_poolsOk t n h held hs
  | header p hn h1 h2 =>
    obtain ⟨k1, k2, k3⟩ := takeNumber_free hs
    refine requestHeader_poolsOk (by rw [hn]; exact k1) h1 h2 ?_
    rw [PassStore.poolsOk_iff] at hs ⊢
    obtain ⟨m1, m2, m3, m4, _, _⟩ := hs
    exact ⟨m1, m2, m3, m4, (nextPassNumber_range k2).1, (nextPassNumber_range k2).2⟩

/-! ### The operations as runs of moves -/

theorem updatePass_moves (s : State) (t : TrackId) (n : Nat) (f : HeldPass → HeldPass)
    (h1 : ∀ p, (f p).number = p.number := by intro p; rfl)
    (h2 : ∀ p, (f p).axleChunks = p.axleChunks := by intro p; rfl)
    (h3 : ∀ p, (f p).vehicleChunks = p.vehicleChunks := by intro p; rfl) :
    Moves s (s.updatePass t n f) := .one (.update s t n f h1 h2 h3)

theorem flagPass_moves (s : State) (t : TrackId) (n : Nat) (f : PassFlags → PassFlags) :
    Moves s (s.flagPass t n f) := updatePass_moves s t n _

theorem updateAxle_moves (s : State) (t : TrackId) (n i : Nat) (f : AxleRecord → AxleRecord) :
    Moves s (s.updateAxle t n i f) := updatePass_moves s t n _

theorem updateVehicle_moves (s : State) (t : TrackId) (n i : Nat) (f : VehicleRecord → VehicleRecord) :
    Moves s (s.updateVehicle t n i f) := updatePass_moves s t n _

theorem writeAxle_moves (s : State) (t : TrackId) (n : Nat) (e : AxleEntry) : Moves s (s.writeAxle t n e) :=
  updatePass_moves s t n _

theorem notify_moves (s : State) (b : NoticeBody) : Moves s (s.notify b) := .one (.notify s b)

theorem notifyAll_moves (s : State) (bs : List NoticeBody) : Moves s (s.notifyAll bs) := by
  unfold State.notifyAll
  induction bs generalizing s with
  | nil => exact .refl s
  | cons b rest ih => exact (notify_moves s b).trans (ih _)

theorem withChoice_moves (s : State) (n : Nat) : Moves s { s with choice := n } :=
  .of_frame (withChoice_frame s n) (by simp)

theorem setSection_moves (s : State) (t : TrackId) (c : SectionController) :
    Moves s (s.setSection t c) := .of_frame (setSection_frame s t c) (by simp)

theorem setCtx_moves (s : State) (t : TrackId) (c : Option PassContext) : Moves s (s.setCtx t c) :=
  .of_frame (setCtx_frame s t c) (by simp)

theorem setContext_moves (s : State) (t : TrackId) (c : Option MatchContext) :
    Moves s (s.setContext t c) := .of_frame (setContext_frame s t c) (by simp)

/-- A change of the alarm unit that keeps its list and its next number. -/
theorem withAlarms_moves (s : State) (u : AlarmUnit) (h1 : u.list = s.alarms.list)
    (h2 : u.next = s.alarms.next) : Moves s { s with alarms := u } :=
  .one (.still rfl h1 h2 fun _ => ⟨rfl, rfl⟩)

theorem notifyTogether_moves (s : State) (a b : List (List NoticeBody)) : Moves s (s.notifyTogether a b) :=
  (notifyAll_moves s _).trans (withChoice_moves _ _)

theorem reclaimUntil_moves (room : PassStore → Bool) (fuel : Nat) (s : State) :
    Moves s (State.reclaimUntil room fuel s) := by
  induction fuel generalizing s with
  | zero => exact .refl s
  | succ k ih =>
    unfold State.reclaimUntil
    split
    · exact .refl s
    · split
      · exact .refl s
      · rename_i p tier2 h
        exact .trans (.one (.reclaim s p tier2 (PassStore.pick_some h).1 (PassStore.pick_some h).2)) (ih _)

theorem makeRoom_moves (s : State) (room : PassStore → Bool) : Moves s (s.makeRoom room) :=
  reclaimUntil_moves room _ s

theorem reclaimReleased_moves (fuel : Nat) (s : State) : Moves s (State.reclaimReleased fuel s) := by
  induction fuel generalizing s with
  | zero => exact .refl s
  | succ k ih =>
    unfold State.reclaimReleased
    split
    · exact .refl s
    · rename_i p h
      have hf := List.find?_some h
      simp [HeldPass.fullyReleased] at hf
      exact .trans (.one (.reclaim s p false (List.mem_of_find?_eq_some h) hf.1.1)) (ih _)

theorem stopStoring_moves (s : State) (t : TrackId) (c : PassContext) (pool : Bool) :
    Moves s (s.stopStoring t c pool) := (flagPass_moves s _ _ _).trans (setCtx_moves _ t _)

theorem requestAxle_moves (s : State) (t : TrackId) (c : PassContext) (e : AxleEntry) :
    Moves s (s.requestAxle t c e).1 := by
  unfold State.requestAxle
  dsimp only
  split
  · exact stopStoring_moves s t c _
  · split
    · split
      · rename_i h
        obtain ⟨h, held⟩ := (Bool.and_eq_true _ _).mp h
        exact ((makeRoom_moves s _).trans (.one (.axleChunk _ t _ (of_decide_eq_true h) held))).trans
          (writeAxle_moves _ _ _ _)
      · exact (makeRoom_moves s _).trans (stopStoring_moves _ t c _)
    · exact writeAxle_moves s _ _ _

theorem requestVehicle_moves (s : State) (t : TrackId) (n : Nat) : Moves s (s.requestVehicle t n).1 := by
  unfold State.requestVehicle
  split
  · exact .refl s
  · split
    · dsimp only
      split
      · rename_i h
        obtain ⟨h, held⟩ := (Bool.and_eq_true _ _).mp h
        exact (makeRoom_moves s _).trans (.one (.vehicleChunk _ t n (of_decide_eq_true h) held))
      · exact makeRoom_moves s _
    · exact .refl s

theorem raise_moves (s : State) (a : Alarm) : Moves s (s.raise a) := .one (.raise s a)

theorem raiseAll_moves (s : State) (as : List Alarm) : Moves s (s.raiseAll as) := by
  unfold State.raiseAll
  induction as generalizing s with
  | nil => exact .refl s
  | cons a rest ih => exact (raise_moves s a).trans (ih _)

theorem completeVehicle_moves (s : State) (t : TrackId) (n i : Nat) : Moves s (s.completeVehicle t n i) := by
  unfold State.completeVehicle
  split
  · dsimp only
    split
    · exact updateVehicle_moves s _ _ _ _
    · exact (updateVehicle_moves s _ _ _ _).trans (raise_moves _ _)
  · exact .refl s

theorem makeVehicle_moves (s : State) (t : TrackId) (m : MatchContext) (shape : VehicleShape) :
    Moves s (s.makeVehicle t m shape) := by
  unfold State.makeVehicle
  dsimp only
  split
  · split
    · exact (((requestVehicle_moves s _ _).trans (updatePass_moves _ _ _ _)).trans
        (setContext_moves _ t _)).trans (completeVehicle_moves _ _ _ _)
    · exact ((requestVehicle_moves s _ _).trans (updatePass_moves _ _ _ _)).trans (setContext_moves _ t _)
  · exact ((requestVehicle_moves s _ _).trans (flagPass_moves _ _ _ _)).trans (setContext_moves _ t _)

theorem attempts_moves (look : List WaitingAxle → List VehicleType → Decision) (t : TrackId)
    (fuel : Nat) (s : State) : Moves s (State.attempts look t fuel s) := by
  induction fuel generalizing s with
  | zero => exact .refl s
  | succ k ih =>
    unfold State.attempts
    split
    · exact .refl s
    · split
      · split
        · exact .refl s
        · exact (makeVehicle_moves s t _ _).trans (ih _)
        · exact (makeVehicle_moves s t _ _).trans (ih _)
      · exact .refl s

theorem tellCounted_moves (s : State) (t : TrackId) (pass : Nat) (e : AxleEntry) (stored : Bool) :
    Moves s (s.tellCounted t pass e stored) := by
  unfold State.tellCounted
  dsimp only
  split
  · exact .refl s
  · split
    · split
      · exact ((updateAxle_moves s _ _ _ _).trans (setContext_moves _ t _)).trans (attempts_moves _ t _ _)
      · exact (updateAxle_moves s _ _ _ _).trans (setContext_moves _ t _)
    · exact setContext_moves s t _

theorem closingMatch_moves (s : State) (t : TrackId) : Moves s (s.closingMatch t) := by
  unfold State.closingMatch
  split
  · exact .refl s
  · exact (attempts_moves _ t _ s).trans (setContext_moves _ t _)

theorem tellEnded_moves (s : State) (t : TrackId) (pass i : Nat) (o : AxleOutcome) (l : Level) :
    Moves s (s.tellEnded t pass i o l) := by
  unfold State.tellEnded
  split
  · exact .refl s
  · dsimp only
    split
    · exact setContext_moves s t _
    · split
      · exact (setContext_moves s t _).trans (updateVehicle_moves _ _ _ _ _)
      · split
        · exact ((setContext_moves s t _).trans (updateVehicle_moves _ _ _ _ _)).trans
            (completeVehicle_moves _ _ _ _)
        · exact (setContext_moves s t _).trans (updateVehicle_moves _ _ _ _ _)

theorem requestScan_moves (s : State) (t : TrackId) (r : ScanRequest) :
    Moves s (s.requestScan t r) := by
  unfold State.requestScan
  split
  · exact .trans (.of_frame (setSlot_frame s t _) (by simp)) (.of_frame (arbitrate_frame _) (by simp))
  · split
    · exact flagPass_moves s _ _ _
    · exact .refl s

theorem checkDrift_moves (s : State) (t : TrackId) (rail : Rail) (b : Fin 8) :
    Moves s (s.checkDrift t rail b) := by
  unfold State.checkDrift
  dsimp only
  split
  · exact .refl s
  · exact .trans (.of_frame (setDrifted_frame s t rail b _) (by simp)) (notify_moves _ _)

theorem putScanner_moves (s : State) (t : TrackId) (n : ScannerName) (v : Scanner) :
    Moves s (s.putScanner t n v) := by
  unfold State.putScanner
  dsimp only
  split
  · exact .trans (.of_frame (setScanner_frame s t n v) (by simp)) (notify_moves _ _)
  · exact .of_frame (setScanner_frame s t n v) (by simp)

theorem markEntryShutter_moves (s : State) (t : TrackId) (n : ScannerName) (pass : Nat) (e : AxleEntry) :
    Moves s (s.markEntryShutter t n pass e) := by
  unfold State.markEntryShutter
  dsimp only
  split
  · exact .trans (.of_frame (updateEntry_frame s t _ _) (by simp)) (flagPass_moves _ _ _ _)
  · exact .of_frame (updateEntry_frame s t _ _) (by simp)

theorem askScanner_moves (s : State) (t : TrackId) (pass : Nat) (n : ScannerName) (i : Nat) :
    Moves s (s.askScanner t pass n i) := by
  unfold State.askScanner
  split
  · exact .refl s
  · dsimp only
    split
    · exact .refl s
    · split
      · exact .of_frame (setScanner_frame s t n _) (by simp)
      · exact markEntryShutter_moves s t n pass _
      · exact markEntryShutter_moves s t n pass _
      · exact markEntryShutter_moves s t n pass _
      · exact .of_frame (updateEntry_frame s t _ _) (by simp)
      · exact .of_frame (updateEntry_frame s t _ _) (by simp)

theorem takeTick_moves (s : State) (t : TrackId) (c : PassContext) : Moves s (s.takeTick t c) := by
  have lines : ∀ (names : List ScannerName) (index : ScannerName → Option Nat) (s : State),
      Moves s (names.foldl (fun s n =>
        match index n with
        | none => s
        | some i => s.askScanner t c.number n i) s) := by
    intro names index
    induction names with
    | nil => intro s; exact .refl s
    | cons n rest ih =>
      intro s
      refine .trans ?_ (ih _)
      dsimp only
      split
      · exact .refl s
      · exact askScanner_moves s t _ n _
  unfold State.takeTick
  dsimp only
  refine .trans ?_ (lines _ (fun n => onlyIndex (insideGate _ _ _ n)) _)
  split
  · exact (setSection_moves s t _).trans (requestScan_moves _ t _)
  · exact setSection_moves s t _

theorem promoteTrack_moves (s : State) (t : TrackId) (image : TrackArea) (g : Nat) :
    Moves s (s.promoteTrack t image g) := by
  unfold State.promoteTrack
  extract_lets a b d e f h i
  have hh : Moves s h := .trans (.trans (.trans
    (.one (.still (u := f) rfl rfl rfl fun _ => ⟨rfl, rfl⟩))
    (.of_frame (configureTrack_frame f t) (by simp)))
    (.of_frame (restartFilters_frame _ t) (by simp))) (.of_frame (realign_frame _ t a) (by simp))
  exact (hh.trans (notifyTogether_moves h _ _)).trans (notify_moves i _)

theorem promoteTrackIfReady_moves (s : State) (t : TrackId) : Moves s (s.promoteTrackIfReady t) := by
  unfold State.promoteTrackIfReady
  split
  · exact .refl s
  · split
    · exact promoteTrack_moves s t _ _
    · exact .refl s

theorem promoteSiteIfReady_moves (s : State) : Moves s s.promoteSiteIfReady := by
  unfold State.promoteSiteIfReady
  split
  · exact .refl s
  · split
    · unfold State.promoteSite
      dsimp only
      refine .trans (.one (.still ?_ ?_ ?_ fun _ => ⟨?_, ?_⟩)) (notify_moves _ _) <;> rfl
    · exact .refl s

theorem promoteReady_moves (s : State) : Moves s s.promoteReady :=
  ((promoteSiteIfReady_moves s).trans (promoteTrackIfReady_moves _ _)).trans (promoteTrackIfReady_moves _ _)

theorem finish_moves (s : State) (t : TrackId) (c : PassContext) (e : AxleEntry) (drift : Option Int)
    (uncertain forced : Bool) : Moves s (s.finish t c e drift uncertain forced) := by
  unfold State.finish
  exact (((((updateAxle_moves s _ _ _ _).trans (withChoice_moves _ _)).trans (raiseAll_moves _ _)).trans
    (setCtx_moves _ t _)).trans (updateAxle_moves _ _ _ _ _)).trans (tellEnded_moves _ t _ _ _ _)

theorem finishForced_moves (s : State) (t : TrackId) (es : List AxleEntry) :
    Moves s (s.finishForced t es) := by
  induction es generalizing s with
  | nil => exact .refl s
  | cons e rest ih =>
    unfold State.finishForced
    split
    · exact .refl s
    · exact ((setSection_moves s t _).trans (finish_moves _ t _ _ _ _ _)).trans (ih _)

theorem abandonEach_moves (s : State) (t : TrackId) (es : List AxleEntry) :
    Moves s (s.abandonEach t es) := by
  induction es generalizing s with
  | nil => exact .refl s
  | cons e rest ih =>
    unfold State.abandonEach
    split
    · exact .refl s
    · exact (((setSection_moves s t _).trans (updateAxle_moves _ _ _ _ _)).trans
        (tellEnded_moves _ t _ _ _ _)).trans (ih _)

theorem countIn_moves (s : State) (t : TrackId) (ev : PairEvent) : Moves s (s.countIn t ev) := by
  unfold State.countIn
  split
  · exact .refl s
  · extract_lets c e a
    have ha : Moves s a.1 := by
      refine .trans (.of_frame (joinQueue_frame s t c e) (by simp)) ?_
      unfold a State.askRecord
      split
      · exact requestAxle_moves _ t c e
      · exact .refl _
    exact (ha.trans (tellCounted_moves _ t _ _ _)).trans (.of_frame (startHold_frame _ t) (by simp))

theorem formPass_moves (s : State) (t : TrackId) (ev : PairEvent) : Moves s (s.formPass t ev) := by
  unfold State.formPass
  refine .trans (.trans (.trans (.one (.header s _ ?_ ?_ ?_)) (setSection_moves _ t _))
    (withAlarms_moves _ _ ?_ ?_)) (notify_moves _ _) <;> rfl

theorem openPass_moves (s : State) (t : TrackId) (ev : PairEvent) : Moves s (s.openPass t ev) := by
  unfold State.openPass
  extract_lets idle a b d
  have ha : Moves s a := by
    unfold a
    split
    · exact .trans (.of_frame (keepLateClose_frame s t) (by simp)) (.of_frame (leaveIdle_frame _ t) (by simp))
    · exact .refl s
  have hb : Moves s b := (ha.trans (formPass_moves a t ev)).trans
    (.of_frame (enterOccupied_frame _ t) (by simp))
  have hd : Moves s d := by
    unfold d
    split
    · exact hb.trans (.of_frame (openShutters_frame b t) (by simp))
    · exact hb
  exact ((hd.trans (.of_frame (writeSpeed_frame d t _) (by simp))).trans
    (.of_frame (startHold_frame _ t) (by simp))).trans (countIn_moves _ t ev)

theorem closePass_moves (s : State) (t : TrackId) (reason : EndReason) :
    Moves s (s.closePass t reason) := by
  unfold State.closePass
  split
  · exact .refl s
  · extract_lets a b d e f g
    have ha : Moves s a := by refine withAlarms_moves s _ ?_ ?_ <;> rfl
    have hb : Moves s b := ha.trans (updatePass_moves a _ _ _)
    have hd : Moves s d := by
      unfold d
      split
      · exact (hb.trans (flagPass_moves b _ _ _)).trans (raise_moves _ _)
      · exact hb
    exact ((((hd.trans (closingMatch_moves d t)).trans (updatePass_moves e _ _ _)).trans
      (notify_moves f _)).trans (setSection_moves g t _)).trans
      (.of_frame (withdrawPace_frame _ t _) (by simp))

theorem abandonPass_moves (s : State) (t : TrackId) (reason : EndReason) :
    Moves s (s.abandonPass t reason) := (abandonEach_moves s t _).trans (closePass_moves _ t reason)

theorem enterIdle_moves (s : State) (t : TrackId) (withDelay : Bool) :
    Moves s (s.enterIdle t withDelay) :=
  ((Moves.of_frame (rest_frame s t withDelay) (by simp)).trans (promoteSiteIfReady_moves _)).trans
    (promoteTrackIfReady_moves _ t)

theorem underflow_moves (s : State) (t : TrackId) : Moves s (s.underflow t) := by
  unfold State.underflow
  split
  · exact .refl s
  · exact (setSection_moves s t _).trans (notify_moves _ _)

theorem forceOut_moves (s : State) (t : TrackId) (reason : EndReason) (n : Nat) :
    Moves s (s.forceOut t reason n) :=
  (((finishForced_moves s t _).trans (closePass_moves _ t _)).trans
    (.of_frame (drain_frame _ t _) (by simp))).trans (promoteSiteIfReady_moves _)

theorem countOut_moves (s : State) (t : TrackId) (ev : PairEvent) : Moves s (s.countOut t ev) := by
  unfold State.countOut
  split
  · exact .refl s
  · dsimp only
    split <;> split
    · exact (setSection_moves s t _).trans (.of_frame (enterClearing_frame _ t) (by simp))
    · exact ((setSection_moves s t _).trans (finish_moves _ t _ _ _ _ _)).trans
        (.of_frame (enterClearing_frame _ t) (by simp))
    · exact (setSection_moves s t _).trans (.of_frame (startHold_frame _ t) (by simp))
    · exact ((setSection_moves s t _).trans (finish_moves _ t _ _ _ _ _)).trans
        (.of_frame (startHold_frame _ t) (by simp))

theorem takeOccupied_moves (s : State) (t : TrackId) (c : PassContext) (ev : PairEvent) :
    Moves s (s.takeOccupied t c ev) := by
  have hs : Moves s (s.takeSpeed t ev) := .of_frame (takeSpeed_frame s t ev) (by simp)
  unfold State.takeOccupied
  dsimp only
  split
  · split
    · split
      · exact hs.trans (countIn_moves _ t ev)
      · exact hs.trans (forceOut_moves _ t _ _)
    · exact forceOut_moves s t _ _
  · split
    · exact hs.trans (countOut_moves _ t ev)
    · exact forceOut_moves s t _ _

theorem takeClearing_moves (s : State) (t : TrackId) (c : PassContext) (ev : PairEvent) :
    Moves s (s.takeClearing t c ev) := by
  unfold State.takeClearing
  split
  · split
    · exact (((Moves.of_frame (enterOccupied_frame s t) (by simp)).trans
        (.of_frame (takeSpeed_frame _ t ev) (by simp))).trans
        (.of_frame (startHold_frame _ t) (by simp))).trans (countIn_moves _ t ev)
    · exact (closePass_moves s t _).trans (openPass_moves _ t ev)
  · exact (Moves.of_frame (lateCountOut_frame s t c ev) (by simp)).trans (underflow_moves _ t)

theorem takeEvent_moves (s : State) (t : TrackId) (ev : PairEvent) : Moves s (s.takeEvent t ev) := by
  unfold State.takeEvent
  split
  · exact .refl s
  · exact .refl s
  · split
    · exact openPass_moves s t ev
    · exact underflow_moves s t
  · split
    · exact openPass_moves s t ev
    · exact underflow_moves s t
  · exact setSection_moves s t _
  · split
    · exact .refl s
    · exact takeClearing_moves s t _ ev
  · split
    · exact .refl s
    · exact (Moves.of_frame (resume_frame s t) (by simp)).trans (takeOccupied_moves _ t _ ev)
  · split
    · exact .refl s
    · exact takeOccupied_moves s t _ ev

theorem markSuspect_moves (s : State) (t : TrackId) (e : SectionEnd) (x : Role) :
    Moves s (s.markSuspect t e x) := by
  unfold State.markSuspect
  split
  · exact .refl s
  · exact (Moves.of_frame (setSensor_frame s t e x _) (by simp)).trans (notify_moves _ _)

theorem setMachine_moves (s : State) (t : TrackId) (e : SectionEnd) (m : PairState) :
    Moves s (s.setMachine t e m) := .of_frame (setMachine_frame s t e m) (by simp)

theorem singleCount_moves (s : State) (t : TrackId) (e : SectionEnd) (x : Role) (stamp : SiteTime) :
    Moves s (s.singleCount t e x stamp) := by
  unfold State.singleCount
  dsimp only
  split
  · exact markSuspect_moves s t e _
  · exact (markSuspect_moves s t e _).trans (takeEvent_moves _ t _)

theorem endWait_moves (s : State) (t : TrackId) (e : SectionEnd) (x : Role) (stamp : SiteTime) :
    Moves s (s.endWait t e x stamp) :=
  (setMachine_moves s t e _).trans (singleCount_moves _ t e x stamp)

theorem offerRise_moves (s : State) (t : TrackId) (e : SectionEnd) (x : Role) (stamp : SiteTime) :
    Moves s (s.offerRise t e x stamp) := by
  have hp : Moves s (s.expirePassed t e stamp) := by
    unfold State.expirePassed
    split
    · exact .refl s
    · split
      · exact endWait_moves s t e _ _
      · exact .refl s
  unfold State.offerRise
  dsimp only
  split
  · refine hp.trans ?_
    unfold State.firstRise
    split
    · exact singleCount_moves _ t e x stamp
    · exact setMachine_moves _ t e _
  · split
    · refine hp.trans ?_
      unfold State.restartWait
      dsimp only
      split
      · exact (singleCount_moves _ t e x _).trans (setMachine_moves _ t e _)
      · exact setMachine_moves _ t e _
    · exact (hp.trans (setMachine_moves _ t e _)).trans (takeEvent_moves _ t _)

theorem takeEdge_moves (s : State) (t : TrackId) (e : SectionEnd) (x : Edge) :
    Moves s (s.takeEdge t e x) := by
  have ha : ∀ v, Moves s ((s.setSensor t e x.role v).sensorActivity t e x) := fun v =>
    (Moves.of_frame (setSensor_frame s t e x.role v) (by simp)).trans
      (.of_frame (sensorActivity_frame _ t e x) (by simp))
  unfold State.takeEdge
  dsimp only
  split
  · split
    · exact .refl s
    · exact (Moves.of_frame (setSensor_frame s t e x.role _) (by simp)).trans (notify_moves _ _)
  · split
    · exact (ha _).trans (offerRise_moves _ t e _ _)
    · exact ha _

theorem release_moves (t : TrackId) (e : SectionEnd) (fuel : Nat) (s : State) :
    Moves s (State.release t e fuel s) := by
  induction fuel generalizing s with
  | zero => exact .refl s
  | succ k ih =>
    unfold State.release
    split
    · exact .refl s
    · split
      · exact .refl s
      · exact ((Moves.of_frame (setPair_frame s t e _) (by simp)).trans (takeEdge_moves _ t e _)).trans
          (ih _)

theorem confirmEdge_moves (s : State) (t : TrackId) (e : SectionEnd) (x : Role) (stamp : SiteTime) :
    Moves s (s.confirmEdge t e x stamp) := by
  unfold State.confirmEdge
  exact ((Moves.of_frame (setSensor_frame s t e x _) (by simp)).trans
    (.of_frame (setPair_frame _ t e _) (by simp))).trans (release_moves t e _ _)

theorem rawChange_moves (s : State) (t : TrackId) (e : SectionEnd) (x : Role) (level : Bool) :
    Moves s (s.rawChange t e x level) := by
  have hf : ∀ f, Moves s (s.setFilter t e x f) := fun f => .of_frame (setFilter_frame s t e x f) (by simp)
  unfold State.rawChange
  dsimp only
  split
  · exact (hf _).trans (confirmEdge_moves _ t e x _)
  · exact (hf _).trans (release_moves t e _ _)
  · exact (hf _).trans (release_moves t e _ _)
  · exact hf _

theorem takeRawChange_moves (s : State) (t : TrackId) (e : SectionEnd) (x : Role)
    (level : Bool) : Moves s (s.takeRawChange t e x level) := by
  unfold State.takeRawChange
  dsimp only
  split
  · exact (rawChange_moves s t e .outer _).trans (rawChange_moves _ t e x level)
  · exact rawChange_moves s t e x level

theorem confirmDue_moves (s : State) (t : TrackId) (e : SectionEnd) (x : Role) :
    Moves s (s.confirmDue t e x) := by
  unfold State.confirmDue
  split
  · exact .refl s
  · split
    · exact confirmEdge_moves s t e x _
    · exact .refl s

theorem changeCoinciding_moves (s : State) (t : TrackId) (f : Coinciding → Coinciding) :
    Moves s (s.changeCoinciding t f) := .of_frame (changeCoinciding_frame s t f) (by simp)

/-- R187: an input taken as well by what a COMMIT has kept moves no more than the input does. -/
theorem orAsBefore_moves (s : State) (t : TrackId) (run : State → State)
    (h : ∀ u, Moves u (run u)) : Moves s (s.orAsBefore t run) := by
  unfold State.orAsBefore
  dsimp only
  split
  · exact h s
  · split
    · exact h s
    · split
      · exact ((Moves.of_frame (inputsBefore_frame s t _) (by simp)).trans (h _)).trans
          (.of_frame (inputsOf_frame _ _ t) (by simp))
      · exact (h s).trans (changeCoinciding_moves _ t _)

theorem takeSample_moves (s : State) (x : Scan) (sample : Int) : Moves s (s.takeSample x sample) := by
  unfold State.takeSample
  split
  · exact .of_frame (takeAmbient_frame s sample) (by simp)
  · split
    · exact .of_frame (creditPace_frame s _ _ _ _ _) (by simp)
    · split
      · exact .refl s
      · unfold State.takeZeroSample
        split
        · split
          · exact .of_frame (wakeTrack_frame s _) (by simp)
          · exact .refl s
        · split
          · exact .refl s
          · split
            · exact .refl s
            · split
              · exact .of_frame (wakeTrack_frame s _) (by simp)
              · split
                · exact .refl s
                · exact (Moves.of_frame (setZero_frame s _ _ _ _) (by simp)).trans (checkDrift_moves _ _ _ _)

end Sys2Proof.Machine
end

