-- ==== Sys2Proof/Laws/Ports.lean ====
section
/-! SUPPORT. What frames, checks and replies can do (R159 to R162). -/

namespace Sys2Proof.Machine

open Sys2Proof

/-! ### Frames of bytes -/

/-- R159: once bytes complete a frame within its arguments, the frame is its first bytes and these. -/
theorem takeFrame_arguments (cmd : Byte) (len : Nat) (got rest : List Byte)
    (h : got.length < len) (hl : got.length + rest.length = len) :
    takeFrame (.arguments cmd len got) rest = some (cmd, got ++ rest) := by
  induction rest generalizing got with
  | nil => simp at hl; omega
  | cons b rest ih =>
    simp only [List.length_cons] at hl
    unfold takeFrame Phase.shift
    by_cases hlast : len ≤ got.length + 1
    · have hr : rest = [] := by
        apply List.eq_nil_of_length_eq_zero; omega
      subst hr
      simp [hlast]
    · simp only [hlast, if_false]
      rw [ih (got ++ [b]) (by simp; omega) (by simp; omega)]
      simp

/-- R159, R189: a command byte, a length byte and that many bytes complete a frame from COMMAND. -/
theorem takeFrame_whole (cmd : Byte) (args : List Byte) (h : args.length ≤ 255) :
    takeFrame .command (cmd :: BitVec.ofNat 8 args.length :: args) = some (cmd, args) := by
  have hn : (BitVec.ofNat 8 args.length).toNat = args.length := by
    rw [BitVec.toNat_ofNat]; exact Nat.mod_eq_of_lt (by omega)
  simp only [takeFrame, Phase.shift]
  by_cases h0 : BitVec.ofNat 8 args.length = 0
  · have : args.length = 0 := by rw [← hn, h0]; rfl
    have : args = [] := List.eq_nil_of_length_eq_zero this
    subst this; rfl
  · simp only [h0, if_false, hn]
    have hpos : 0 < args.length := by
      rcases Nat.eq_zero_or_pos args.length with e | e
      · exact absurd (by rw [e]; rfl) h0
      · exact e
    rw [takeFrame_arguments cmd args.length [] args (by simpa using hpos) (by simp)]
    simp

/-! ### Transactions -/

theorem putReply_frame (s : State) (p : Port) (r : Reply) :
    Frame [.transaction p] s (s.putReply p r) := by
  intro x hx
  cases x with
  | notices q => cases p <;> cases q <;> rfl
  | view q => cases p <;> cases q <;> rfl
  | attached q => cases p <;> cases q <;> rfl
  | transaction q => cases p <;> cases q <;> first | exact ⟨rfl, rfl⟩ | exact absurd (by simp) hx
  | _ => rfl

/-- A command row whose bytes complete one of its frames runs the command and forms the reply. -/
theorem transact_run {s : State} {p : Port} {bytes : List Byte} {cmd : Byte} {args : List Byte}
    {row : Byte → List Byte → Bool} {run : List Byte → State → Executed}
    (h : takeFrame (s.port p).phase bytes = some (cmd, args)) (hrow : row cmd args = true) :
    s.transact p bytes row run = (run args s).1.putReply p (run args s).2 := by
  simp [State.transact, h, hrow]

/-- What a command row can do: run its command on some arguments, or nothing. -/
theorem transact_cases (s : State) (p : Port) (bytes : List Byte) (row : Byte → List Byte → Bool)
    (run : List Byte → State → Executed) :
    s.transact p bytes row run = s ∨
    ∃ args, s.transact p bytes row run = (run args s).1.putReply p (run args s).2 := by
  unfold State.transact
  split
  · exact .inl rfl
  · split
    · exact .inr ⟨_, rfl⟩
    · exact .inl rfl

theorem transact_frame {F : List Part} {s : State} {p : Port} {bytes : List Byte}
    {row : Byte → List Byte → Bool} {run : List Byte → State → Executed}
    (h : ∀ args, Frame F s (run args s).1) :
    Frame (.transaction p :: F) s (s.transact p bytes row run) := by
  rcases transact_cases s p bytes row run with e | ⟨args, e⟩ <;> rw [e]
  · exact .refl _ s
  · exact .trans ((h args).mono (by simp)) ((putReply_frame _ p _).mono (by simp))

theorem transact_moves {s : State} {p : Port} {bytes : List Byte} {row : Byte → List Byte → Bool}
    {run : List Byte → State → Executed} (h : ∀ args, Moves s (run args s).1) :
    Moves s (s.transact p bytes row run) := by
  rcases transact_cases s p bytes row run with e | ⟨args, e⟩ <;> rw [e]
  · exact .refl s
  · exact (h args).trans (.of_frame (putReply_frame _ p _) (by simp))

/-! ### Checks -/

/-- R162, steps 2 and 3: a failed check leaves the state as it is. -/
theorem checked_cases (s : State) (args : List Byte) (n : Nat) (ok : Bool) (run : Executed) :
    (args.length = n ∧ ok = true ∧ checked s args n ok run = run) ∨
    (args.length = n ∧ ok = false ∧ checked s args n ok run = answer s .badArgument) ∨
    (args.length ≠ n ∧ checked s args n ok run = answer s .badLength) := by
  unfold checked
  split
  · rename_i h
    cases ok
    · exact .inr (.inl ⟨h, rfl, rfl⟩)
    · exact .inl ⟨h, rfl, rfl⟩
  · rename_i h
    exact .inr (.inr ⟨h, rfl⟩)

theorem checked_ok {s : State} {args : List Byte} {n : Nat} {ok : Bool} {run : Executed}
    (h : args.length = n) (hok : ok = true) : checked s args n ok run = run := by
  simp [checked, h, hok]

theorem checked_bad {s : State} {args : List Byte} {n : Nat} {ok : Bool} {run : Executed}
    (h : args.length = n) (hok : ok = false) : checked s args n ok run = answer s .badArgument := by
  simp [checked, h, hok]

theorem checked_length {s : State} {args : List Byte} {n : Nat} {ok : Bool} {run : Executed}
    (h : args.length ≠ n) : checked s args n ok run = answer s .badLength := by
  simp [checked, h]

/-- A property of states that a failed check's state and the command's have, a checked one's has. -/
theorem checked_state {P : State → Prop} {s : State} {args : List Byte} {n : Nat} {ok : Bool}
    {run : Executed} (hs : P s) (h : P run.1) : P (checked s args n ok run).1 := by
  rcases checked_cases s args n ok run with ⟨_, _, e⟩ | ⟨_, _, e⟩ | ⟨_, e⟩ <;> rw [e] <;> assumption

theorem needsAttached_state {P : State → Prop} {s : State} {p : Port} {run : Executed}
    (hs : P s) (h : P run.1) : P (needsAttached s p run).1 := by
  unfold needsAttached
  split <;> assumption

end Sys2Proof.Machine
end

