-- ==== Sys2Proof/Laws/Commands.lean ====
section
/-! SUPPORT. What each command may change: `Does F now s r` says that the outcome r is a next state at site
time `now` in which every part that `F` does not list is as in s. -/

namespace Sys2Proof.Machine

open Sys2Proof

-- One proof after another: elaborated side by side they ask for more threads than check.sh allows.
set_option Elab.async false

/-- A command answered a next state at a site time within a frame. -/
def Does (F : List Part) (now : SiteTime) (s : State) (r : Host.Outcome State Fault Refusal) : Prop :=
  ∃ u, r = .next u ∧ u.siteTime = now ∧ Frame (.siteTime :: F) s u

theorem Does.next {F : List Part} {now : SiteTime} {s u : State} (h : Frame F (s.atTime now) u)
    (hF : Part.siteTime ∉ F := by simp) : Does F now s (.next u) :=
  ⟨u, rfl, h .siteTime hF, .trans ((atTime_frame s now).mono (by simp)) (h.mono (by simp))⟩

theorem sensorRawChange_does (now : SiteTime) (input : Fin 8) (level : Bool) (s : State) :
    Does (edgeParts (sensorOfInput input).1) now s (exec (.sensorRawChange now input level) s) := by
  unfold exec execSensorRawChange
  dsimp only
  split
  · exact .next (.refl _ _)
  · split
    · exact .next (orAsBefore_frame _ _ _ fun u => takeRawChange_frame u _ _ _ _)
    · exact .next (.one (setFilter_frame _ _ _ _ _))

theorem debounceConfirm_does (now : SiteTime) (input : Fin 8) (s : State) :
    Does (edgeParts (sensorOfInput input).1) now s (exec (.debounceConfirm now input) s) := by
  unfold exec execDebounceConfirm
  exact .next (orAsBefore_frame _ _ _ fun u => confirmDue_frame u _ _ _)

theorem heldTimerExpiry_does (now : SiteTime) (input : Fin 8) (s : State) :
    Does (edgeParts (sensorOfInput input).1) now s (exec (.heldTimerExpiry now input) s) := by
  unfold exec execHeldTimerExpiry
  dsimp only
  split
  · exact .next (.trans (.one (enterHeld_frame _ _ _ _)) (partnerHeld_frame _ _ _ _))
  · exact .next (.refl _ _)

theorem pairTimeoutExpiry_does (now : SiteTime) (t : TrackId) (e : SectionEnd) (s : State) :
    Does (edgeParts t) now s (exec (.pairTimeoutExpiry now t e) s) := by
  unfold exec execPairTimeoutExpiry
  dsimp only
  split
  · exact .next (.refl _ _)
  · split
    · exact .next (endWait_frame _ _ _ _ _)
    · exact .next (.refl _ _)

theorem approachInputChange_does (now : SiteTime) (t : TrackId) (e : SectionEnd) (level : Bool) (s : State) :
    Does ([.control t]) now s (exec (.approachInputChange now t e level) s) := by
  unfold exec execApproachInputChange
  dsimp only
  split
  · exact .next (.step (.one (setApproachInput_frame _ t e _)) (changeApproachBefore_frame _ t e _))
  · exact .next (setApproachInput_frame _ t e _)

theorem approachEdge_does (now : SiteTime) (t : TrackId) (e : SectionEnd) (s : State) :
    Does (wakeParts t) now s (exec (.approachEdge now t e) s) := by
  unfold exec execApproachEdge
  dsimp only
  split
  · exact .next (.trans (.one (setApproachInput_frame _ t e _)) (wakeTrack_frame _ t))
  · split
    · exact .next (.trans (.one (changeApproachBefore_frame _ t e _)) (wakeTrack_frame _ t))
    · exact .next (.refl _ _)

theorem approachInputInactive_does (now : SiteTime) (t : TrackId) (e : SectionEnd) (s : State) :
    Does ([.control t]) now s (exec (.approachInputInactive now t e) s) := by
  unfold exec execApproachInputInactive
  dsimp only
  split
  · exact .next (setApproachInput_frame _ t e _)
  · exact .next (.refl _ _)

theorem approachTimerExpiry_does (now : SiteTime) (t : TrackId) (s : State) :
    Does (restParts t) now s (exec (.approachTimerExpiry now t) s) := by
  unfold exec execApproachTimerExpiry
  dsimp only
  split
  · exact .next (enterIdle_frame _ t _)
  · exact .next (.refl _ _)

theorem closeDelayExpiry_does (now : SiteTime) (t : TrackId) (s : State) :
    Does ([.control t, .scanners t]) now s (exec (.closeDelayExpiry now t) s) := by
  unfold exec execCloseDelayExpiry
  dsimp only
  split
  · exact .next (.step (.one (setSection_frame _ t _)) (closeShutters_frame _ t))
  · split
    · exact .next (.step (.one (setSection_frame _ t _)) (closeShutters_frame _ t))
    · exact .next (.refl _ _)

theorem holdTimerExpiry_does (now : SiteTime) (t : TrackId) (s : State) :
    Does ([.control t, .pacer t]) now s (exec (.holdTimerExpiry now t) s) := by
  unfold exec execHoldTimerExpiry
  dsimp only
  split
  · exact .next (.refl _ _)
  · split
    · exact .next (enterStanding_frame _ t _)
    · exact .next (.refl _ _)

theorem clearTimerExpiry_does (now : SiteTime) (t : TrackId) (s : State) :
    Does (.context t :: .store :: .alarms :: .view .a :: .view .b :: restParts t) now s (exec (.clearTimerExpiry now t) s) := by
  unfold exec execClearTimerExpiry
  dsimp only
  split
  · exact .next (.step (.one (closePass_frame _ t _)) (enterIdle_frame _ t _))
  · exact .next (.refl _ _)

theorem quietTimerExpiry_does (now : SiteTime) (t : TrackId) (s : State) :
    Does (restParts t) now s (exec (.quietTimerExpiry now t) s) := by
  unfold exec execQuietTimerExpiry
  dsimp only
  split
  · split
    · exact .next (enterIdle_frame _ t _)
    · exact .next (.one (setSection_frame _ t _))
  · exact .next (.refl _ _)

theorem pacerFirstStep_does (now : SiteTime) (t : TrackId) (s : State) :
    Does ([.pacer t]) now s (exec (.pacerFirstStep now t) s) := by
  unfold exec execPacerFirstStep
  dsimp only
  split
  · exact .next (setPacer_frame _ t _)
  · exact .next (.refl _ _)

theorem paceTick_does (now : SiteTime) (t : TrackId) (s : State) :
    Does (.pacer t :: tickParts t) now s (exec (.paceTick now t) s) := by
  unfold exec execPaceTick
  dsimp only
  split
  · split
    · exact .next (.one (setPacer_frame _ t _))
    · exact .next (.step (.one (setPacer_frame _ t _)) (takeTick_frame _ t _))
  · exact .next (.refl _ _)

theorem zeroTimerExpiry_does (now : SiteTime) (t : TrackId) (s : State) :
    Does ([.zeroTimer t, .store, .slot .t1, .slot .t2, .scan, .lastServed]) now s (exec (.zeroTimerExpiry now t) s) := by
  unfold exec execZeroTimerExpiry
  dsimp only
  split
  · split
    · exact .next (.step (.one (startZeroTimer_frame _ t)) (requestScan_frame _ t _))
    · exact .next (.one (startZeroTimer_frame _ t))
  · exact .next (.refl _ _)

theorem conversionEnd_does (now : SiteTime) (sample : BitVec 16) (s : State) (t : TrackId)
    (ht : ∀ x, s.strain.scan = some x → x.track = t) :
    Does (.slot .t1 :: .slot .t2 :: .scan :: .lastServed :: .ambient :: .zeros t :: .drifted t ::
      .notices .a :: .notices .b :: wakeParts t) now s (exec (.conversionEnd now sample) s) := by
  unfold exec execConversionEnd
  dsimp only
  split
  · exact .next (.refl _ _)
  · rename_i x hx
    obtain rfl := ht x hx
    split
    · exact .next (.step (.one (takeSample_frame _ x _)) (endConversion_frame _ x))
    · exact .next (.refl _ _)

theorem linkMessageDiscarded_does (now : SiteTime) (link : Fin 8) (s : State) :
    Does ([]) now s (exec (.linkMessageDiscarded now link) s) := by
  unfold exec execLinkMessageDiscarded
  dsimp only
  exact .next (.refl _ _)

theorem scannerStatus_does (now : SiteTime) (link : Fin 8) (report : ShutterReport) (housing : BitVec 16) (s : State) :
    Does ([.scanners (scannerOfLink link).1, .notices .a, .notices .b]) now s (exec (.scannerStatus now link report housing) s) := by
  unfold exec execScannerStatus
  dsimp only
  exact .next (putScanner_frame _ _ _ _)

theorem scannerLine_does (now : SiteTime) (link : Fin 8) (seqNo : BitVec 8) (pixels : List (BitVec 16)) (s : State) :
    Does ([.scanners (scannerOfLink link).1, .control (scannerOfLink link).1]) now s (exec (.scannerLine now link seqNo pixels) s) := by
  unfold exec execScannerLine
  dsimp only
  split
  · exact .next (.refl _ _)
  · split
    · split
      · exact .next (.step (.one (setScanner_frame _ _ _ _)) (updateEntry_frame _ _ _ _))
      · exact .next (.one (setScanner_frame _ _ _ _))
    · exact .next (.refl _ _)

theorem silenceTimerExpiry_does (now : SiteTime) (link : Fin 8) (s : State) :
    Does ([.scanners (scannerOfLink link).1, .notices .a, .notices .b]) now s (exec (.silenceTimerExpiry now link) s) := by
  unfold exec execSilenceTimerExpiry
  dsimp only
  split
  · exact .next (putScanner_frame _ _ _ _)
  · exact .next (.refl _ _)

theorem openingTimerExpiry_does (now : SiteTime) (link : Fin 8) (s : State) :
    Does ([.scanners (scannerOfLink link).1, .notices .a, .notices .b]) now s (exec (.openingTimerExpiry now link) s) := by
  unfold exec execOpeningTimerExpiry
  dsimp only
  split
  · exact .next (putScanner_frame _ _ _ _)
  · exact .next (.refl _ _)

theorem lineTimerExpiry_does (now : SiteTime) (link : Fin 8) (s : State) :
    Does ([.scanners (scannerOfLink link).1]) now s (exec (.lineTimerExpiry now link) s) := by
  unfold exec execLineTimerExpiry
  dsimp only
  split
  · exact .next (.refl _ _)
  · split
    · exact .next (setScanner_frame _ _ _ _)
    · exact .next (.refl _ _)

theorem spacingLimitPassed_does (now : SiteTime) (t : TrackId) (s : State) :
    Does ([.context t]) now s (exec (.spacingLimitPassed now t) s) := by
  unfold exec execSpacingLimitPassed
  dsimp only
  split
  · exact .next (.refl _ _)
  · split
    · exact .next (setContext_frame _ t _)
    · exact .next (.refl _ _)

theorem pulseTimerExpiry_does (now : SiteTime) (line : Fin 8) (s : State) :
    Does ([.alarms]) now s (exec (.pulseTimerExpiry now line) s) := by
  unfold exec execPulseTimerExpiry
  dsimp only
  split
  · split
    · exact .next (withAlarms_frame _ _)
    · exact .next (.refl _ _)
  · exact .next (.refl _ _)
  · exact .next (.refl _ _)

theorem recoveryTimerExpiry_does (now : SiteTime) (line : Fin 8) (s : State) :
    Does ([.alarms]) now s (exec (.recoveryTimerExpiry now line) s) := by
  unfold exec execRecoveryTimerExpiry
  dsimp only
  split
  · split
    · exact .next (withAlarms_frame _ _)
    · exact .next (.refl _ _)
  · exact .next (.refl _ _)
  · exact .next (.refl _ _)

theorem withStation_frame (s : State) (w : Word) (n : SiteTime) :
    Frame [.stationTime, .secondStart] s { s with stationTime := w, secondStart := n } := by
  intro x hx
  cases x <;> first | rfl | exact ⟨rfl, rfl⟩ | simp at hx

theorem stationTimeAdvance_does (now : SiteTime) (s : State) :
    Does ([.stationTime, .secondStart]) now s (exec (.stationTimeAdvance now) s) := by
  unfold exec execStationTimeAdvance
  dsimp only
  split
  · exact .next (withStation_frame _ _ _)
  · exact .next (.refl _ _)

theorem setPort_frame {s : State} {p : Port} {v : StationPort} {F : List Part}
    (hn : v.notices = (s.port p).notices ∨ Part.notices p ∈ F)
    (hv : v.view = (s.port p).view ∨ Part.view p ∈ F)
    (ha : v.attached = (s.port p).attached ∨ Part.attached p ∈ F)
    (ht : (v.phase = (s.port p).phase ∧ v.dataOut = (s.port p).dataOut) ∨ Part.transaction p ∈ F) :
    Frame F s (s.setPort p v) := by
  have other : ∀ q, q ≠ p → (s.ports.set p v).get q = s.ports.get q := fun q h =>
    PerPort.get_set_of_ne _ h _
  intro x hx
  cases x with
  | notices q =>
    by_cases h : q = p
    · subst h; simpa [Part.Same, State.setPort, State.port] using hn.resolve_right hx
    · simp [Part.Same, State.setPort, other q h]
  | view q =>
    by_cases h : q = p
    · subst h; simpa [Part.Same, State.setPort, State.port] using hv.resolve_right hx
    · simp [Part.Same, State.setPort, other q h]
  | attached q =>
    by_cases h : q = p
    · subst h; simpa [Part.Same, State.setPort, State.port] using ha.resolve_right hx
    · simp [Part.Same, State.setPort, other q h]
  | transaction q =>
    by_cases h : q = p
    · subst h; simpa [Part.Same, State.setPort, State.port] using ht.resolve_right hx
    · simp [Part.Same, State.setPort, other q h]
  | _ => rfl

theorem stage_frame (s : State) (area : Area) (offset : Nat) (ws : List Word) :
    Frame [.site, .area .t1, .area .t2] s (s.stage area offset ws).1 := by
  intro x hx
  cases area with
  | site => cases x <;> first | rfl | exact ⟨rfl, rfl⟩ | simp at hx
  | track t =>
    cases x with
    | area u => cases u <;> simp at hx
    | _ => first | rfl | exact ⟨rfl, rfl⟩

theorem withConfig_frame (s : State) (c : ConfigStore) :
    Frame [.site, .area .t1, .area .t2, .generation] s { s with config := c } := by
  intro x hx
  cases x with
  | area u => cases u <;> simp at hx
  | _ => first | rfl | exact ⟨rfl, rfl⟩ | simp at hx

theorem selectAssert_does (now : SiteTime) (p : Port) (s : State) :
    Does ([.transaction p]) now s (exec (.selectAssert now p) s) := by
  unfold exec execSelectAssert
  dsimp only
  split
  · exact .next (setPort_frame (by simp) (by simp) (by simp) (by simp))
  all_goals exact .next (.refl _ _)

theorem selectDeassert_does (now : SiteTime) (p : Port) (s : State) :
    Does ([.site, .area .t1, .area .t2, .transaction p]) now s (exec (.selectDeassert now p) s) := by
  unfold exec execSelectDeassert
  dsimp only
  have he : Frame [.site, .area .t1, .area .t2, .transaction p] (s.atTime now)
      ((s.atTime now).endTransaction p) := by
    unfold State.endTransaction
    split
    · split
      · unfold State.stageTruncated
        split
        · exact .refl _ _
        · split
          · exact .one (stage_frame _ _ _ _)
          · exact .refl _ _
      · exact .refl _ _
    all_goals exact .refl _ _
  exact .next (he.trans (setPort_frame (by simp) (by simp) (by simp) (by simp)))

theorem byteShiftedIn_does (now : SiteTime) (p : Port) (b : Byte) (s : State) :
    Does ([.transaction p]) now s (exec (.byteShiftedIn now p b) s) := by
  unfold exec execByteShiftedIn
  dsimp only
  split
  · exact .next (.refl _ _)
  · split
    · exact .next (setPort_frame (by simp) (by simp) (by simp) (by simp))
    · exact .next (.refl _ _)

theorem unknownCommand_does (now : SiteTime) (p : Port) (bytes : List Byte) (s : State) :
    Does ([.transaction p]) now s (exec (.unknownCommand now p bytes) s) := by
  unfold exec execUnknownCommand
  dsimp only
  refine .next (transact_frame (F := []) fun args => ?_)
  exact .refl _ _

theorem status_does (now : SiteTime) (p : Port) (bytes : List Byte) (s : State) :
    Does ([.transaction p]) now s (exec (.status now p bytes) s) := by
  unfold exec execStatus
  dsimp only
  refine .next (transact_frame (F := []) fun args => ?_)
  exact checked_state (P := Frame _ _) (.refl _ _) (.refl _ _)

theorem attach_does (now : SiteTime) (p : Port) (bytes : List Byte) (s : State) :
    Does ([.transaction p, .attached p]) now s (exec (.attach now p bytes) s) := by
  unfold exec execAttach
  dsimp only
  refine .next (transact_frame (F := [.attached p]) fun args => ?_)
  refine checked_state (P := Frame _ _) (.refl _ _) ?_
  split
  · exact .refl _ _
  · exact setPort_frame (by simp) (by simp) (by simp) (by simp)

theorem detach_does (now : SiteTime) (p : Port) (bytes : List Byte) (s : State) :
    Does ([.transaction p, .attached p, .notices p, .store]) now s (exec (.detach now p bytes) s) := by
  unfold exec execDetach
  dsimp only
  refine .next (transact_frame (F := [.attached p, .notices p, .store]) fun args => ?_)
  refine checked_state (P := Frame _ _) (.refl _ _) ?_
  split
  · exact .trans (.one (withStore_frame _ _))
      (setPort_frame (by simp) (by simp) (by simp) (by simp))
  · exact .refl _ _

theorem listPasses_does (now : SiteTime) (p : Port) (bytes : List Byte) (s : State) :
    Does ([.transaction p]) now s (exec (.listPasses now p bytes) s) := by
  unfold exec execListPasses
  dsimp only
  refine .next (transact_frame (F := []) fun args => ?_)
  exact checked_state (P := Frame _ _) (.refl _ _) (.refl _ _)

theorem selectPass_does (now : SiteTime) (p : Port) (bytes : List Byte) (s : State) :
    Does ([.transaction p, .view p]) now s (exec (.selectPass now p bytes) s) := by
  unfold exec execSelectPass
  dsimp only
  refine .next (transact_frame (F := [.view p]) fun args => ?_)
  refine checked_state (P := Frame _ _) (.refl _ _) ?_
  split
  · exact setPort_frame (by simp) (by simp) (by simp) (by simp)
  · exact .refl _ _

theorem setView_frame (s : State) (p : Port) (v : PassView) : Frame [.view p] s (s.setView p v) :=
  setPort_frame (by simp) (by simp) (by simp) (by simp)

theorem runRead_frame (s : State) (p : Port) (part : ReadPart) (args : List Byte) :
    Frame [.view p] s (s.runRead p part args).1 := by
  refine checked_state (P := Frame _ _) (.refl _ _) ?_
  unfold State.readPart
  split
  · exact .refl _ _
  · exact setView_frame s p _
  · split
    · exact setView_frame s p _
    · exact setView_frame s p _

theorem readHeader_does (now : SiteTime) (p : Port) (bytes : List Byte) (s : State) :
    Does ([.transaction p, .view p]) now s (exec (.readHeader now p bytes) s) := by
  unfold exec execReadHeader
  dsimp only
  refine .next (transact_frame (F := [.view p]) fun args => ?_)
  exact runRead_frame _ p _ args

theorem readAxles_does (now : SiteTime) (p : Port) (bytes : List Byte) (s : State) :
    Does ([.transaction p, .view p]) now s (exec (.readAxles now p bytes) s) := by
  unfold exec execReadAxles
  dsimp only
  refine .next (transact_frame (F := [.view p]) fun args => ?_)
  exact runRead_frame _ p _ args

theorem readVehicles_does (now : SiteTime) (p : Port) (bytes : List Byte) (s : State) :
    Does ([.transaction p, .view p]) now s (exec (.readVehicles now p bytes) s) := by
  unfold exec execReadVehicles
  dsimp only
  refine .next (transact_frame (F := [.view p]) fun args => ?_)
  exact runRead_frame _ p _ args

theorem releasePass_does (now : SiteTime) (p : Port) (bytes : List Byte) (s : State) :
    Does ([.transaction p, .store]) now s (exec (.releasePass now p bytes) s) := by
  unfold exec execReleasePass
  dsimp only
  refine .next (transact_frame (F := [.store]) fun args => ?_)
  refine checked_state (P := Frame _ _) (.refl _ _)
    (needsAttached_state (P := Frame _ _) (.refl _ _) ?_)
  unfold State.releasePass
  split
  · exact .refl _ _
  · split
    · exact .refl _ _
    · split
      · exact .refl _ _
      · exact withStore_frame _ _

theorem readNotice_does (now : SiteTime) (p : Port) (bytes : List Byte) (s : State) :
    Does ([.transaction p, .notices p]) now s (exec (.readNotice now p bytes) s) := by
  unfold exec execReadNotice
  dsimp only
  refine .next (transact_frame (F := [.notices p]) fun args => ?_)
  refine checked_state (P := Frame _ _) (.refl _ _)
    (needsAttached_state (P := Frame _ _) (.refl _ _) ?_)
  unfold State.readNotice
  split
  · exact .refl _ _
  · exact setPort_frame (by simp) (by simp) (by simp) (by simp)

theorem readAlarms_does (now : SiteTime) (p : Port) (bytes : List Byte) (s : State) :
    Does ([.transaction p]) now s (exec (.readAlarms now p bytes) s) := by
  unfold exec execReadAlarms
  dsimp only
  refine .next (transact_frame (F := []) fun args => ?_)
  exact checked_state (P := Frame _ _) (.refl _ _) (.refl _ _)

theorem ackAlarm_does (now : SiteTime) (p : Port) (bytes : List Byte) (s : State) :
    Does ([.transaction p, .alarms]) now s (exec (.ackAlarm now p bytes) s) := by
  unfold exec execAckAlarm
  dsimp only
  refine .next (transact_frame (F := [.alarms]) fun args => ?_)
  refine checked_state (P := Frame _ _) (.refl _ _) ?_
  unfold State.ackAlarm
  split
  · exact .refl _ _
  · split
    · exact .refl _ _
    · exact withAlarms_frame _ _

theorem stageWrite_does (now : SiteTime) (p : Port) (bytes : List Byte) (s : State) :
    Does ([.transaction p, .site, .area .t1, .area .t2]) now s (exec (.stageWrite now p bytes) s) := by
  unfold exec execStageWrite
  dsimp only
  refine .next (transact_frame (F := [.site, .area .t1, .area .t2]) fun args => ?_)
  unfold State.runStageWrite
  split
  · split
    · exact .refl _ _
    · unfold State.stageWrite
      split
      · exact .refl _ _
      · exact stage_frame _ _ _ _
  · exact .refl _ _

theorem stageRead_does (now : SiteTime) (p : Port) (bytes : List Byte) (s : State) :
    Does ([.transaction p]) now s (exec (.stageRead now p bytes) s) := by
  unfold exec execStageRead
  dsimp only
  refine .next (transact_frame (F := []) fun args => ?_)
  unfold State.runAreaRead
  dsimp only
  split
  · exact checked_state (P := Frame _ _) (.refl _ _) (.refl _ _)
  · exact checked_state (P := Frame _ _) (.refl _ _) (.refl _ _)

theorem activeRead_does (now : SiteTime) (p : Port) (bytes : List Byte) (s : State) :
    Does ([.transaction p]) now s (exec (.activeRead now p bytes) s) := by
  unfold exec execActiveRead
  dsimp only
  refine .next (transact_frame (F := []) fun args => ?_)
  unfold State.runAreaRead
  dsimp only
  split
  · exact checked_state (P := Frame _ _) (.refl _ _) (.refl _ _)
  · exact checked_state (P := Frame _ _) (.refl _ _) (.refl _ _)

/-- Promoting every area that may be promoted. -/
abbrev promoteParts : List Part :=
  [.site, .ambient, .area .t1, .area .t2, .control .t1, .control .t2, .zeroTimer .t1, .zeroTimer .t2,
    .sensors .t1, .sensors .t2, .pairs .t1, .pairs .t2, .slot .t1, .slot .t2, .zeros .t1, .zeros .t2,
    .drifted .t1, .drifted .t2, .scan, .choice, .notices .a, .notices .b]

theorem promoteReady_frame (s : State) : Frame promoteParts s s.promoteReady :=
  .step (.step (.one (promoteSiteIfReady_frame s)) (promoteTrackIfReady_frame _ .t1))
    (promoteTrackIfReady_frame _ .t2)

theorem commit_does (now : SiteTime) (p : Port) (bytes : List Byte) (s : State) :
    Does (.transaction p :: .generation :: promoteParts) now s (exec (.commit now p bytes) s) := by
  unfold exec execCommit
  dsimp only
  refine .next (transact_frame (F := .generation :: promoteParts) fun args => ?_)
  refine checked_state (P := Frame _ _) (.refl _ _) ?_
  split
  · exact .refl _ _
  · exact .step (.step (.step (.one (withConfig_frame _ _)) (keepCoinciding_frame _ .t1))
      (keepCoinciding_frame _ .t2)) (promoteReady_frame _)

theorem abandon_does (now : SiteTime) (p : Port) (bytes : List Byte) (s : State) :
    Does ([.transaction p, .site, .area .t1, .area .t2, .generation]) now s (exec (.abandon now p bytes) s) := by
  unfold exec execAbandon
  dsimp only
  refine .next (transact_frame (F := [.site, .area .t1, .area .t2, .generation]) fun args => ?_)
  exact checked_state (P := Frame _ _) (.refl _ _) (withConfig_frame _ _)

/-- Taking a track out of service. -/
abbrev outParts (t : TrackId) : List Part :=
  .scanners t :: .context t :: .store :: .alarms :: .view .a :: .view .b :: restParts t

theorem takeOut_frame (s : State) (t : TrackId) : Frame (outParts t) s (s.takeOut t) := by
  unfold State.takeOut
  exact .step (.step (.step (.step (.step (.step (.one (abandonPass_frame s t _)) (leaveIdle_frame _ t))
    (setSection_frame _ t _)) (stopPacer_frame _ t)) (closeShutters_frame _ t))
    (promoteSiteIfReady_frame _)) (promoteTrackIfReady_frame _ t)

theorem runTrackControl_frame {F : List Part} {s : State} {args : List Byte} {run : TrackId → Executed}
    (h : ∀ t x, trackArguments args = some (t, x) → Frame F s (run t).1) :
    Frame F s (s.runTrackControl args run).1 := by
  unfold State.runTrackControl
  split
  · exact checked_state (P := Frame _ _) (.refl _ _) (.refl _ _)
  · rename_i x hx
    exact h x.1 x.2 hx

/-- The parts of both tracks that a track command may change. -/
abbrev trackCommandParts : List Part :=
  [.control .t1, .control .t2, .pacer .t1, .pacer .t2, .scanners .t1, .scanners .t2, .context .t1,
    .context .t2, .slot .t1, .slot .t2, .zeroTimer .t1, .zeroTimer .t2, .sensors .t1, .sensors .t2,
    .pairs .t1, .pairs .t2, .zeros .t1, .zeros .t2, .drifted .t1, .drifted .t2, .scan, .area .t1,
    .area .t2, .site, .ambient, .store, .alarms, .notices .a, .notices .b, .view .a, .view .b, .choice]

theorem trackAbort_does (now : SiteTime) (p : Port) (bytes : List Byte) (s : State) :
    Does (.transaction p :: trackCommandParts) now s (exec (.trackAbort now p bytes) s) := by
  unfold exec execTrackAbort
  dsimp only
  refine .next (transact_frame (F := trackCommandParts) fun args => ?_)
  refine runTrackControl_frame fun t _ _ => ?_
  unfold State.runTrackAbort
  split
  · exact .one (abortTrack_frame _ t) (by cases t <;> decide)
  · exact .refl _ _

theorem trackOut_does (now : SiteTime) (p : Port) (bytes : List Byte) (s : State) :
    Does (.transaction p :: trackCommandParts) now s (exec (.trackOut now p bytes) s) := by
  unfold exec execTrackOut
  dsimp only
  refine .next (transact_frame (F := trackCommandParts) fun args => ?_)
  refine runTrackControl_frame fun t _ _ => ?_
  unfold State.runTrackOut
  have h := Frame.one (F := trackCommandParts) (takeOut_frame (s.atTime now) t)
    (by cases t <;> decide)
  split <;> first | exact h | exact .refl _ _

theorem trackIn_does (now : SiteTime) (p : Port) (bytes : List Byte) (s : State) :
    Does (.transaction p :: trackCommandParts) now s (exec (.trackIn now p bytes) s) := by
  unfold exec execTrackIn
  dsimp only
  refine .next (transact_frame (F := trackCommandParts) fun args => ?_)
  refine runTrackControl_frame fun t _ _ => ?_
  unfold State.runTrackIn
  split
  · exact .one (takeIn_frame _ t) (by cases t <;> decide)
  · exact .refl _ _

/-- What a PURGE may change. -/
abbrev purgeParts : List Part :=
  [.sensors .t1, .sensors .t2, .control .t1, .control .t2, .choice, .alarms, .store, .notices .a,
    .notices .b, .view .a, .view .b]

theorem purgeFaults_frame (s : State) : Frame purgeParts s s.purgeFaults := by
  unfold State.purgeFaults
  refine .step (u := { s with
    sensors := ⟨clearSuspects s.sensors.t1, clearSuspects s.sensors.t2⟩
    sections :=
      ⟨{ s.sections.t1 with underflow := false }, { s.sections.t2 with underflow := false }⟩ }) ?_
    (notifyTogether_frame _ _ _)
  intro x hx
  cases x with
  | sensors u => cases u <;> simp at hx
  | control u => cases u <;> simp at hx
  | _ => first | rfl | exact ⟨rfl, rfl⟩

theorem runPurge_frame (s : State) (p : Port) (args : List Byte) :
    Frame purgeParts s (s.runPurge p args).1 := by
  unfold State.runPurge
  split
  · exact checked_state (P := Frame _ _) (.refl _ _) (.refl _ _)
  · rename_i x _
    unfold answer State.purge
    extract_lets a b c
    have ha : Frame purgeParts s a := by
      unfold a
      split
      · exact purgeFaults_frame s
      · exact .refl _ _
    have hb : Frame purgeParts s b := by
      unfold b
      split
      · exact .step ha (withAlarms_frame a _)
      · exact ha
    have hc : Frame purgeParts s c := by
      unfold c
      split
      · exact .step hb (reclaimReleased_frame _ b)
      · exact hb
    dsimp only
    split
    · exact hc.trans (setPort_frame (by cases p <;> simp) (by simp) (by simp) (by simp))
    · exact hc

theorem purgeFaults_does (now : SiteTime) (p : Port) (bytes : List Byte) (s : State) :
    Does (.transaction p :: purgeParts) now s (exec (.purgeFaults now p bytes) s) := by
  unfold exec execPurgeFaults
  dsimp only
  refine .next (transact_frame (F := purgeParts) fun args => ?_)
  exact runPurge_frame _ p args

theorem purgeNotices_does (now : SiteTime) (p : Port) (bytes : List Byte) (s : State) :
    Does (.transaction p :: purgeParts) now s (exec (.purgeNotices now p bytes) s) := by
  unfold exec execPurgeNotices
  dsimp only
  refine .next (transact_frame (F := purgeParts) fun args => ?_)
  exact runPurge_frame _ p args

theorem purgeAcked_does (now : SiteTime) (p : Port) (bytes : List Byte) (s : State) :
    Does (.transaction p :: purgeParts) now s (exec (.purgeAcked now p bytes) s) := by
  unfold exec execPurgeAcked
  dsimp only
  refine .next (transact_frame (F := purgeParts) fun args => ?_)
  exact runPurge_frame _ p args

theorem purgeReleased_does (now : SiteTime) (p : Port) (bytes : List Byte) (s : State) :
    Does (.transaction p :: purgeParts) now s (exec (.purgeReleased now p bytes) s) := by
  unfold exec execPurgeReleased
  dsimp only
  refine .next (transact_frame (F := purgeParts) fun args => ?_)
  exact runPurge_frame _ p args

theorem setTime_does (now : SiteTime) (p : Port) (bytes : List Byte) (s : State) :
    Does ([.transaction p, .stationTime, .secondStart]) now s (exec (.setTime now p bytes) s) := by
  unfold exec execSetTime
  dsimp only
  refine .next (transact_frame (F := [.stationTime, .secondStart]) fun args => ?_)
  exact checked_state (P := Frame _ _) (.refl _ _) (withStation_frame _ _ _)

/-- What a warm reset may change. -/
abbrev resetParts : List Part :=
  [.control .t1, .control .t2, .pacer .t1, .pacer .t2, .scanners .t1, .scanners .t2, .context .t1,
    .context .t2, .slot .t1, .slot .t2, .zeroTimer .t1, .zeroTimer .t2, .sensors .t1, .sensors .t2,
    .pairs .t1, .pairs .t2, .zeros .t1, .zeros .t2, .drifted .t1, .drifted .t2, .scan, .area .t1,
    .area .t2, .site, .ambient, .store, .alarms, .notices .a, .notices .b, .view .a, .view .b, .choice,
    .transaction .a, .transaction .b]

theorem closeForReset_frame (s : State) : Frame resetParts s s.closeForReset := by
  have h : ∀ s t, Frame resetParts s (s.abandonPass t .reset) := fun s t =>
    .one (abandonPass_frame s t .reset) (by cases t <;> decide)
  unfold State.closeForReset
  split
  · exact .trans (.trans (.one (withChoice_frame s _)) (h _ _)) (h _ _)
  · exact .trans (h s _) (h _ _)

theorem settle_frame (s : State) (t : TrackId) : Frame resetParts s (s.settle t) := by
  unfold State.settle
  split
  · exact .step (.step (.one (rest_frame s t _) (by cases t <;> decide)) (setSection_frame _ t _)
      (by cases t <;> decide)) (restartFilters_frame _ t) (by cases t <;> decide)
  · exact .refl _ _

theorem warmReset_frame (s : State) : Frame resetParts s s.warmReset := by
  unfold State.warmReset
  extract_lets a b
  have hi : Frame resetParts s s.closeForReset.clearAllIndications := by
    refine (closeForReset_frame s).trans ?_
    intro x hx
    cases x with
    | sensors u => cases u <;> simp at hx
    | _ => first | rfl | exact ⟨rfl, rfl⟩
  have ha : Frame resetParts s a := by
    refine ((hi.trans (settle_frame _ .t1)).trans (settle_frame _ .t2)).trans ?_
    intro x hx
    cases x with
    | pacer u => cases u <;> simp at hx
    | scanners u => cases u <;> simp at hx
    | slot u => cases u <;> simp at hx
    | _ => first | rfl | exact ⟨rfl, rfl⟩ | simp at hx
  have hb : Frame resetParts s b := by
    refine .step (u := { a with ports := a.ports.map StationPort.warmReset }) (ha.trans ?_)
      (promoteReady_frame _) (by decide)
    intro x hx
    cases x with
    | notices u => cases u <;> simp at hx
    | view u => cases u <;> simp at hx
    | attached u => cases u <;> rfl
    | transaction u => cases u <;> simp at hx
    | _ => rfl
  refine hb.trans ?_
  intro x hx
  cases x with
  | area u => cases u <;> simp at hx
  | _ => first | rfl | exact ⟨rfl, rfl⟩ | simp at hx

theorem reset_does (now : SiteTime) (p : Port) (bytes : List Byte) (s : State) :
    Does (.transaction p :: resetParts) now s (exec (.reset now p bytes) s) := by
  unfold exec execReset
  dsimp only
  refine .next (transact_frame (F := resetParts) fun args => ?_)
  exact checked_state (P := Frame _ _) (.refl _ _) (warmReset_frame _)

end Sys2Proof.Machine
end

