-- ==== Sys2Proof/Laws/Sensors.lean ====
section
/-! SUPPORT. What confirming an edge, taking it, and offering it to its pair machine can do (R5, R6, R11,
R12, R30, R38). -/

namespace Sys2Proof.Machine

open Sys2Proof

/-- Releasing where nothing is withheld does nothing. -/
theorem releaseAll_nil {s : State} {t : TrackId} {e : SectionEnd} (h : (s.pair t e).withheld = []) :
    s.releaseAll t e = s := by
  simp [State.releaseAll, h, State.release]

/-- R3, R5: with nothing withheld at its pair and no pending change at its partner, an edge is taken as it is
confirmed. -/
theorem confirmEdge_alone {s : State} {t : TrackId} {e : SectionEnd} {x : Role} {stamp : SiteTime}
    (hw : (s.pair t e).withheld = []) (hp : (s.sensor t e (partner x)).filter.pendingSince = none) :
    s.confirmEdge t e x stamp =
      (s.setSensor t e x { s.sensor t e x with filter := (s.sensor t e x).filter.confirm }).takeEdge t e
        ⟨x, !(s.sensor t e x).filter.level, stamp⟩ := by
  have heta : ({ state := (s.pair t e).state, withheld := [] } : PairMachine) = s.pair t e := by
    rw [← hw]
  unfold State.confirmEdge
  simp only [pair_setSensor, hw, insertEdge, State.releaseAll, pair_setPair, List.length_singleton,
    State.release, State.heldBack, sensor_setPair, sensor_setSensor_partner, hp, Bool.false_eq_true,
    if_false, setPair_setPair, heta]
  congr 1
  exact setPair_self (s.setSensor t e x _) t e

/-- No raw change of a sensor is among the commands that come together with the one being run. -/
theorem changeWaits_none {s : State} {t : TrackId} {e : SectionEnd} {x : Role}
    (h : ∀ level, Instr.sensorRawChange s.siteTime (inputOfSensor t e x) level ∉
      simultaneous s.siteTime s.pending) : s.changeWaits t e x = false := by
  simpa [State.changeWaits] using h (!(s.sensor t e x).filter.raw)

/-- R5: where no raw change of the pair's outer sensor comes together with it, a raw change is taken alone. -/
theorem takeRawChange_alone {s : State} {t : TrackId} {e : SectionEnd} {x : Role} {level : Bool}
    (h : s.changeWaits t e .outer = false) :
    s.takeRawChange t e x level = s.rawChange t e x level := by
  simp [State.takeRawChange, h]

/-- R5: a raw change of an outer sensor is never preceded by another. -/
theorem takeRawChange_outer (s : State) (t : TrackId) (e : SectionEnd) (level : Bool) :
    s.takeRawChange t e .outer level = s.rawChange t e .outer level := by
  simp [State.takeRawChange]

/-- R5: with debounce off, an inner sensor's change away from the filtered level is taken after the outer
sensor's change of the same microsecond. -/
theorem takeRawChange_tie {s : State} {t : TrackId} {e : SectionEnd} {level : Bool}
    (hd : (s.area t).debounce e .inner = none) (hl : level ≠ (s.sensor t e .inner).filter.level)
    (hw : s.changeWaits t e .outer = true) :
    s.takeRawChange t e .inner level =
      (s.rawChange t e .outer (!(s.sensor t e .outer).filter.raw)).rawChange t e .inner level := by
  simp [State.takeRawChange, hd, hl, hw]

/-- A track of which no COMMIT has kept anything is settled at every site time. -/
theorem settled_of_none {s : State} {t : TrackId} (now : SiteTime)
    (h : (s.section t).coinciding = none) : Settled s now t := by
  intro x hx
  simp [h] at hx

/-- R187: a settled track is judged by the present state alone. -/
theorem coinciding_of_settled {s : State} {now : SiteTime} {t : TrackId} (h : Settled s now t) :
    (s.atTime now).coinciding t = none := by
  unfold State.coinciding
  simp only [section_atTime]
  split
  · rfl
  · rename_i x hx
    refine if_neg fun hw => ?_
    obtain ⟨ht, hw⟩ := (Bool.and_eq_true _ _).mp hw
    obtain ⟨hi, ha⟩ := h x hx (of_decide_eq_true ht)
    cases hs : (s.section t).state <;> rw [hs] at hw hi ha <;> contradiction

/-- R187: without a COMMIT of the same site time an input of a track does what its area has it do. -/
theorem orAsBefore_alone {s : State} {t : TrackId} (run : State → State)
    (h : s.coinciding t = none) : s.orAsBefore t run = run s := by
  simp [State.orAsBefore, h]

/-- R187: what an input of a track can do: what it does by the present state, or what it does by what a COMMIT
of the same site time has kept, where that alone opens a pass. -/
theorem orAsBefore_cases (s : State) (t : TrackId) (run : State → State) :
    (∃ f, s.orAsBefore t run = (run s).changeCoinciding t f) ∨
    s.orAsBefore t run = run s ∨
    ∃ x, s.coinciding t = some x ∧ ((run (s.inputsBefore t x)).section t).state.waits = false ∧
      s.orAsBefore t run = (run (s.inputsBefore t x)).inputsOf (run s) t := by
  unfold State.orAsBefore
  dsimp only
  split
  · exact .inr (.inl rfl)
  · rename_i x hx
    split
    · exact .inr (.inl rfl)
    · split
      · rename_i hv; exact .inr (.inr ⟨x, hx, by simpa using hv, rfl⟩)
      · exact .inl ⟨_, rfl⟩

/-- R30: an edge at a pair that is not the exit pair of an open pass makes no exit mark. -/
theorem markExit_elsewhere {s : State} {t : TrackId} {e : SectionEnd} {x : Edge}
    (h : ∀ c, s.ctx t = some c → e ≠ exitEnd c.direction) : s.markExit t e x = s := by
  unfold State.markExit
  split
  · rfl
  · rename_i c hc
    simp [h c hc]

/-- R38: the activity of a sensor restarts the quiet timer of a DRAINING track, and of no other. -/
theorem sensorActivity_draining {s : State} {t : TrackId} {e : SectionEnd} {x : Edge}
    (h : s.ctx t = none) (hs : (s.section t).state = .draining) :
    s.sensorActivity t e x =
      s.setSection t { s.section t with quietTimer := s.startTimer (s.area t).clearTime } := by
  unfold State.sensorActivity
  rw [markExit_elsewhere (by simp [h])]
  simp [hs]

theorem sensorActivity_elsewhere {s : State} {t : TrackId} {e : SectionEnd} {x : Edge}
    (h : ∀ c, s.ctx t = some c → e ≠ exitEnd c.direction) (hs : (s.section t).state ≠ .draining) :
    s.sensorActivity t e x = s := by
  unfold State.sensorActivity
  rw [markExit_elsewhere h]
  simp [hs]

/-- R11: the first rise at a QUIET machine whose partner sensor is not HELD starts the wait. -/
theorem offerRise_first {s : State} {t : TrackId} {e : SectionEnd} {x : Role} {stamp : SiteTime}
    (hq : (s.pair t e).state = .quiet) (hh : (s.sensor t e (partner x)).held = false) :
    s.offerRise t e x stamp = s.setMachine t e (seenState x stamp) := by
  simp [State.offerRise, State.expirePassed, hq, PairState.waiting, State.firstRise, hh]

/-- R12: the second rise within the pair timeout completes a pair event. -/
theorem offerRise_second {s : State} {t : TrackId} {e : SectionEnd} {x : Role} {first stamp : SiteTime}
    (hq : (s.pair t e).state = seenState (partner x) first)
    (hi : interval first stamp ≤ (s.area t).pairSpacing e * 3600) :
    s.offerRise t e x stamp = (s.setMachine t e .quiet).takeEvent t
      (pairedEvent ((s.area t).pairSpacing e) e (partner x) first stamp) := by
  have hi' : ¬pairTimeout ((s.area t).pairSpacing e) < interval first stamp := Nat.not_lt.mpr hi
  cases x <;>
    simp [State.offerRise, State.expirePassed, hq, PairState.waiting, seenState, partner, hi']

end Sys2Proof.Machine
end

