-- ==== Sys2Proof/WellFormed.lean ====
section
/-! DEFINITION. Which operands a command may carry: the checks that the operand types do not make. -/

namespace Sys2Proof

/-- The bytes that complete a frame: at least one, and at most a whole frame of a command byte, a
length byte and 255 argument bytes (R189). -/
def frameBytesOk (bytes : List Byte) : Bool :=
  decide (1 ≤ bytes.length) && decide (bytes.length ≤ 257)

/-- A command's operands are such as the spec lets it carry: a LINE has eight pixels (R96), and a
station command's frame bytes are neither none nor more than a frame holds (R189). -/
def Instr.wf : Instr → Bool
  | .fullReset => true
  | .sensorRawChange _ _ _ => true
  | .debounceConfirm _ _ => true
  | .heldTimerExpiry _ _ => true
  | .pairTimeoutExpiry _ _ _ => true
  | .approachInputChange _ _ _ _ => true
  | .approachEdge _ _ _ => true
  | .approachTimerExpiry _ _ => true
  | .closeDelayExpiry _ _ => true
  | .holdTimerExpiry _ _ => true
  | .clearTimerExpiry _ _ => true
  | .quietTimerExpiry _ _ => true
  | .paceTick _ _ => true
  | .zeroTimerExpiry _ _ => true
  | .conversionEnd _ _ => true
  | .linkMessageDiscarded _ _ => true
  | .scannerStatus _ _ _ _ => true
  | .scannerLine _ _ _ pixels => decide (pixels.length = 8)
  | .silenceTimerExpiry _ _ => true
  | .openingTimerExpiry _ _ => true
  | .lineTimerExpiry _ _ => true
  | .spacingLimitPassed _ _ => true
  | .pulseTimerExpiry _ _ => true
  | .recoveryTimerExpiry _ _ => true
  | .stationTimeAdvance _ => true
  | .selectAssert _ _ => true
  | .selectDeassert _ _ => true
  | .unknownCommand _ _ bytes => frameBytesOk bytes
  | .status _ _ bytes => frameBytesOk bytes
  | .attach _ _ bytes => frameBytesOk bytes
  | .detach _ _ bytes => frameBytesOk bytes
  | .listPasses _ _ bytes => frameBytesOk bytes
  | .selectPass _ _ bytes => frameBytesOk bytes
  | .readHeader _ _ bytes => frameBytesOk bytes
  | .readAxles _ _ bytes => frameBytesOk bytes
  | .readVehicles _ _ bytes => frameBytesOk bytes
  | .releasePass _ _ bytes => frameBytesOk bytes
  | .readNotice _ _ bytes => frameBytesOk bytes
  | .readAlarms _ _ bytes => frameBytesOk bytes
  | .ackAlarm _ _ bytes => frameBytesOk bytes
  | .stageWrite _ _ bytes => frameBytesOk bytes
  | .stageRead _ _ bytes => frameBytesOk bytes
  | .activeRead _ _ bytes => frameBytesOk bytes
  | .commit _ _ bytes => frameBytesOk bytes
  | .abandon _ _ bytes => frameBytesOk bytes
  | .trackAbort _ _ bytes => frameBytesOk bytes
  | .trackOut _ _ bytes => frameBytesOk bytes
  | .trackIn _ _ bytes => frameBytesOk bytes
  | .purgeFaults _ _ bytes => frameBytesOk bytes
  | .purgeNotices _ _ bytes => frameBytesOk bytes
  | .purgeAcked _ _ bytes => frameBytesOk bytes
  | .purgeReleased _ _ bytes => frameBytesOk bytes
  | .setTime _ _ bytes => frameBytesOk bytes
  | .reset _ _ bytes => frameBytesOk bytes
  | .byteShiftedIn _ _ _ => true
  | .pacerFirstStep _ _ => true
  | .approachInputInactive _ _ _ => true

end Sys2Proof
end

