-- ==== Sys2Proof/Tests/Slice0.lean ====
section
/-! SUPPORT. The tests: what WellFormed refuses, figures of the spec's own tables and examples, and for
each statement with hypotheses a state and operands that meet them. -/

-- One proof after another: elaborated side by side they ask for more threads than check.sh allows.
set_option Elab.async false

namespace Sys2Proof.Tests

open Sys2Proof Sys2Proof.Machine

/-! ### WellFormed and the decoder -/

theorem test_line_of_seven_pixels_is_refused :
    (Instr.scannerLine 0 0 0 (List.replicate 7 0)).wf = false := by decide +kernel

theorem test_empty_frame_is_refused : (Instr.status 0 .a []).wf = false := by decide +kernel

theorem test_overlong_frame_is_refused : (Instr.stageWrite 0 .b (List.replicate 258 0)).wf = false := by
  decide +kernel

theorem test_longest_frame_is_taken : (Instr.stageWrite 0 .b (List.replicate 257 0)).wf = true := by decide +kernel

theorem test_no_word_spells_a_command : decodeTableWord 8 1 = none := by decide +kernel

/-! ### Figures of the spec -/

/-- R15, the table for a pair spacing of 600 mm. -/
theorem test_pair_speeds :
    pairSpeed 600 2160000 = (10, false) ∧ pairSpeed 600 30500 = (708, false) ∧
      pairSpeed 600 17000 = (1271, false) ∧ pairSpeed 600 8000 = (2500, true) := by decide +kernel

/-- R33: 1,250,000 µs at V = 720 and the default hold distance, 60,000,000 µs at V = 10. -/
theorem test_hold_times : holdTime 25000 720 = 1250000 ∧ holdTime 25000 10 = 60000000 := by decide +kernel

/-- R46: the increment at V = 720 with Δx 10 mm, and its greatest and least values. -/
theorem test_increments :
    incrementOf 720 10 = 8589935 ∧ incrementOf 2500 5 = 59652324 ∧ incrementOf 10 50 = 23861 := by
  decide +kernel

/-- Chapter 05, One axle, fully worked: bay 2 of rail L and the two wheels. -/
theorem test_worked_wheel :
    forceOf 15920 70000 = (17004, false) ∧ forceOf 23500 70000 = (25101, false) ∧
      wheelLoad [15820, 17004, 16050, 15990, 15760, 16110, 15930, 16020] = some 15987 ∧
      dynamicRatio (some 36200) (some 15987) = some 226 ∧
      imbalanceOf (some 15987) (some 16150) = some 497 := by decide +kernel

/-- Chapter 05, Wheels at the limits: cases B, D, E and F. -/
theorem test_wheels_at_the_limits :
    wheelLoad [16000, 16301] = some 16151 ∧ wheelLoad [0, 210, 180] = some 180 ∧
      dynamicRatio (some 0) (some 0) = none ∧ dynamicRatio (some 2000) (some 125) = some 999 := by
  decide +kernel

/-- R114: the spacings of its table. -/
theorem test_spacings :
    spacingOf 720 90000 false = 1800 ∧ spacingOf 50 1000000 false = 1389 ∧
      spacingOf 10 300000000 false = 65534 := by decide +kernel

/-! ### States for the witnesses -/

/-- What a command leaves of a state. -/
def after (c : Instr) (s : State) : State :=
  match exec c s with
  | .next t => t
  | .fault _ => s
  | .refused _ => s

/-- A track area with end pairs 600 mm apart (400 and 1,000 mm, 19,000 and 19,600 mm), one bay under rail L
on channel 0, a scan list of that channel, and the four scanners at 10,000 mm. -/
def areaWith (ws : List (Nat × Word)) : TrackArea :=
  let geometry : List (Nat × Word) :=
    [(0, 26215400), (1, 1245203600), (3, 171049216), (4, 16777216), (5, 131075900), (6, 65536),
      (52, 655360200), (53, 655360200), (54, 655360200), (55, 655360200)]
  ⟨⟨⟨(List.range 82).map fun i => ((ws ++ geometry).lookup i).getD (defaultTrackWord i)⟩, by simp⟩⟩

/-- A section controller in a state, with a count and a pass context. -/
def sectionIn (state : TrackState) (queue : List AxleEntry) (c : Option PassContext) : SectionController :=
  { SectionController.reset with state := state, count := queue.length, queue := queue, ctx := c }

/-- Pass 1 from end P, two axles counted in at V = 720. -/
def pass1 : PassContext where
  number := 1
  direction := .pq
  profile := (areaWith []).profile .pq
  ambient := some 200
  trackGeneration := 1
  siteGeneration := 1
  entryCount := 2
  exitCount := 0
  heldSpeed := 720
  speedMin := some 720
  speedMax := some 720
  speedSum := 1440
  rises := ⟨⟨0, 0⟩, ⟨0, 0⟩⟩
  tickTotal := 0
  recorded := true
  storing := true

/-- An axle entry just counted in. -/
def axle (index : Nat) : AxleEntry :=
  .ofCountIn index ⟨.p, true, true, 1000, 500, .outer, 720, false, false⟩

/-- The header of pass 1, open. -/
def header1 : HeldPass where
  number := 1
  track := .t1
  direction := .pq
  state := .opened
  endReason := none
  openSite := 1000
  openStation := 0
  closeSite := none
  closeStation := none
  entryCount := none
  exitCount := none
  speedMin := none
  speedMax := none
  speedMean := none
  ambient := some 200
  trackGeneration := 1
  siteGeneration := 1
  alarmCount := 0
  flags := ⟨false, false, false, false, false, false⟩
  retention := ⟨false, false⟩
  release := ⟨false, false⟩
  axles := []
  vehicles := []
  axleChunks := 0
  vehicleChunks := 0

/-- The header of a closed pass that port A holds. -/
def closed (number : Nat) (released : Bool) : HeldPass :=
  { header1 with
    number := number, state := .closed, endReason := some .normal, retention := ⟨true, false⟩,
    release := ⟨released, false⟩ }

/-- An unacknowledged alarm record of pass 1. -/
def record (number : Nat) : AlarmRecord :=
  ⟨number, ⟨.impact, .alarm, .t1, .pq, 1, 1, none, .l, 36000, 35000⟩, 1000, 0, [2], none⟩

/-- A site with track 1 configured, its section controller given. -/
def site (c : SectionController) : State :=
  { State.reset with
    siteTime := 1000
    sections := ⟨c, .reset⟩
    config := { ConfigStore.reset with
      generation := 1
      tracks := ⟨⟨areaWith [], areaWith [], 1, none⟩, ⟨.default, .default, 0, none⟩⟩ } }

/-- The site with pass 1 open and held by the store. -/
def running (state : TrackState) (queue : List AxleEntry) : State :=
  { site (sectionIn state queue (some pass1)) with
    store := { PassStore.reset with passes := [header1], nextPass := 2 }
    pacers := ⟨{ Pacer.reset with running := true, active := 1000000, preload := 1000000 }, .reset⟩ }

/-- Pass 1 from end Q instead. -/
def fromQ (s : State) : State :=
  s.setSection .t1 { s.section .t1 with ctx := some { pass1 with direction := .qp } }

/-- A sensor of the site's P pair with a rise pending since a stamp, its pair machine given. -/
def rising (s : State) (x : Role) (stamp : SiteTime) (m : PairState) : State :=
  (s.setSensor .t1 .p x ⟨⟨true, false, some stamp⟩, none, false, false⟩).setPair .t1 .p ⟨m, []⟩

/-- A port of a state, in COMMAND, attached or not. -/
def atPort (s : State) (attached : Bool) : State :=
  s.setPort .a { StationPort.reset with attached := attached, phase := .command }

/-- A whole frame. -/
def frame (cmd : Nat) (args : List Byte) : List Byte :=
  BitVec.ofNat 8 cmd :: BitVec.ofNat 8 args.length :: args

/-- The site in which much is going on: a pass open, its pacer running, an alarm listed, notices waiting at
an attached port. -/
def busy : State :=
  { running .occupied [axle 1, axle 2] with
    alarms := { AlarmUnit.reset with list := [record 1, record 3], next := 4 }
    ports := ⟨{ StationPort.reset with
      attached := true, notices := [⟨.passOpened 1 .t1 .pq false, 1000⟩, ⟨.overflow 5, 1001⟩] }, .reset⟩ }

/-- Staged images for both tracks that pass the checks, track 1's with some words, as port A sends a COMMIT. -/
def committing (s : State) (ws : List (Nat × Word)) : State :=
  atPort { s with config := { s.config with
    tracks := ⟨{ s.config.tracks.t1 with staged := areaWith ws },
      { s.config.tracks.t2 with staged := areaWith [(4, 16842752), (56, 16777216)] }⟩ } } false

/-- What the COMMIT at a site time leaves of a state. -/
def committed (now : SiteTime) (s : State) : State := after (.commit now .a (frame 51 [])) s

/-- What is asked of the state of a COMMIT that comes before an event of the same site time. -/
abbrev Committing (s : State) : Prop :=
  (s.section .t1).state = .idle ∧ (s.section .t1).coinciding = none ∧ s.config.validate = none ∧
    (s.config.tracks.get .t1).changes = true ∧ Completes s .a (frame 51 []) 51 []

theorem committedFirst_of_committing {s : State} (now : SiteTime) (h : Committing s) :
    CommittedFirst s (committed now s) now .t1 :=
  ⟨h.1, settled_of_none now h.2.1, h.2.2.1, h.2.2.2.1, .a, _, h.2.2.2.2, rfl⟩

/-! ### Witnesses: queue, time, frames and invariants -/

theorem witness_StepRunsTheFrontCommand :
    ({ busy with pending := [.paceTick 5 .t1] } : State).pending = .paceTick 5 .t1 :: [] ∧
      busy.pending = [] := ⟨rfl, rfl⟩

theorem witness_EveryCommandAnswersANextState :
    commandTime (.stationTimeAdvance 2000) = some 2000 := rfl

/-- SET TIME, a second that passes, ATTACH and DETACH, each with its change. -/
theorem witness_StationTimeAndAttachmentChangeByTheirOwnSteps :
    (after (.setTime 2000 .a (frame 66 [0, 0, 0, 9])) (atPort busy true)).stationTime = 9 ∧
      (after (.stationTimeAdvance 1000000) { busy with stationTime := 4294967295 }).stationTime = 1 ∧
      ((after (.attach 2000 .a (frame 2 [])) (atPort busy false)).port .a).attached = true ∧
      ((after (.detach 2000 .a (frame 3 [])) (atPort busy true)).port .a).attached = false := by decide +kernel

/-- The site with new images pending for track 1 and the site, its quiet timer over. -/
def promoting : State :=
  let s := site { sectionIn .draining [] none with quietTimer := some ⟨0, 1000⟩ }
  { s with config := { s.config with
    generation := 2
    site := { s.config.site with committed := some ((SiteArea.default.stageWord 345 16777216).1, 2) }
    tracks := ⟨{ s.config.tracks.t1 with committed := some (areaWith [(62, 33686016)], 2) },
      s.config.tracks.t2⟩ } }

theorem witness_ActiveAreasChangeOnlyAtRest :
    (after (.quietTimerExpiry 1000 .t1) promoting).area .t1 ≠ promoting.area .t1 ∧
      (after (.quietTimerExpiry 1000 .t1) promoting).siteArea ≠ promoting.siteArea := by decide +kernel

/-- One state that meets every invariant, and its step. -/
theorem witness_EveryStepKeeps :
    let s : State := { busy with pending := [.paceTick 5000 .t1] }
    (s.noticesOk = true ∧ s.alarms.listOk = true ∧ s.sectionsOk = true ∧ s.pacersOk = true ∧
      s.store.poolsOk = true ∧ s.openPassesOk = true) ∧
      step s = .next (after (.paceTick 5000 .t1) { s with pending := [] }) := ⟨by decide +kernel, rfl⟩

theorem witness_UnacknowledgedAlarmStaysListed :
    record 1 ∈ busy.alarms.list ∧ (record 1).acknowledged = none ∧
      exec (.ackAlarm 2000 .a (frame 34 [0, 0, 0, 1])) (atPort busy true) =
        .next (after (.ackAlarm 2000 .a (frame 34 [0, 0, 0, 1])) (atPort busy true)) :=
  ⟨by decide +kernel, rfl, rfl⟩

theorem witness_WarmResetBringsTheTracksToRest :
    Completes (atPort busy true) .a (frame 67 []) 67 [] ∧ busy.config.site.committed = none ∧
      busy.configured .t1 = true ∧
      (let u := after (.reset 2000 .a (frame 67 [])) (atPort (rising busy .outer 900 (.innerSeen 5)) true)
      u.pair .t1 .p = ⟨.quiet, []⟩ ∧ (u.sensor .t1 .p .outer).occupiedSince = some 2000 ∧
        u.strain.zeroTimers.get .t1 = some ⟨2000, 5000000⟩) := by decide +kernel

/-- No open pass and nothing pending; both areas pending; pass 1 open beside a closed pass that port A
holds. -/
theorem witness_WarmResetKeepsRecordsAndImages :
    (let s := atPort (site (sectionIn .idle [] none)) true
    Completes s .a (frame 67 []) 67 [] ∧ s.ctx .t1 = none ∧ s.ctx .t2 = none ∧
      s.config.site.committed = none ∧ ∀ t ∈ [TrackId.t1, .t2], (s.config.tracks.get t).committed = none) ∧
    (let s := atPort promoting true
    Completes s .a (frame 67 []) 67 [] ∧ (s.config.tracks.get .t1).committed.isSome = true ∧
      s.config.site.committed.isSome = true) ∧
    (let y := closed 65534 false
    let s := atPort { busy with store := { busy.store with passes := [y, header1] } } true
    Completes s .a (frame 67 []) 67 [] ∧ record 1 ∈ s.alarms.list ∧ (record 1).acknowledged = none ∧
      s.store.poolsOk = true ∧ s.openPassesOk = true ∧ s.ctx .t1 = some pass1 ∧
      s.store.find 1 = some header1 ∧ header1.track = .t1 ∧ s.ports.a.attached = true ∧ y ∈ s.store.passes ∧
      pass1.number ≠ y.number ∧ s.ctx .t2 = none ∧ s.contexts = ⟨none, none⟩ ∧
      y.release = ⟨false, false⟩ ∧ y.retention.a = true) := by decide +kernel

/-! ### Witnesses: wheel sensors and pair machines -/

theorem witness_RawChangeFollowsTheFilter :
    (Settled busy 2000 .t1 ∧ Settled (rising busy .outer 500 .quiet) 2000 .t1) ∧
    sensorOfInput 0 = (.t1, .p, .outer) ∧ sensorOfInput 4 = (.t2, .p, .outer) ∧
      busy.configured .t1 = true ∧ busy.configured .t2 = false ∧
      (busy.area .t1).debounce .p .outer ≠ none ∧
      (busy.sensor .t1 .p .outer).filter = ⟨false, false, none⟩ ∧
      ((rising busy .outer 500 .quiet).sensor .t1 .p .outer).filter = ⟨true, false, some 500⟩ ∧
      ((rising busy .outer 500 .quiet).pair .t1 .p).withheld = [] :=
  ⟨⟨settled_of_none _ rfl, settled_of_none _ rfl⟩, by decide +kernel⟩

/-- The site with a sensor P1 of a filter and condition, its debounce off if so said. -/
def outerWith (x : Sensor) (off : Bool) : State :=
  let s := busy.setSensor .t1 .p .outer x
  if off then
    { s with config := { s.config with
      tracks := ⟨{ s.config.tracks.t1 with active := areaWith [(2, 120)] }, s.config.tracks.t2⟩ } }
  else s

theorem witness_OccupancyAndHeldFollowTheSensor :
    (Settled (outerWith ⟨⟨true, true, none⟩, some 500, false, false⟩ true) 1000 .t1 ∧
      Settled (outerWith ⟨⟨false, true, some 900⟩, some 500, true, false⟩ false) 1000 .t1) ∧
    (let s := outerWith ⟨⟨true, true, none⟩, some 500, false, false⟩ true
    s.configured .t1 = true ∧ (s.area .t1).debounce .p .outer = none ∧
      (s.sensor .t1 .p .outer).filter = ⟨true, true, none⟩ ∧
      (s.sensor .t1 .p .inner).filter.pendingSince = none ∧ (s.pair .t1 .p).withheld = [] ∧
      (s.section .t1).state ≠ .draining ∧ s.pending = []) ∧
    (let s := outerWith ⟨⟨false, true, some 900⟩, some 500, true, false⟩ false
    (s.area .t1).debounceTime .p .outer = interval 900 1000 ∧
      (s.sensor .t1 .p .outer).filter = ⟨false, true, some 900⟩ ∧
      (s.sensor .t1 .p .outer).held = true ∧ (s.sensor .t1 .p .inner).filter.pendingSince = none) ∧
    (let s := outerWith ⟨⟨true, true, none⟩, some 500, false, false⟩ false
    (s.area .t1).heldLimit = interval 500 120000500 ∧ (s.sensor .t1 .p .outer).held = false ∧
      (s.sensor .t1 .p .outer).occupiedSince = some 500 ∧ (s.pair .t1 .p).state = .quiet) :=
  ⟨⟨settled_of_none _ rfl, settled_of_none _ rfl⟩, by decide +kernel⟩

/-- What the statement about a first rise asks of a state, with the rise of sensor P1 since 900. -/
abbrev FirstRise (s : State) : Prop :=
  (s.sensor .t1 .p .outer).filter = ⟨true, false, some 900⟩ ∧
    (s.area .t1).debounceTime .p .outer = interval 900 1000 ∧
    (s.sensor .t1 .p .outer).held = false ∧ (s.sensor .t1 .p .inner).held = false ∧
    (s.sensor .t1 .p .inner).filter.pendingSince = none ∧ s.pair .t1 .p = ⟨.quiet, []⟩ ∧
    (s.section .t1).coinciding = none

/-- At the entry pair of a pass; at its exit pair, where the rise is an exit mark; on a DRAINING track. -/
theorem witness_FirstRiseStartsTheWait :
    (∀ s ∈ [rising busy .outer 900 .quiet, rising (fromQ busy) .outer 900 .quiet,
        rising (site (sectionIn .draining [] none)) .outer 900 .quiet], FirstRise s) ∧
      Settled (rising busy .outer 900 .quiet) 1000 .t1 ∧
      .p ≠ exitEnd pass1.direction ∧ .p = exitEnd .qp ∧
      ((after (.debounceConfirm 1000 0) (rising (fromQ busy) .outer 900 .quiet)).section .t1).exitMarks =
        ⟨[⟨900, 0⟩], []⟩ ∧
      ((after (.debounceConfirm 1000 0)
        (rising (site (sectionIn .draining [] none)) .outer 900 .quiet)).section .t1).quietTimer =
          some ⟨1000, 3000000⟩ :=
  ⟨by decide +kernel, settled_of_none _ rfl, by decide +kernel, by decide +kernel, by decide +kernel,
    by decide +kernel⟩

/-- The site of the tests about a second rise: a rise of the P pair's sensor is confirmed at 2,160,100 after
the longest wait there is, the pair timeout of 2,160,000 µs. -/
def second (s : State) (x : Role) : State := rising s x 2160000 (seenState (partner x) 0)

/-- What the statements about a second rise ask of the sensors. -/
abbrev Second (s : State) (x : Role) : Prop :=
  CompletesWait s 2160100 2160000 0 (inputOfSensor .t1 .p x) .t1 .p x ∧
    interval 0 2160000 = (s.area .t1).pairSpacing .p * 3600

/-- A DRAINING track with debounce off, both sensors of its P pair low, and the outer sensor's rise waiting in
the same microsecond. -/
def tied : State :=
  let s := site (sectionIn .draining [] none)
  { s with
    config := { s.config with
      tracks := ⟨{ s.config.tracks.t1 with active := areaWith [(2, 120)] }, s.config.tracks.t2⟩ }
    pending := [.sensorRawChange 2000 0 true] }

theorem witness_SecondRiseCountsWhileDraining :
    (let s := second (site { sectionIn .draining [] none with count := 32 }) .inner
    Second s .inner ∧ (s.section .t1).state = .draining ∧ s.ctx .t1 = none) ∧
    (∀ x ∈ [Role.outer, .inner], (tied.area .t1).debounce .p x = none ∧
      (tied.sensor .t1 .p x).filter = ⟨false, false, none⟩ ∧ (tied.sensor .t1 .p x).held = false) ∧
    tied.pair .t1 .p = ⟨.quiet, []⟩ ∧ (tied.section .t1).state = .draining ∧ tied.ctx .t1 = none ∧
    .sensorRawChange 2000 (inputOfSensor .t1 .p .outer) true ∈ simultaneous 2000 tied.pending := by
  decide +kernel

/-- R5: of a tie delivered inner first, the event is inward, and the outer change that follows is taken
already. -/
theorem test_tie_is_taken_outer_first :
    let s := after (.sensorRawChange 2000 1 true) tied
    (s.section .t1).count = 1 ∧ s.pair .t1 .p = ⟨.quiet, []⟩ ∧
      ((after (.sensorRawChange 2000 0 true) s).section .t1).count = 1 := by decide +kernel

theorem witness_InwardEventOpensAPass :
    let s := second { site (sectionIn .idle [] none) with
      store := { PassStore.reset with passes := [closed 65533 false], nextPass := 65534 } } .inner
    Second s .inner ∧ (s.section .t1).state = .idle ∧ s.ctx .t1 = none ∧
      (s.section .t1).count = 0 ∧ (s.section .t1).queue = [] ∧
      s.store.find s.store.nextPass = none ∧ s.store.passes.length < 16 := by decide +kernel

/-- An inward event of the site time of a COMMIT, with the P1 sensor 500 mm before P2 in the new image, in
which the event would be too late for the pair, and a lower band limit of 60. -/
def openingAtCommit : State :=
  committing (second (site (sectionIn .idle [] none)) .inner) [(0, 32769000), (66, 3933760)]

theorem witness_InwardEventOpensAPassAfterACommit :
    Committing openingAtCommit ∧ Second openingAtCommit .inner ∧
      CommittedFirst openingAtCommit (committed 2160100 openingAtCommit) 2160100 .t1 ∧
      openingAtCommit.ctx .t1 = none ∧ (openingAtCommit.section .t1).count = 0 ∧
      (openingAtCommit.section .t1).queue = [] ∧
      openingAtCommit.store.find openingAtCommit.store.nextPass = none ∧
      openingAtCommit.store.passes.length < 16 :=
  have h : Committing openingAtCommit := by decide +kernel
  ⟨h, by decide +kernel, committedFirst_of_committing _ h, by decide +kernel, by decide +kernel,
    by decide +kernel, by decide +kernel, by decide +kernel⟩

/-- R187, row 1: COMMIT, then the edge: the area promotes, then the pass opens with the new image; in the
next microsecond it does not open. -/
theorem test_pass_opens_with_the_committed_image :
    ((after (.debounceConfirm 2160100 1) (committed 2160100 openingAtCommit)).ctx .t1).map
      (fun c => (c.profile.bandLower, c.trackGeneration, c.heldSpeed)) = some (60, 2, 10) ∧
    (after (.debounceConfirm 2160101 1) (committed 2160100 openingAtCommit)).ctx .t1 = none := by
  decide +kernel

/-- An OCCUPIED track with 31 axles, and a STANDING one, whose pacer starts. -/
theorem witness_InwardEventCountsAnAxleIn :
    (let s := second (running .occupied ((List.range 31).map axle)) .inner
    Second s .inner ∧ (s.section .t1).state = .occupied ∧
      s.ctx .t1 = some pass1 ∧ .p = entryEnd pass1.direction ∧ (s.section .t1).count = 31) ∧
    (let s := (second (running .standing [axle 1]) .inner).setPacer .t1 .reset
    Second s .inner ∧ (s.section .t1).state = .standing ∧ s.ctx .t1 = some pass1 ∧
      (s.section .t1).count = 1 ∧ (s.pacer .t1).running = false ∧
      (let u := after (.debounceConfirm 2160100 1) s
      (u.section .t1).state = .occupied ∧ (u.section .t1).count = 2 ∧ (u.pacer .t1).running = true ∧
        (u.pacer .t1).fresh = true)) := by decide +kernel

/-- The site with pass 1 held with the fresh records of its two axles. -/
def recorded (s : State) : State :=
  { s with store := { s.store with
    passes := [{ header1 with axles := [.fresh (axle 1), .fresh (axle 2)], axleChunks := 1 }]
    freeAxleChunks := 63 } }

/-- The last axle of the section, and one of two whose record is stored. -/
theorem witness_OutwardEventTakesTheHeadOut :
    (let s := second (fromQ (running .occupied [axle 1])) .outer
    Second s .outer ∧ (s.section .t1).state = .occupied ∧
      s.ctx .t1 = some { pass1 with direction := .qp } ∧ .p = exitEnd .qp ∧
      (s.section .t1).queue = axle 1 :: [] ∧ (s.section .t1).count = 1) ∧
    (let s := recorded (second (fromQ (running .occupied [axle 1, axle 2])) .outer)
    Second s .outer ∧ (s.section .t1).queue = axle 1 :: [axle 2] ∧ (s.section .t1).count = 2 ∧
      (((after (.debounceConfirm 2160100 0) s).store.find 1).map fun q =>
        (q.track, q.axles.map fun r => (r.index, r.status))) =
          some (.t1, [(1, .final), (2, .pending)])) := by decide +kernel

/-- A STANDING track whose first axle, of some ticks, leaves with an exit mark of its first edge. -/
def leaving (ticks : Nat) : State :=
  let s := recorded (second (fromQ (running .standing [{ axle 1 with ticks := ticks }, axle 2])) .outer)
  s.setSection .t1 { s.section .t1 with exitMarks := ⟨[], [⟨0, 0⟩]⟩ }

/-- The event of a STANDING track, with an exit mark: at 1,815 ticks the drift is at its limit of 150 mm, and at
1,816 beyond it. -/
theorem witness_OutwardEventOfAStandingTrack :
    ∀ x ∈ [(1815, some (-150 : Int), false), (1816, some (-160), true)],
      Second (leaving x.1) .outer ∧ ((leaving x.1).section .t1).state = .standing ∧
        ((leaving x.1).section .t1).queue = { axle 1 with ticks := x.1 } :: [axle 2] ∧
        ((leaving x.1).section .t1).count = 2 ∧
        (((after (.debounceConfirm 2160100 0) (leaving x.1)).store.find 1).map fun q =>
          (q.axles.take 1).map fun r => (r.drift, r.flags.positionUncertain)) = some [x.2] := by
  decide +kernel

/-- A reversal with two axles, and an overrun with 32; an inward event at the exit pair with 2 and with 32
axles; a STANDING track. -/
theorem witness_ReversalAndOverrunForceThePassOut :
    (let s := recorded (second (running .occupied [axle 1, axle 2]) .outer)
    Second s .outer ∧ (s.section .t1).state = .occupied ∧ s.ctx .t1 = some pass1 ∧
      .p = entryEnd pass1.direction ∧ s.store.poolsOk = true ∧
      (s.store.find pass1.number).map (fun p => p.track) = some .t1 ∧ s.config.site.committed = none) ∧
    (let s := second (running .occupied ((List.range 32).map axle)) .inner
    Second s .inner ∧ (s.section .t1).state = .occupied ∧ s.ctx .t1 = some pass1 ∧
      (s.section .t1).count = 32 ∧ s.store.poolsOk = true) ∧
    (∀ state ∈ [TrackState.occupied, .standing], ∀ n ∈ [2, 32],
      let s := second (fromQ (running state ((List.range n).map axle))) .inner
      Second s .inner ∧ (s.section .t1).state = state ∧
        s.ctx .t1 = some { pass1 with direction := .qp } ∧ .p = exitEnd .qp ∧
        s.store.poolsOk = true ∧
        ((after (.debounceConfirm 2160100 1) s).section .t1).count = min (n + 1) 32) := by decide +kernel

/-- A COUNT_UNDERFLOW at rest; in CLEARING an event outward, one inward at the entry pair, and one inward at
the exit pair with port A attached. -/
theorem witness_ClearingTrackTakesItsEvents :
    Settled (second (site (sectionIn .approach [] none)) .outer) 2160100 .t1 ∧
    (let s := second (site (sectionIn .approach [] none)) .outer
    Second s .outer ∧ (s.section .t1).state = .approach ∧ s.ctx .t1 = none) ∧
    (let s := second (running .clearing []) .outer
    Second s .outer ∧ (s.section .t1).state = .clearing ∧ s.ctx .t1 = some pass1) ∧
    (let s := second (running .clearing []) .inner
    Second s .inner ∧ .p = entryEnd pass1.direction ∧ (s.section .t1).count = 0 ∧
      (s.section .t1).queue = [] ∧ (s.pacer .t1).running = true) ∧
    (let s := atPort (second (fromQ (running .clearing [])) .inner) true
    Second s .inner ∧ (s.section .t1).state = .clearing ∧
      s.ctx .t1 = some { pass1 with direction := .qp } ∧ .p = exitEnd .qp ∧
      s.store.poolsOk = true ∧ s.store.find s.store.nextPass = none ∧ s.store.passes.length < 16 ∧
      s.store.find 1 = some header1 ∧ (s.port .a).attached = true ∧ (s.port .a).notices = [] ∧
      s.context .t1 = none) := ⟨settled_of_none _ rfl, by decide +kernel⟩

theorem witness_SpeedsIncrementsAndHoldTimesAreRounded :
    200 ≤ 1000 ∧ 1000 ≤ 1000 ∧ 3600000 ≤ 1000 * 3600 ∧ (pairSpeed 1000 3600000).1 = 10 ∧
      (incrementOf 2500 5).toNat = (2500 * 8589934592 + 36000 * 5) / (72000 * 5) := by decide +kernel

/-- A timeout without a pass, the silent sensor already SUSPECT and not so; with a pass open, a timeout, a
rise beside a HELD partner, a partner that becomes HELD, and a further rise: of an axle overdue (30,000 µs is
its transit time at 720) and of one that just is not. -/
theorem witness_SingleSensorCountsFollowTheirRules :
    (let s := (site (sectionIn .idle [] none)).setPair .t1 .p ⟨.outerSeen 0, []⟩
    s.pair .t1 .p = ⟨seenState .outer 0, []⟩ ∧ (s.area .t1).pairSpacing .p * 3600 = interval 0 2160000 ∧
      (s.sensor .t1 .p .inner).filter.pendingSince = none ∧ s.ctx .t1 = none ∧
      (s.sensor .t1 .p .inner).suspect = false ∧
      ((s.setSensor .t1 .p .inner { Sensor.reset with suspect := true }).sensor .t1 .p .inner).suspect =
        true) ∧
    (∀ queue ∈ [[axle 1], (List.range 31).map axle],
      let s := running .occupied queue
      (s.section .t1).state = .occupied ∧ s.ctx .t1 = some pass1 ∧ (s.section .t1).queue ≠ [] ∧
        (s.section .t1).count < 32) ∧
    (let s := (rising (running .occupied [axle 1]) .outer 900 .quiet).setSensor .t1 .p .inner
      { Sensor.reset with held := true }
    (s.sensor .t1 .p .outer).filter = ⟨true, false, some 900⟩ ∧
      (s.area .t1).debounceTime .p .outer = interval 900 1000 ∧ (s.sensor .t1 .p .outer).held = false ∧
      (s.sensor .t1 .p .inner).filter.pendingSince = none ∧ (s.sensor .t1 .p .inner).held = true ∧
      s.pair .t1 .p = ⟨.quiet, []⟩) ∧
    (let s := ((running .occupied [axle 1]).setPair .t1 .p ⟨.outerSeen 0, []⟩).setSensor .t1 .p .inner
      { Sensor.reset with occupiedSince := some 500 }
    (s.sensor .t1 .p .inner).held = false ∧ (s.sensor .t1 .p .inner).occupiedSince = some 500 ∧
      (s.area .t1).heldLimit = interval 500 120000500) ∧
    (let s := fun stamp : SiteTime => rising (running .occupied [axle 1]) .outer stamp (.outerSeen 0)
    let least := 2 * ((2 * (((s 0).area .t1).pairSpacing .p * 36000) + pass1.heldSpeed) /
      (2 * pass1.heldSpeed))
    (s 60001).pair .t1 .p = ⟨seenState .outer 0, []⟩ ∧
      interval 0 60001 ≤ ((s 60001).area .t1).pairSpacing .p * 3600 ∧
      ((s 60001).section .t1).state ≠ .draining ∧ .p ≠ exitEnd pass1.direction ∧
      least < interval 0 60001 ∧ interval 0 60000 ≤ least) ∧
    Settled (rising (running .occupied [axle 1]) .outer 60000 (.outerSeen 0)) 60100 .t1 :=
  ⟨by decide +kernel, by decide +kernel, by decide +kernel, by decide +kernel, by decide +kernel,
    settled_of_none _ rfl⟩

/-! ### Witnesses: approach inputs and section timers -/

/-- A section controller with a P approach input of a filter. -/
def approached (c : SectionController) (f : InputFilter) : State :=
  site { c with approach := { c.approach with p := f } }

/-- An approach edge of the site time of a COMMIT whose image has an approach timeout of 100 s. -/
def edgeAtCommit : State :=
  committing (approached (sectionIn .idle [] none) ⟨true, false, some 0⟩) [(63, 6553750)]

theorem witness_ApproachEdgeAfterACommit :
    Committing edgeAtCommit ∧ CommittedFirst edgeAtCommit (committed 1000 edgeAtCommit) 1000 .t1 ∧
      (edgeAtCommit.section .t1).approach.get .p = ⟨true, false, some 0⟩ ∧ 1000 = interval 0 1000 :=
  have h : Committing edgeAtCommit := by decide +kernel
  ⟨h, committedFirst_of_committing _ h, by decide +kernel, by decide +kernel⟩

/-- R187, row 2: COMMIT, then the approach edge: the area promotes, then the track goes to APPROACH; in the
next microsecond it does not. -/
theorem test_approach_edge_wakes_the_promoted_track :
    ((after (.approachEdge 1000 .t1 .p) (committed 1000 edgeAtCommit)).section .t1).approachTimer =
      some ⟨1000, 100000000⟩ ∧
    ((after (.approachEdge 1001 .t1 .p) (committed 1000 edgeAtCommit)).section .t1).state = .idle := by
  decide +kernel

/-- The filters of the five clauses, and a close delay that ends in the microsecond of the edge. -/
theorem witness_ApproachInputsWakeTheTrack :
    (Settled busy 2000 .t1 ∧
      Settled (approached (sectionIn .idle [] none) ⟨true, false, some 5⟩) 2000 .t1) ∧
    (busy.configured .t1 = true ∧ ((busy.section .t1).approach.get .p) = ⟨false, false, none⟩) ∧
    ((approached (sectionIn .idle [] none) ⟨true, false, some 5⟩).section .t1).approach.get .p =
      ⟨true, false, some 5⟩ ∧
    busy.configured .t2 = false ∧
    (((approached (sectionIn .idle [] none) ⟨false, true, some 0⟩).section .t1).approach.get .p =
      ⟨false, true, some 0⟩ ∧ 1000 = interval 0 1000) ∧
    (∀ state ∈ [TrackState.idle, .approach, .draining],
      let s := approached (sectionIn state [] none) ⟨true, false, some 0⟩
      (s.section .t1).approach.get .p = ⟨true, false, some 0⟩ ∧ (s.section .t1).state = state) ∧
    (let s := approached { sectionIn .idle [] none with closeDelay := some ⟨0, 1000⟩ } ⟨true, false, some 0⟩
    ((after (.approachEdge 1000 .t1 .p) s).section .t1).lateClose = some 1000) :=
  ⟨⟨settled_of_none _ rfl, settled_of_none _ rfl⟩, by decide +kernel⟩

/-- R102: an approach edge and the end of the close delay in one microsecond, the close second: SHUTTER OPEN
then SHUTTER CLOSE are sent (after the SHUTTER CLOSE of the full reset), and the opening timer is stopped. -/
theorem test_open_then_close_in_one_microsecond :
    let s := approached { sectionIn .idle [] none with closeDelay := some ⟨0, 1000⟩ } ⟨true, false, some 0⟩
    let x := (after (.closeDelayExpiry 1000 .t1) (after (.approachEdge 1000 .t1 .p) s)).scanner .t1 .bl
    x.sent = [.shutterClose, .shutterOpen, .shutterClose] ∧ x.openingTimer = none ∧ x.wantedOpen = false := by
  decide +kernel

/-- Both timers with no area pending and with one of the track pending; a quiet timer with the count above
0; a close delay that ends, and one that has ended in the microsecond in which the track left IDLE. -/
theorem witness_ApproachQuietAndCloseDelayExpire :
    (let s := site { sectionIn .approach [] none with approachTimer := some ⟨0, 1000⟩ }
    1000 = interval 0 1000 ∧ s.config.site.committed = none ∧
      (s.config.tracks.get .t1).committed = none ∧
      (s.section .t1).approachTimer = some ⟨0, 1000⟩) ∧
    (let s := { promoting with config := { promoting.config with site := (site .reset).config.site } }
    (s.section .t1).quietTimer = some ⟨0, 1000⟩ ∧ (s.section .t1).count = 0 ∧
      s.config.site.committed = none ∧ (s.config.tracks.get .t1).committed.isSome = true ∧
      (s.section .t1).state ≠ .unconfigured) ∧
    (let s := site { sectionIn .draining [] none with count := 1, quietTimer := some ⟨0, 1000⟩ }
    (s.section .t1).quietTimer = some ⟨0, 1000⟩ ∧ (s.section .t1).count ≠ 0) ∧
    ((site { sectionIn .idle [] none with closeDelay := some ⟨0, 1000⟩ }).section .t1).closeDelay =
      some ⟨0, 1000⟩ ∧
    ((site { sectionIn .approach [] none with lateClose := some 1000 }).section .t1).lateClose =
      some 1000 := by decide +kernel

theorem witness_HoldExpiryStandsTheTrack :
    let s := site { sectionIn .occupied [axle 1] (some pass1) with holdTimer := some ⟨0, 1000⟩ }
    (s.section .t1).holdTimer = some ⟨0, 1000⟩ ∧ 1000 = interval 0 1000 ∧ s.ctx .t1 = some pass1 := by
  decide +kernel

/-- Counts that differ, an alarm number and room in the list, and the pass held. -/
theorem witness_ClearExpiryClosesThePass :
    let s := { running .clearing [] with
      sections := ⟨{ sectionIn .clearing [] (some pass1) with clearTimer := some ⟨0, 1000⟩ }, .reset⟩ }
    (s.section .t1).clearTimer = some ⟨0, 1000⟩ ∧ 1000 = interval 0 1000 ∧ s.ctx .t1 = some pass1 ∧
      s.store.poolsOk = true ∧ s.store.find 1 = some header1 ∧ header1.track = .t1 ∧
      pass1.entryCount ≠ pass1.exitCount ∧ s.alarms.next < 4294967295 ∧
      s.alarms.list.length < 256 := by decide +kernel

/-! ### Witnesses: pacer, converter, scanners, lines -/

/-- A fresh pacer one microsecond on, and a step that just reaches 2^32. -/
theorem witness_PacerStepsAndTicks :
    (let s := busy.setPacer .t1 ⟨true, true, 0, 999, 5, 5, false⟩
    (s.pacer .t1).running = true ∧ (s.pacer .t1).fresh = true ∧ 1 = interval (s.pacer .t1).since 1000) ∧
    (let s := busy.setPacer .t1 ⟨true, false, 4294967291, 999, 5, 5, true⟩
    (s.pacer .t1).running = true ∧ (s.pacer .t1).fresh = false ∧ 0 < (s.pacer .t1).active.toNat ∧
      4294967296 = (s.pacer .t1).acc.toNat +
        interval (s.pacer .t1).since 1000 * (s.pacer .t1).active.toNat ∧
      s.ctx .t1 = some pass1) := by decide +kernel

/-- An entry that the tick brings to x mm, from 1,000 mm at 10 mm a tick. -/
def axleBefore (index x : Nat) : AxleEntry := { axle index with ticks := (x - 1000) / 10 - 1 }

/-- The site with entries in the queue, a tick due at 1,000, and a view of scanner BL. -/
def ticking (queue : List AxleEntry) (view : ShutterView) : State :=
  let s := (recorded (running .occupied queue)).setPacer .t1
    ⟨true, false, 4294967291, 999, 5, 5, false⟩
  s.setScanner .t1 .bl { Scanner.reset with view := view }

/-- The slot and the converter free; a scan in progress; the slot taken. Two entries in one bay. An entry in
a gate, its scanner OPEN, CLOSED and SILENT. -/
theorem witness_TickAssignsBaysAndScanners :
    (let s := ticking [axleBefore 1 2050] .closed
    (s.pacer .t1).tickDue 1000 = true ∧ s.ctx .t1 = some pass1 ∧ s.strain.slots = ⟨none, none⟩ ∧
      s.strain.scan = none ∧ (after (.paceTick 1000 .t1) s).strain.scan.isSome = true ∧
      (let x : Scan := ⟨.t2, .zero, [(0, 0)], none, 0, 0, false⟩
      let busyScan := { s with strain := { s.strain with scan := some x } }
      busyScan.slot .t1 = none ∧ busyScan.strain.scan ≠ none ∧
        ((after (.paceTick 1000 .t1) busyScan).slot .t1).isSome = true ∧
        (((after (.paceTick 1000 .t1) { busyScan with strain := { busyScan.strain with
          slots := ⟨some .zero, none⟩ } }).store.find 1).map fun q => q.flags.paceOverrun) = some true)) ∧
    (((after (.paceTick 1000 .t1) (ticking [axleBefore 1 2050, axleBefore 2 2060] .closed)).section
      .t1).queue.map fun e => ((bayGet e.bays .l 0).overlap, e.flags.overlap)) =
        [(true, true), (true, true)] ∧
    (∀ view ∈ [ShutterView.opened, .closed, .silent],
      let u := after (.paceTick 1000 .t1) (ticking [axleBefore 1 10200] view)
      ((u.scanner .t1 .bl).request.isSome = true ↔ view = .opened) ∧
      (u.section .t1).queue.map (fun e => (e.scanners.get .bl).mark) =
        [if view = .closed then .shutter else if view = .silent then .fault else .none]) := by
  decide +kernel

/-- The site at rest with a scan in progress. -/
def scanning (x : Scan) (zero : Int) : State :=
  let s := site (sectionIn .idle [] none)
  { s with strain := { s.strain with
    scan := some x
    zeros := ⟨⟨.replicate 8 (some zero), .replicate 8 none⟩, s.strain.zeros.t2⟩
    zeroTimers := ⟨some ⟨0, 1000⟩, none⟩ } }

theorem witness_ZeroTimerExpiryAsksForAScan :
    (let s := { scanning ⟨.t1, .zero, [(0, 0)], none, 0, 0, false⟩ 5 with
      strain := { StrainUnit.reset with zeroTimers := ⟨some ⟨0, 1000⟩, none⟩ } }
    s.strain.zeroTimers.get .t1 = some ⟨0, 1000⟩ ∧ 1000 = interval 0 1000 ∧
      s.strain.slots = ⟨none, none⟩ ∧ s.strain.scan = none) ∧
    (let x : Scan := ⟨.t1, .zero, [(0, 0)], none, 0, 0, false⟩
    (scanning x 5).strain.zeroTimers.get .t1 = some ⟨0, 1000⟩ ∧ (scanning x 5).strain.scan = some x ∧
      x.track = .t1) := by decide +kernel

/-- The ambient sample that ends a scan; a bay sample that reaches the wake threshold of 3,000 and one that
does not; one that takes a zero beyond the limit of 2,000. -/
theorem witness_ZeroScanSamplesFollowTheirRules :
    (let x : Scan := ⟨.t1, .zero, [(0, 0)], some 7, 1, 0, false⟩
    (scanning x 5).strain.scan = some x ∧ 4 * (x.done + 1) = interval x.grantedAt 8 ∧
      x.ambientChannel = some 7 ∧ x.done = x.entries.length ∧
      (scanning x 5).strain.slots = ⟨none, none⟩) ∧
    (let x : Scan := ⟨.t1, .zero, [(0, 0)], none, 0, 0, false⟩
    let s := scanning x 5
    s.strain.scan = some x ∧ 4 * (x.done + 1) = interval x.grantedAt 4 ∧ x.request = .zero ∧
      x.entries[x.done]? = some (0, 0) ∧ x.promotedSince = false ∧ (s.section x.track).state = .idle ∧
      (s.area x.track).bayOfChannel 0 = some (.l, 0) ∧ s.zero x.track .l 0 = some 5 ∧
      (s.area .t1).wakeThreshold = 3000 ∧ 3000 ≤ ((3005 : BitVec 16).toInt - 5).natAbs ∧
      ¬3000 ≤ ((3004 : BitVec 16).toInt - 5).natAbs) ∧
    (let x : Scan := ⟨.t1, .zero, [(0, 0)], none, 0, 0, false⟩
    (scanning x 2000).isDrifted .t1 .l 0 = false ∧
      (after (.conversionEnd 4 2016) (scanning x 2000)).isDrifted .t1 .l 0 = true ∧
      (after (.conversionEnd 4 2007) (scanning x 2000)).isDrifted .t1 .l 0 = false) := by decide +kernel

/-- A bay sample of the site time of a COMMIT whose image has an approach timeout of 100 s. -/
def sampleAtCommit : State := committing (scanning ⟨.t1, .zero, [(0, 0)], none, 0, 0, false⟩ 5) [(63, 6553750)]

theorem witness_ZeroScanSampleAfterACommit :
    Committing sampleAtCommit ∧ CommittedFirst sampleAtCommit (committed 4 sampleAtCommit) 4 .t1 ∧
      (sampleAtCommit.area .t1).bayOfChannel 0 = some (.l, 0) ∧ sampleAtCommit.zero .t1 .l 0 = some 5 ∧
      sampleAtCommit.strain.scan = some ⟨.t1, .zero, [(0, 0)], none, 0, 0, false⟩ :=
  have h : Committing sampleAtCommit := by decide +kernel
  ⟨h, committedFirst_of_committing _ h, by decide +kernel, by decide +kernel, by decide +kernel⟩

/-- R187, row 2: COMMIT, then a load wake: the area promotes, then the track goes to APPROACH; a sample below
the wake threshold is discarded (R67). -/
theorem test_load_wake_wakes_the_promoted_track :
    ((after (.conversionEnd 4 3005) (committed 4 sampleAtCommit)).section .t1).approachTimer =
      some ⟨4, 100000000⟩ ∧
    ((after (.conversionEnd 4 3004) (committed 4 sampleAtCommit)).section .t1).state = .idle ∧
    (after (.conversionEnd 4 3004) (committed 4 sampleAtCommit)).zero .t1 .l 0 = some 5 := by decide +kernel

/-- A bay accumulator with room, and a full one. -/
theorem witness_PaceSampleIsCredited :
    let bays : BayAssignment := ⟨.replicate 8 (some 1), .replicate 8 none⟩
    let x : Scan := ⟨.t1, .pace 1 bays, [(0, 0)], none, 0, 0, false⟩
    ∀ n ∈ [254, 255],
      let e : AxleEntry := { axle 1 with bays := ⟨.replicate 8 ⟨n, 0, none, false, false⟩, (axle 1).bays.r⟩ }
      let s := (scanning x 5).setSection .t1 (sectionIn .occupied [e] (some pass1))
      s.strain.scan = some x ∧ x.request = .pace 1 bays ∧ x.entries[x.done]? = some (0, 0) ∧
        4 * (x.done + 1) = interval x.grantedAt 4 ∧
        (s.area x.track).bayOfChannel 0 = some (.l, 0) ∧ bayGet bays .l 0 = some 1 ∧
        s.zero x.track .l 0 = some 5 ∧ s.ctx x.track = some pass1 ∧ pass1.number = 1 ∧
        (bayGet e.bays .l 0).n = n := by decide +kernel

/-- A scanner with a request, its timers over. -/
def asked : State :=
  busy.setScanner .t1 .bl { Scanner.reset with
    view := .silent, openingTimer := some ⟨0, 1000⟩, silence := some ⟨0, 1000⟩,
    request := some ⟨255, 1, 1, ⟨0, 1000⟩⟩ }

theorem witness_LineCreditsTheGreatestPixel :
    (asked.scanner .t1 .bl).request = some ⟨255, 1, 1, ⟨0, 1000⟩⟩ ∧
      (busy.scanner .t1 .bl).request = none ∧ asked.ctx .t1 = some pass1 ∧ pass1.number = 1 ∧
      (255 : BitVec 8) ≠ 0 ∧
      (∃ h ∈ [(32768 : BitVec 16), 300, 65535], h ≠ 32768 ∧ h.toInt = 300) ∧
      (∀ h ∈ [(32768 : BitVec 16), 300, 65535], h ≠ 32768 → h.toInt ≤ 300) :=
  ⟨rfl, rfl, rfl, rfl, by decide, ⟨300, by simp, by decide, by decide⟩, by
    intro h hm
    simp only [List.mem_cons, List.not_mem_nil, or_false] at hm
    rcases hm with rfl | rfl | rfl <;> decide⟩

theorem witness_StatusAndTimersSetTheView :
    scannerOfLink 0 = (.t1, .bl) ∧ 1000 = interval 0 1000 ∧
      (asked.scanner .t1 .bl).silence = some ⟨0, 1000⟩ ∧
      (asked.scanner .t1 .bl).openingTimer = some ⟨0, 1000⟩ ∧
      (asked.scanner .t1 .bl).request = some ⟨255, 1, 1, ⟨0, 1000⟩⟩ := by decide +kernel

/-- A type of two axles 2,000 ± 10 mm apart, in either orientation, with an after-gap of 3,000 mm. -/
def pairType : VehicleType :=
  ⟨true, 7, 1, 2, (2000, 10) :: List.replicate 6 (0, 0), 3000, true, 5000⟩

/-- An axle waiting with a spacing. -/
def waiting (index : Nat) (spacing : Option Nat) : WaitingAxle := ⟨index, spacing, false, .neither, .none⟩

/-- A context at its spacing limit; a type that matches at the edge of its tolerance and its gap, one that
waits for its after-gap, one that the closing match takes without it, and none. -/
theorem witness_VehicleTypesAreJudgedInOrder :
    (let m : MatchContext := ⟨1, 1, 1, 0, false, [], 0, 1, true⟩
    (busy.setContext .t1 (some m)).context .t1 = some m ∧
      600000000 = interval m.previous 600000000) ∧
    1 ≤ pairType.axles ∧ pairType.axles ≤ 8 ∧ pairType.spacings.length = 7 ∧
    decideOpen [waiting 1 none, waiting 2 (some 2010), waiting 3 (some 3000)] [pairType] =
      .make pairType .forward ∧
    decideOpen [waiting 1 none, waiting 2 (some 2010)] [pairType] = .wait ∧
    decideClosing [waiting 1 none, waiting 2 (some 1990)] [pairType] = .make pairType .forward ∧
    decideOpen [waiting 1 none, waiting 2 (some 2011), waiting 3 (some 3000)] [pairType] =
      .unclassified := by decide +kernel

/-- A vehicle record of two axles from axle 1. -/
def vehicle1 : VehicleRecord := ⟨1, 1, 2, 7, 1, .forward, false, .none, none, false, false, false, 5000⟩

/-- Pass 1 held, with room and without; an axle of no vehicle; a vehicle whose axles weigh 6,000 together,
above its limit of 5,000, and one of an unknown weight; a vehicle made once both its axles have ended; the
first and the last axle of a vehicle that end. -/
theorem witness_VehiclesAreMadeAndCompleted :
    (let m : MatchContext := ⟨1, 1, 1, 0, false, [waiting 1 none, waiting 2 (some 2000)], 0, 1, true⟩
    let s := (recorded busy).setContext .t1 (some m)
    s.store.poolsOk = true ∧ (s.store.ofTrack .t1 m.pass).isSome = true ∧
      0 < s.store.freeVehicleChunks ∧ m.finishMark + 1 < m.cursor + 2 ∧
      s.context .t1 = some m ∧ s.axleVehicle .t1 m.pass 1 = none ∧ s.store.ofTrack .t2 1 = none ∧
      (let full := { s with store := { s.store with freeVehicleChunks := 0 } }
      full.store.pick = none ∧
        ((full.store.ofTrack .t1 1).map fun p => p.vehicles.length % 32) = some 0)) ∧
    (∀ load ∈ [none, some 3000],
      let heavy := { AxleRecord.fresh (axle 1) with axleLoad := some 3000 }
      let p := { header1 with
        vehicles := [vehicle1], axles := [heavy, { heavy with index := 2, axleLoad := load }] }
      let s := { busy with store := { busy.store with passes := [p] } }
      s.store.ofTrack .t1 1 = some p ∧
        p.vehicles.find? (fun x => decide (x.index = 1)) = some vehicle1 ∧
        s.alarms.next < 4294967295 ∧ s.alarms.list.length < 256 ∧
        ((s.completeVehicle .t1 1 1).store.ofTrack .t1 1).map (fun q =>
          q.vehicles.map fun v => (v.gross, v.worst)) =
          some [if load = none then (none, .none) else (some 6000, .alarm)]) ∧
    (let m : MatchContext := ⟨1, 1, 1, 0, false, [waiting 1 none, waiting 2 (some 2000)], 2, 1, true⟩
    let s := (recorded busy).setContext .t1 (some m)
    m.cursor + 2 = m.finishMark + 1 ∧ (s.store.ofTrack .t1 1).map (fun p => p.vehicles) = some [] ∧
      ((s.makeVehicle .t1 m ⟨2, 7, 1, .forward, 5000, 0⟩).store.ofTrack .t1 1).map
        (fun q => q.vehicles.map fun v => (v.index, v.final)) = some [(1, true)]) ∧
    (let m : MatchContext := ⟨1, 3, 2, 0, false, [], 0, 1, true⟩
    let a := { AxleRecord.fresh (axle 1) with vehicle := some 1 }
    let p := { header1 with vehicles := [vehicle1], axles := [a, { a with index := 2 }] }
    let s := ({ busy with store := { busy.store with passes := [p] } }).setContext .t1 (some m)
    s.context .t1 = some m ∧ s.store.ofTrack .t1 1 = some p ∧ s.axleVehicle .t1 1 1 = some 1 ∧
      s.axleVehicle .t1 1 2 = some 1 ∧ p.vehicles.find? (fun x => decide (x.index = 1)) = some vehicle1 ∧
      1 + 1 ≠ vehicle1.firstAxle + vehicle1.axles ∧ 2 + 1 = vehicle1.firstAxle + vehicle1.axles ∧
      ∀ i ∈ [1, 2], ((s.tellEnded .t1 1 i .abandoned .warning).store.ofTrack .t1 1).map
        (fun q => q.vehicles.map fun v => (v.worst, v.axleAbandoned, v.final)) =
          some [(.warning, true, decide (i = 2))]) := by decide +kernel

/-- One to three forces; a scanner with enough lines with and without an ambient value, and one with too
few. -/
theorem witness_LoadAndThermalResultsFollowTheirRules :
    wheelLoad [900] = some 900 ∧ wheelLoad [900, 1001] = some 951 ∧ wheelLoad [900, 950, 1000] = some 950 ∧
      thermalResult 3 (some 200) ⟨3, some 700, .none⟩ = ⟨some 700, some 500, .none, 3⟩ ∧
      thermalResult 3 none ⟨3, some 700, .none⟩ = ⟨some 700, none, .noAmbient, 3⟩ ∧
      thermalResult 3 (some 200) ⟨2, some 700, .shutter⟩ = ⟨none, none, .shutter, 2⟩ := by decide +kernel

/-- An axle that leaves with a peak force above both impact thresholds: its alarms, and what else the
statement asks. -/
theorem witness_FinishingRaisesLoadAndThermalAlarms :
    let e := { axle 1 with
      bays := ⟨.replicate 8 ⟨9, 90000, some 40000, false, false⟩, (axle 1).bays.r⟩ }
    let s := second (fromQ (running .occupied [e])) .outer
    Second s .outer ∧ (s.section .t1).state = .occupied ∧
      s.ctx .t1 = some { pass1 with direction := .qp } ∧ .p = exitEnd .qp ∧
      (s.section .t1).queue = e :: [] ∧ (s.section .t1).count = 1 ∧
      s.alarms.list.length + 2 < 256 ∧ s.alarms.next + 2 ≤ 4294967295 ∧
      (after (.debounceConfirm 2160100 0) s).alarms.list.map (fun r => (r.number, r.alarm.kind)) =
        [(1, .impact), (2, .impactRatio)] := by decide +kernel

/-- A list with room, a full one with an acknowledged record in it, a full one without, and the last number
given, the list with room and full without: what becomes of the list. -/
theorem witness_RaisedAlarmIsStoredRoutedAndAnnounced :
    let raised := fun (list : List AlarmRecord) (next : Nat) =>
      ({ busy with alarms := { busy.alarms with list := list, next := next } }.raise (record 9).alarm).alarms
    let done := { record 1 with acknowledged := some .b }
    (raised [record 1] 9).list.map (fun r => r.number) = [1, 9] ∧
    (raised (done :: List.replicate 255 (record 2)) 9).list.length = 256 ∧
    (raised (done :: List.replicate 255 (record 2)) 9).listFull = false ∧
    (raised (List.replicate 256 (record 2)) 9).listFull = true ∧
    (raised [record 1] 4294967295).list = [record 1] ∧
    (raised [record 1] 4294967295).listFull = false ∧
    (raised (List.replicate 256 (record 2)) 4294967295).listFull = true := by decide +kernel

/-- A line in PULSE, and one in RECOVERY with a pending pulse; recovery times of 1,000 ms and 0. -/
theorem witness_LineTimersEndPulseAndRecovery :
    let s := { busy with alarms := { busy.alarms with
      lines := #v[⟨[], .pulse ⟨0, 1000⟩, false⟩, ⟨[], .recovery ⟨0, 1000⟩, true⟩, .reset, .reset, .reset,
        .reset, .reset, .reset] } }
    1000 = interval 0 1000 ∧ (s.alarms.lines.get 0).phase = .pulse ⟨0, 1000⟩ ∧
      (s.alarms.lines.get 1).phase = .recovery ⟨0, 1000⟩ ∧ s.siteArea.recoveryTime 0 ≠ 0 ∧
      ((SiteArea.default.stageWord 337 65536000).1).recoveryTime 0 = 0 := by decide +kernel

/-! ### Witnesses: station ports -/

theorem witness_StationTimeIsSetAndAdvances :
    Completes (atPort busy false) .a (frame 66 [255, 255, 255, 255]) 66 [255, 255, 255, 255] ∧
      (4294967295 : Word) ≠ 0 ∧ 1000000 = interval busy.secondStart 1000000 ∧ busy.stationTime = 0 := by
  decide +kernel

/-- Port A of the site in a phase. -/
def inPhase (phase : Phase) : State := busy.setPort .a { StationPort.reset with phase := phase }

/-- A DESELECTED port; a STAGE WRITE cut short before and after its first word, and one of no area; the
phases that a byte moves on. -/
theorem witness_SelectAndBytesMoveTheTransaction :
    ((inPhase .deselected).port .a).phase = .deselected ∧
      (∀ got ∈ [[2, 0, 3, 0, 0, 0], [2, 0, 3, 0, 0, 0, 9], [4, 0, 3, 0, 0, 0, 9]],
        ((inPhase (.arguments 48 11 got)).port .a).phase = .arguments 48 11 got) ∧
      areaOfCode (bytesNat (([2, 0, 3, 0, 0, 0, 9] : List Byte).take 1)) = some (.track .t1) ∧
      areaOfCode (bytesNat (([4, 0, 3, 0, 0, 0, 9] : List Byte).take 1)) = none ∧
      ∀ phase ∈ [Phase.command, .length 17, .arguments 17 2 [], .reply [1, 2], .reply [], .discarded],
        ((inPhase phase).port .a).phase = phase := by decide +kernel

/-- The longest argument list, and a frame of which the first byte is shifted in before. -/
theorem witness_WholeFrameIsTaken :
    (List.replicate 255 (0 : Byte)).length = 255 ∧
      takeFrame ((atPort busy true).port .a).phase (17 :: 2 :: [0, 1]) = some (17, [0, 1]) ∧
      exec (.byteShiftedIn 5 .a 17) (atPort busy true) =
        .next (after (.byteShiftedIn 5 .a 17) (atPort busy true)) :=
  ⟨List.length_replicate, by decide +kernel, rfl⟩

theorem witness_UnknownCommandAndWrongLengthChangeNothing :
    takeFrame ((atPort busy true).port .a).phase (frame 53 []) = some (53, []) ∧
      Completes (atPort busy true) .a (frame 1 [0]) 1 [0] ∧ (Instr.status, 1, 0) ∈ fixedLengthRows := by
  refine ⟨by decide +kernel, by decide +kernel, by simp [fixedLengthRows]⟩

theorem witness_ReadingCommandsChangeNothing :
    Completes (atPort busy true) .a (frame 1 []) 1 [] ∧
      Completes (atPort busy true) .a (frame 16 []) 16 [] ∧
      Completes (atPort busy true) .a (frame 49 [1, 1, 91, 64]) 49 [1, 1, 91, 64] ∧
      Completes (atPort busy true) .a (frame 50 [3, 0, 81, 1]) 50 [3, 0, 81, 1] ∧
      areaOfCode (bytesNat (([3, 0, 81, 1] : List Byte).take 1)) = some (.track .t2) ∧
      bytesNat (([1, 1, 91, 64] : List Byte).drop 3) = 64 := by decide +kernel

/-- R189, R142: the reply to LIST PASSES with pass 1 of TRACK 1 from end P, OPEN, held; words 3 and 4 of STATUS
(R168, R190): OCCUPIED with count 2, recorded, nothing pending, pass 1, generation 1. -/
theorem test_list_passes_and_status :
    ((after (.listPasses 5 .a (frame 16 [])) (atPort busy true)).port .a).phase =
      .reply [1, 0, 9, 1, 0, 1, 16, 0, 0, 0, 0, 0] ∧
    (match ((after (.status 5 .a (frame 1 [])) (atPort busy true)).port .a).phase with
      | .reply l => (l.drop 15).take 8
      | _ => []) = [4, 2, 0, 0, 0, 1, 0, 1] := by decide +kernel

theorem witness_AttachAndDetachOwnTheAttachment :
    ∀ attached ∈ [true, false], Completes (atPort busy attached) .a (frame 2 []) 2 [] ∧
      Completes (atPort busy attached) .a (frame 3 []) 3 [] ∧
      ((atPort busy attached).port .a).attached = attached := by decide +kernel

/-- The site with a view of the port. -/
def viewing (v : PassView) : State :=
  (atPort busy true).setPort .a { (atPort busy true).port .a with view := v }

/-- Pass 1 held, pass 65,534 not held, and the numbers 0 and 65,535; the bounds of a read's arguments; an
empty view, a stale one, and one that names pass 1 with the cursor at the end of its header. -/
theorem witness_SelectAndReadCommandsUseTheView :
    (∀ args ∈ [[0, 1], [255, 254], [0, 0], [255, 255]],
      Completes (atPort busy true) .a (frame 17 args) 17 args) ∧
      bytesNat [0, 1] = 1 ∧ (busy.store.find 1).isSome = true ∧ bytesNat [255, 254] = 65534 ∧
      busy.store.find 65534 = none ∧ bytesNat [0, 0] = 0 ∧ bytesNat [255, 255] = 65535 ∧
    (∀ args ∈ [[63, 255, 64], [255, 255, 1], [64, 0, 1], [0, 0, 65]], ∀ cmd ∈ [18, 19, 20],
      ∀ v ∈ [PassView.empty, .stale, .names 1 .header 16],
        Completes (viewing v) .a (frame cmd args) cmd args ∧ ((viewing v).port .a).view = v) ∧
      busy.store.find 1 = some header1 ∧ header1.headerWords.length = 16 := by decide +kernel

/-- No such pass, an open one, one already released, one to release. -/
theorem witness_ReleasePassFollowsItsTable :
    let s := { atPort busy true with
      store := { busy.store with passes := [header1, closed 2 true, closed 65534 false] } }
    (∀ args ∈ [[0, 3], [0, 1], [0, 2], [255, 254]], Completes s .a (frame 21 args) 21 args) ∧
      ((atPort busy false).port .a).attached = false ∧ (s.port .a).attached = true ∧
      s.store.find 3 = none ∧ s.store.find 1 = some header1 ∧ s.store.find 2 = some (closed 2 true) ∧
      s.store.find 65534 = some (closed 65534 false) := by decide +kernel

/-- The site at rest with a store of sixteen passes, an inward event to come. -/
def crowded (passes : List HeldPass) : State :=
  second (atPort { site (sectionIn .idle [] none) with
    store := { PassStore.reset with passes := passes, nextPass := 17 } } true) .inner

/-- Fifteen closed passes that port A holds before a sixteenth: fully released, partly released, and
held too. -/
theorem witness_FullStoreReclaimsOrRunsUnrecorded :
    let held := (List.range 15).map fun i => closed (i + 1) false
    let partly := { closed 16 true with retention := ⟨true, true⟩ }
    (∀ last ∈ [closed 16 true, partly, closed 16 false],
      let s := crowded (held ++ [last])
      Second s .inner ∧ (s.section .t1).state = .idle ∧ s.ctx .t1 = none ∧ (s.section .t1).count = 0 ∧
        (s.section .t1).queue = [] ∧ s.store.poolsOk = true ∧ s.store.passes.length = 16 ∧
        s.store.find s.store.nextPass = none ∧ 0 < s.store.freeAxleChunks ∧
        0 < s.store.freeVehicleChunks ∧ (s.port .a).attached = true ∧ (s.port .a).notices = []) ∧
      ((closed 16 true).fullyReleased = true ∧ partly.partlyReleased = true) ∧
      (∀ x ∈ held, x.fullyReleased = false ∧ x.partlyReleased = false) ∧
      (((after (.debounceConfirm 2160100 1) (crowded (held ++ [closed 16 false]))).ctx .t1).map
        fun c => c.recorded) = some false := by decide +kernel

theorem witness_ReadNoticeTakesTheOldest :
    Completes (atPort busy true) .a (frame 32 []) 32 [] ∧ ((atPort busy true).port .a).notices = [] ∧
      ((atPort busy false).port .a).attached = false ∧ (busy.port .a).attention = true ∧
      (((atPort busy true).setPort .a { (atPort busy true).port .a with
        notices := [⟨.passDropped 1, 5⟩] }).port .a).notices = ⟨.passDropped 1, 5⟩ :: [] := by decide +kernel

theorem witness_ReadAlarmsReturnsRecordsInOrder :
    ∀ count ∈ [0, 1, 8, 9], Completes (atPort busy false) .a (frame 33 [0, 0, 0, 2, count]) 33
      [0, 0, 0, 2, count] := by decide +kernel

/-- No record 2; record 1 not acknowledged, then acknowledged. -/
theorem witness_AckAlarmFollowsItsTable :
    (∀ n ∈ [1, 2], Completes (atPort busy false) .a (frame 34 [0, 0, 0, n]) 34 [0, 0, 0, n]) ∧
      busy.alarms.listOk = true ∧ (∀ r ∈ busy.alarms.list, r.number ≠ 2) ∧ record 1 ∈ busy.alarms.list ∧
      ({ record 1 with acknowledged := some .b } : AlarmRecord).acknowledged.isSome = true ∧
      ({ AlarmUnit.reset with
        list := [{ record 1 with acknowledged := some .b }], next := 2 } : AlarmUnit).listOk = true := by
  decide +kernel

/-- One word at the last offset of a track area, and one beyond it; a field within its range, and one above
it; a set field of 1, and one of 2, which is clamped to 1 (R181, R191). -/
theorem witness_StageWriteStagesItsWords :
    (∀ offset ∈ [81, 82],
      let args := BitVec.ofNat 8 (Area.track .t1).code :: (halfBytes offset ++ wordsBytes [7])
      Completes (atPort busy false) .a (frame 48 args) 48 args ∧ 1 ≤ ([7] : List Word).length ∧
        offset < 65536) ∧
    (let args := fun w => BitVec.ofNat 8 (Area.track .t1).code :: (halfBytes 81 ++ wordsBytes [w])
    let phase := fun w => ((after (.stageWrite 5 .a (frame 48 (args w))) (atPort busy false)).port .a).phase
    phase 32767 = .reply [1, 0, 0] ∧ phase 32768 = .reply [4, 0, 0]) ∧
    (let args := fun w => BitVec.ofNat 8 (Area.track .t1).code :: (halfBytes 4 ++ wordsBytes [w])
    let u := fun w => after (.stageWrite 5 .a (frame 48 (args w))) (atPort busy false)
    ((u 16777216).port .a).phase = .reply [1, 0, 0] ∧ ((u 33554432).port .a).phase = .reply [4, 0, 0] ∧
      ((u 33554432).config.tracks.t1.staged).word 4 = 16777216) :=
  ⟨by decide +kernel, by decide +kernel, by decide +kernel⟩

/-- R183, R189: an image of track 1 that fails each of the nine checks and no check before it, beside a valid
image of track 2 (check 8 by a channel of the other track); a default image of track 2; none that fails. -/
theorem test_validation_names_the_check :
    let two := areaWith [(4, 16842752), (56, 16777216)]
    validate (areaWith []) two = none ∧ validate (areaWith []) .default = some 33 ∧
      validate (areaWith []) (areaWith []) = some 24 ∧
    ∀ x ∈ [([(0, 1000)], 17), ([(0, 65537000)], 18), ([(0, 52495336)], 19), ([(5, 131074299)], 20),
        ([(5, 65539000)], 21), ([(7, 16842752), (8, 255529864), (9, 65536)], 22), ([(4, 16842752)], 23),
        ([(52, 78643400)], 25)],
      validate (areaWith x.1) two = some x.2 := by decide +kernel

/-- Images that pass the checks for both tracks and for neither; an ABANDON. A COMMIT that promotes the area
of track 2, UNCONFIGURED, leaves track 1's pending with its pass open, and the site's too; with no pass open
the site's is promoted. -/
theorem witness_CommitAndAbandonSetTheImages :
    Completes (atPort busy false) .a (frame 51 []) 51 [] ∧
      Completes (atPort busy false) .a (frame 52 []) 52 [] ∧ busy.config.validate = some 33 ∧
    ∀ state ∈ [TrackState.occupied, .idle],
      let s := site (sectionIn state [] (if state = .idle then none else some pass1))
      let s := atPort { s with config := { s.config with
        site := { s.config.site with staged := (SiteArea.default.stageWord 345 16777216).1 }
        tracks := ⟨{ s.config.tracks.t1 with staged := areaWith [(62, 33686016)] },
          { s.config.tracks.t2 with staged := areaWith [(4, 16842752), (56, 16777216)] }⟩ } } false
      Completes s .a (frame 51 []) 51 [] ∧ s.config.validate = none ∧ s.config.site.changes = true ∧
        s.config.tracks.t1.changes = true ∧ s.config.tracks.t2.changes = true ∧
        (s.section .t2).state = .unconfigured ∧
        ((after (.commit 5 .a (frame 51 [])) s).port .a).phase =
          .reply [1, 0, 3, 0, 2, if state = .idle then 0 else 3] := by decide +kernel

theorem witness_TrackAbortDrainsTheTrack :
    let s := recorded (atPort busy false)
    Completes s .a (frame 64 [1, 1]) 64 [1, 1] ∧ Completes s .a (frame 64 [2, 1]) 64 [2, 1] ∧
      (s.section .t2).state = .unconfigured ∧ (s.section .t1).state ≠ .unconfigured ∧
      s.ctx .t1 = some pass1 ∧ s.store.poolsOk = true ∧
      (((after (.trackAbort 5 .a (frame 64 [1, 1])) s).store.find 1).map fun q =>
        (q.track, q.axles.map fun r => r.status)) = some (.t1, [.abandoned, .abandoned]) := by
  decide +kernel

/-- The refusals, the OK of both, and a pending area of the track alone. -/
theorem witness_TrackOutAndInMoveTheTrack :
    (let s := atPort (site (sectionIn .outOfService [] none)) false
    (∀ n ∈ [1, 2], Completes s .a (frame 64 [n, 2]) 64 [n, 2]) ∧
      Completes s .a (frame 64 [1, 3]) 64 [1, 3] ∧ (s.section .t2).state = .unconfigured ∧
      (s.section .t1).state = .outOfService ∧ (busy.section .t1).state = .occupied) ∧
    (busy.store.poolsOk = true ∧ busy.ctx .t1 = some pass1 ∧ busy.store.find 1 = some header1 ∧
      header1.track = .t1 ∧ busy.config.site.committed = none) ∧
    (let s := { promoting with config := { promoting.config with site := (site .reset).config.site } }
    s.config.site.committed = none ∧ (s.config.tracks.get .t1).committed.isSome = true ∧
      (s.section .t1).state = .draining) := by decide +kernel

/-- Each target alone, and two sets of several; a PURGE of FAULTS and NOTICES with a sensor SUSPECT: the other
port keeps the notice. -/
theorem witness_PurgeFollowsItsTarget :
    (∀ target ∈ [1, 2, 3, 4, 8, 15], Completes (atPort busy false) .a (frame 65 [target]) 65 [target]) ∧
      busy.store.poolsOk = true ∧
      (let s := (atPort busy true).setPort .b { StationPort.reset with attached := true }
      let s := s.setSensor .t1 .p .inner { Sensor.reset with suspect := true }
      let u := after (.purgeFaults 5 .a (frame 65 [3])) s
      (s.port .a).notices = [] ∧ (s.port .a).attached = true ∧ (u.port .a).notices = [] ∧
        (u.port .b).notices = [⟨.faultChanged (.suspect 1) 0, 5⟩]) := by decide +kernel

end Sys2Proof.Tests
end

section
/-! PROOFS. What a rounded quotient is (R1), and the figures made from it: pair speeds (R15), increments (R46)
and hold times (R33). -/

namespace Sys2Proof.Machine

open Sys2Proof

/-! ### Rounded quotients -/

/-- R1, from above: the rounded quotient exceeds the quotient by at most a half. -/
theorem two_mul_mul_roundNat_le (a b : Nat) : 2 * b * roundNat a b ≤ 2 * a + b :=
  Nat.mul_div_le _ _

/-- R1, from below: the quotient exceeds the rounded one by less than a half, so that a half goes up. -/
theorem lt_two_mul_mul_roundNat_succ (a : Nat) {b : Nat} (hb : 0 < b) :
    2 * a + b < 2 * b * (roundNat a b + 1) :=
  Nat.lt_mul_div_succ _ (by omega)

theorem roundNat_zero_left {b : Nat} (hb : 0 < b) : roundNat 0 b = 0 :=
  Nat.div_eq_of_lt (by omega)

/-- A whole number that is at most the quotient is at most the rounded one. -/
theorem le_roundNat {n a b : Nat} (hb : 0 < b) (h : n * b ≤ a) : n ≤ roundNat a b := by
  refine (Nat.le_div_iff_mul_le (by omega)).mpr ?_
  calc n * (2 * b) = 2 * (n * b) := by ring
    _ ≤ 2 * a + b := by omega

/-- A whole number that is at least the quotient is at least the rounded one. -/
theorem roundNat_le {n a b : Nat} (hb : 0 < b) (h : a ≤ n * b) : roundNat a b ≤ n := by
  refine Nat.le_of_lt_succ (Nat.div_lt_of_lt_mul ?_)
  calc 2 * a + b < 2 * (n * b) + 2 * b := by omega
    _ = 2 * b * (n + 1) := by ring

@[simp] theorem roundDiv_natCast (a b : Nat) : roundDiv a b = roundNat a b := by
  simp [roundDiv]

/-- R1: halves go away from zero on both sides, so that rounding commutes with the sign. -/
theorem roundDiv_neg_natCast (a : Nat) {b : Nat} (hb : 0 < b) : roundDiv (-a) b = -roundNat a b := by
  cases a with
  | zero => simp [roundDiv, roundNat_zero_left hb]
  | succ n =>
    have negative : ¬(0 : Int) ≤ -((n + 1 : Nat) : Int) := by omega
    simp only [roundDiv, if_neg negative, Int.natAbs_neg, Int.natAbs_natCast]

/-! ### Pair speeds -/

/-- R15: an interval of 0 is taken as 1. -/
theorem max_one_eq_ite (elapsed : Nat) : max elapsed 1 = if elapsed = 0 then 1 else elapsed := by
  split <;> omega

theorem pairSpeed_eq (spacing elapsed : Nat) :
    let d := if elapsed = 0 then 1 else elapsed
    let q := (2 * (spacing * 36000) + d) / (2 * d)
    pairSpeed spacing elapsed = (if 2500 < q then 2500 else q, decide (2500 < q)) := by
  simp only [pairSpeed, roundNat, max_one_eq_ite, min_comm _ 2500, min_def_lt]

theorem pairSpeed_le (spacing elapsed : Nat) : (pairSpeed spacing elapsed).1 ≤ 2500 :=
  Nat.min_le_right _ _

/-- R15, R13: within the pair timeout of spacing · 3,600 µs the quotient is at least 10. -/
theorem ten_le_pairSpeed {spacing elapsed : Nat} (hs : 0 < spacing) (he : elapsed ≤ spacing * 3600) :
    10 ≤ (pairSpeed spacing elapsed).1 := by
  have quotient : 10 ≤ roundNat (spacing * 36000) (max elapsed 1) := le_roundNat (by omega) (by omega)
  exact Nat.le_min.mpr ⟨quotient, by decide⟩

/-! ### Increments -/

/-- R46: at the greatest speed and the least pace spacing the increment still fits its 32 bits. -/
theorem roundNat_increment_lt {v dx : Nat} (hdx : 5 ≤ dx) (hv : v ≤ 2500) :
    roundNat (v * 4294967296) (36000 * dx) < 2 ^ 32 := by
  have bound : roundNat (v * 4294967296) (36000 * dx) ≤ 4294967295 := roundNat_le (by omega) (by omega)
  omega

theorem incrementOf_toNat {v dx : Nat} (hdx : 5 ≤ dx) (hv : v ≤ 2500) :
    (incrementOf v dx).toNat = (v * 8589934592 + 36000 * dx) / (72000 * dx) := by
  have twice : 2 * (v * 4294967296) = v * 8589934592 := by ring
  have divisor : 2 * (36000 * dx) = 72000 * dx := by ring
  calc (incrementOf v dx).toNat = roundNat (v * 4294967296) (36000 * dx) :=
        (BitVec.toNat_ofNat _ _).trans (Nat.mod_eq_of_lt (roundNat_increment_lt hdx hv))
    _ = (v * 8589934592 + 36000 * dx) / (72000 * dx) := by rw [roundNat, twice, divisor]

/-! ### Hold times -/

theorem clampNat_eq_ite {least greatest : Nat} (h : least ≤ greatest) (v : Nat) :
    clampNat least greatest v = if v < least then least else if greatest < v then greatest else v := by
  unfold clampNat
  split
  · omega
  · split <;> omega

theorem holdTime_eq (distance v : Nat) :
    let q := (2 * (distance * 36000) + v) / (2 * v)
    holdTime distance v = if q < 1000000 then 1000000 else if 60000000 < q then 60000000 else q :=
  clampNat_eq_ite (by decide) _

/-! ### The statement -/

/-- Settles O25: the bounds of a rounded quotient, then each figure made from one. -/
theorem speedsIncrementsAndHoldTimesAreRounded : Obligations.SpeedsIncrementsAndHoldTimesAreRounded := by
  unfold Obligations.SpeedsIncrementsAndHoldTimesAreRounded
  refine ⟨fun a b hb => ?rounding, fun spacing elapsed => ⟨pairSpeed_eq spacing elapsed, ?bounds⟩,
    fun v dx hdx hv => incrementOf_toNat hdx hv, fun distance v _ => holdTime_eq distance v⟩
  case rounding =>
    exact ⟨two_mul_mul_roundNat_le a b, lt_two_mul_mul_roundNat_succ a hb, roundDiv_natCast a b,
      roundDiv_neg_natCast a hb⟩
  case bounds =>
    intro least _ timeout
    exact ⟨ten_le_pairSpeed (by omega) timeout, pairSpeed_le spacing elapsed⟩

end Sys2Proof.Machine
end

section
/-! PROOFS. The step and its commands: what a step runs, and that every command answers a next state (log 1,
log 2, log 25). -/

namespace Sys2Proof.Machine

open Sys2Proof

/-- What is asked of every command: a next state, the queue as it was, and the site time the command carries. -/
def Answers (c : Instr) (s : State) : Prop :=
  ∃ t, exec c s = .next t ∧ t.pending = s.pending ∧ ∀ now, commandTime c = some now → t.siteTime = now

/-- A command whose frame spares the queue answers so, at the site time of its frame. -/
theorem Does.answers {F : List Part} {now : SiteTime} {s : State} {c : Instr} (h : Does F now s (exec c s))
    (hF : Part.pending ∉ F := by simp) (hc : commandTime c = some now := by rfl) : Answers c s := by
  obtain ⟨t, ht, htime, frame⟩ := h
  refine ⟨t, ht, frame .pending (by simpa using hF), fun time hn => ?_⟩
  exact htime.trans (Option.some.inj (hc.symm.trans hn))

/-- The frame of a conversion's end names the track of the scan in progress, where there is one. -/
theorem conversionEnd_answers (now : SiteTime) (sample : BitVec 16) (s : State) :
    Answers (.conversionEnd now sample) s := by
  cases h : s.strain.scan with
  | none => exact (conversionEnd_does now sample s .t1 (by simp [h])).answers
  | some x => exact (conversionEnd_does now sample s x.track (by simp [h])).answers

theorem exec_answers (c : Instr) (s : State) : Answers c s := by
  cases c with
  | fullReset => exact ⟨s.fullReset, rfl, rfl, fun _ h => by cases h⟩
  | sensorRawChange => exact (sensorRawChange_does _ _ _ s).answers
  | debounceConfirm => exact (debounceConfirm_does _ _ s).answers
  | heldTimerExpiry => exact (heldTimerExpiry_does _ _ s).answers
  | pairTimeoutExpiry => exact (pairTimeoutExpiry_does _ _ _ s).answers
  | approachInputChange => exact (approachInputChange_does _ _ _ _ s).answers
  | approachEdge => exact (approachEdge_does _ _ _ s).answers
  | approachTimerExpiry => exact (approachTimerExpiry_does _ _ s).answers
  | closeDelayExpiry => exact (closeDelayExpiry_does _ _ s).answers
  | holdTimerExpiry => exact (holdTimerExpiry_does _ _ s).answers
  | clearTimerExpiry => exact (clearTimerExpiry_does _ _ s).answers
  | quietTimerExpiry => exact (quietTimerExpiry_does _ _ s).answers
  | paceTick => exact (paceTick_does _ _ s).answers
  | zeroTimerExpiry => exact (zeroTimerExpiry_does _ _ s).answers
  | conversionEnd => exact conversionEnd_answers _ _ s
  | linkMessageDiscarded => exact (linkMessageDiscarded_does _ _ s).answers
  | scannerStatus => exact (scannerStatus_does _ _ _ _ s).answers
  | scannerLine => exact (scannerLine_does _ _ _ _ s).answers
  | silenceTimerExpiry => exact (silenceTimerExpiry_does _ _ s).answers
  | openingTimerExpiry => exact (openingTimerExpiry_does _ _ s).answers
  | lineTimerExpiry => exact (lineTimerExpiry_does _ _ s).answers
  | spacingLimitPassed => exact (spacingLimitPassed_does _ _ s).answers
  | pulseTimerExpiry => exact (pulseTimerExpiry_does _ _ s).answers
  | recoveryTimerExpiry => exact (recoveryTimerExpiry_does _ _ s).answers
  | stationTimeAdvance => exact (stationTimeAdvance_does _ s).answers
  | selectAssert => exact (selectAssert_does _ _ s).answers
  | selectDeassert => exact (selectDeassert_does _ _ s).answers
  | unknownCommand => exact (unknownCommand_does _ _ _ s).answers
  | status => exact (status_does _ _ _ s).answers
  | attach => exact (attach_does _ _ _ s).answers
  | detach => exact (detach_does _ _ _ s).answers
  | listPasses => exact (listPasses_does _ _ _ s).answers
  | selectPass => exact (selectPass_does _ _ _ s).answers
  | readHeader => exact (readHeader_does _ _ _ s).answers
  | readAxles => exact (readAxles_does _ _ _ s).answers
  | readVehicles => exact (readVehicles_does _ _ _ s).answers
  | releasePass => exact (releasePass_does _ _ _ s).answers
  | readNotice => exact (readNotice_does _ _ _ s).answers
  | readAlarms => exact (readAlarms_does _ _ _ s).answers
  | ackAlarm => exact (ackAlarm_does _ _ _ s).answers
  | stageWrite => exact (stageWrite_does _ _ _ s).answers
  | stageRead => exact (stageRead_does _ _ _ s).answers
  | activeRead => exact (activeRead_does _ _ _ s).answers
  | commit => exact (commit_does _ _ _ s).answers
  | abandon => exact (abandon_does _ _ _ s).answers
  | trackAbort => exact (trackAbort_does _ _ _ s).answers
  | trackOut => exact (trackOut_does _ _ _ s).answers
  | trackIn => exact (trackIn_does _ _ _ s).answers
  | purgeFaults => exact (purgeFaults_does _ _ _ s).answers
  | purgeNotices => exact (purgeNotices_does _ _ _ s).answers
  | purgeAcked => exact (purgeAcked_does _ _ _ s).answers
  | purgeReleased => exact (purgeReleased_does _ _ _ s).answers
  | setTime => exact (setTime_does _ _ _ s).answers
  | reset => exact (reset_does _ _ _ s).answers
  | byteShiftedIn => exact (byteShiftedIn_does _ _ _ s).answers
  | pacerFirstStep => exact (pacerFirstStep_does _ _ s).answers
  | approachInputInactive => exact (approachInputInactive_does _ _ _ s).answers

/-- Settles O2, from what each command may change. -/
theorem everyCommandAnswersANextState : Obligations.EveryCommandAnswersANextState := exec_answers

/-- Settles O1, by the two cases of a step. -/
theorem stepRunsTheFrontCommand : Obligations.StepRunsTheFrontCommand := by
  refine ⟨fun c rest s hs => ?front, fun s hs => ?empty⟩
  case front => simp only [step, hs]
  case empty => simp only [step, hs, State.idle]

end Sys2Proof.Machine
end

section
/-! PROOFS. The wheel sensor interface (R3 to R9, R11, R12): what an input's raw change and its confirmation
leave, where nothing is withheld at the pair and no COMMIT of the same site time counts. -/

namespace Sys2Proof.Machine

open Sys2Proof

-- One proof after another: elaborated side by side they ask for more threads than check.sh allows.
set_option Elab.async false

/-! ### Names of inputs, and the pair's two sensors -/

@[simp] theorem sensorOfInput_inputOfSensor (t : TrackId) (e : SectionEnd) (x : Role) :
    sensorOfInput (inputOfSensor t e x) = (t, e, x) := by
  cases t <;> cases e <;> cases x <;> rfl

theorem inputOfSensor_of_sensorOfInput {input : Fin 8} {t : TrackId} {e : SectionEnd} {x : Role}
    (h : sensorOfInput input = (t, e, x)) : inputOfSensor t e x = input := by
  revert h
  fin_cases input <;> rintro ⟨⟩ <;> rfl

@[simp] theorem partner_partner (x : Role) : partner (partner x) = x := by cases x <;> rfl

/-! ### Where no COMMIT of the same site time counts (R187) -/

/-- A track that no longer waits for a train is settled. -/
theorem settled_of_state {s : State} {now : SiteTime} {t : TrackId}
    (h : (s.section t).state ≠ .idle ∧ (s.section t).state ≠ .approach) : Settled s now t :=
  fun _ _ _ => h

theorem exec_sensorRawChange {now : SiteTime} {input : Fin 8} {level : Bool} {s : State} {t : TrackId}
    {e : SectionEnd} {x : Role} (hin : sensorOfInput input = (t, e, x)) (hs : Settled s now t)
    (hc : s.configured t = true) (hl : level ≠ (s.sensor t e x).filter.raw) :
    exec (.sensorRawChange now input level) s = .next ((s.atTime now).takeRawChange t e x level) := by
  simp [exec, execSensorRawChange, hin, hl, hc, orAsBefore_alone _ (coinciding_of_settled hs)]

theorem exec_sensorRawChange_unconfigured {now : SiteTime} {input : Fin 8} {level : Bool} {s : State}
    {t : TrackId} {e : SectionEnd} {x : Role} (hin : sensorOfInput input = (t, e, x))
    (hc : s.configured t = false) (hl : level ≠ (s.sensor t e x).filter.raw) :
    exec (.sensorRawChange now input level) s =
      .next ((s.atTime now).setFilter t e x { (s.sensor t e x).filter with raw := level }) := by
  simp [exec, execSensorRawChange, hin, hl, hc]

theorem exec_sensorRawChange_same {now : SiteTime} {input : Fin 8} {level : Bool} {s : State}
    {t : TrackId} {e : SectionEnd} {x : Role} (hin : sensorOfInput input = (t, e, x))
    (hl : level = (s.sensor t e x).filter.raw) :
    exec (.sensorRawChange now input level) s = .next (s.atTime now) := by
  simp [exec, execSensorRawChange, hin, hl]

theorem exec_debounceConfirm {now : SiteTime} {input : Fin 8} {s : State} {t : TrackId} {e : SectionEnd}
    {x : Role} (hin : sensorOfInput input = (t, e, x)) (hs : Settled s now t) :
    exec (.debounceConfirm now input) s = .next ((s.atTime now).confirmDue t e x) := by
  simp [exec, execDebounceConfirm, hin, orAsBefore_alone _ (coinciding_of_settled hs)]

/-! ### The filter (R3) -/

/-- R3: a change away from the filtered level becomes the pending change. -/
theorem rawChange_away {f : InputFilter} {level : Bool} (now : SiteTime) (hl : level ≠ f.raw)
    (hf : f.raw = f.level) : f.rawChange level now = ⟨level, f.level, some now⟩ := by
  simp [InputFilter.rawChange, hl, hf ▸ hl]

/-- R3: a change back to the filtered level cancels the pending change. -/
theorem rawChange_back {f : InputFilter} {level : Bool} (now : SiteTime) (hl : level ≠ f.raw)
    (hf : level = f.level) : f.rawChange level now = ⟨level, f.level, none⟩ := by
  subst hf
  simp [InputFilter.rawChange, hl]

/-- R3: with debounce on, a change away from the filtered level waits. -/
theorem State.rawChange_waits {s : State} {t : TrackId} {e : SectionEnd} {x : Role} {level : Bool}
    (hd : (s.area t).debounce e x ≠ none) (hl : level ≠ (s.sensor t e x).filter.raw)
    (hf : (s.sensor t e x).filter.raw = (s.sensor t e x).filter.level) :
    s.rawChange t e x level =
      s.setFilter t e x ⟨level, (s.sensor t e x).filter.level, some s.siteTime⟩ := by
  obtain ⟨d, hd⟩ := Option.ne_none_iff_exists'.mp hd
  simp [State.rawChange, rawChange_away _ hl hf, State.setFilter, hd]

/-- R3: a change back is no edge, whatever the debounce. -/
theorem State.rawChange_cancels {s : State} {t : TrackId} {e : SectionEnd} {x : Role} {level : Bool}
    (hl : level ≠ (s.sensor t e x).filter.raw) (hf : level = (s.sensor t e x).filter.level)
    (hw : (s.pair t e).withheld = []) :
    s.rawChange t e x level = s.setFilter t e x ⟨level, (s.sensor t e x).filter.level, none⟩ := by
  have hr : (s.setFilter t e x ⟨level, (s.sensor t e x).filter.level, none⟩).releaseAll t e =
      s.setFilter t e x ⟨level, (s.sensor t e x).filter.level, none⟩ :=
    releaseAll_nil (by simpa [State.setFilter] using hw)
  simp only [State.rawChange, rawChange_back _ hl hf]
  split <;> simp_all

/-- R3, R5: with debounce off a change away from the filtered level is confirmed and taken at once. -/
theorem State.rawChange_confirms {s : State} {t : TrackId} {e : SectionEnd} {x : Role} {level : Bool}
    (hd : (s.area t).debounce e x = none) (hf : (s.sensor t e x).filter = ⟨!level, !level, none⟩)
    (hw : (s.pair t e).withheld = []) (hp : (s.sensor t e (partner x)).filter.pendingSince = none) :
    s.rawChange t e x level = (s.setFilter t e x ⟨level, level, none⟩).takeEdge t e
      ⟨x, level, s.siteTime⟩ := by
  have hl : level ≠ (s.sensor t e x).filter.raw := by simp [hf]
  have hfilter : (s.sensor t e x).filter.rawChange level s.siteTime = ⟨level, !level, some s.siteTime⟩ := by
    rw [rawChange_away _ hl (by simp [hf]), hf]
  have hconfirm := confirmEdge_alone (s := s.setFilter t e x ⟨level, !level, some s.siteTime⟩) (x := x)
    (stamp := s.siteTime) (by simpa [State.setFilter] using hw)
    (by simpa [State.setFilter, sensor_setSensor_partner] using hp)
  simp [State.rawChange, hfilter, hd, State.setFilter, InputFilter.confirm] at hconfirm ⊢
  exact hconfirm

/-- R3, R5: a due change is taken as it is confirmed. -/
theorem confirmDue_takes {s : State} {t : TrackId} {e : SectionEnd} {x : Role} {stamp : SiteTime}
    {level : Bool} (hf : (s.sensor t e x).filter = ⟨level, !level, some stamp⟩)
    (hd : (s.area t).debounceTime e x ≤ interval stamp s.siteTime) (hw : (s.pair t e).withheld = [])
    (hp : (s.sensor t e (partner x)).filter.pendingSince = none) :
    s.confirmDue t e x =
      (s.setFilter t e x ⟨level, level, none⟩).takeEdge t e ⟨x, level, stamp⟩ := by
  simp [State.confirmDue, hf, hd, confirmEdge_alone hw hp, InputFilter.confirm, State.setFilter]

/-! ### Taking an edge (R6, R8, R30, R38) -/

/-- R6: the fall of a sensor that is not HELD ends its occupancy interval. -/
theorem takeEdge_fall {s : State} {t : TrackId} {e : SectionEnd} {x : Role} {stamp : SiteTime}
    (hh : (s.sensor t e x).held = false) :
    s.takeEdge t e ⟨x, false, stamp⟩ =
      (s.setSensor t e x { s.sensor t e x with occupiedSince := none }).sensorActivity t e
        ⟨x, false, stamp⟩ := by
  simp [State.takeEdge, hh]

/-- R8: the fall of a HELD sensor ends HELD and is not used in any other way. -/
theorem takeEdge_fall_held {s : State} {t : TrackId} {e : SectionEnd} {x : Role} {stamp : SiteTime}
    (hh : (s.sensor t e x).held = true) : s.takeEdge t e ⟨x, false, stamp⟩ = s.leaveHeld t e x := by
  simp [State.takeEdge, hh]

/-- R6: the rise of a sensor that is not HELD starts its occupancy interval and goes to the pair machine. -/
theorem takeEdge_rise {s : State} {t : TrackId} {e : SectionEnd} {x : Role} {stamp : SiteTime}
    (hh : (s.sensor t e x).held = false) :
    s.takeEdge t e ⟨x, true, stamp⟩ =
      ((s.setSensor t e x { s.sensor t e x with occupiedSince := some stamp }).sensorActivity t e
        ⟨x, true, stamp⟩).offerRise t e x stamp := by
  simp [State.takeEdge, hh]

/-- R30: a fall makes no exit mark. -/
theorem markExit_fall (s : State) (t : TrackId) (e : SectionEnd) (x : Role) (stamp : SiteTime) :
    s.markExit t e ⟨x, false, stamp⟩ = s := by
  unfold State.markExit
  split <;> simp

/-- R30, R38: a fall is activity only to a DRAINING track. -/
theorem sensorActivity_fall {s : State} {t : TrackId} (e : SectionEnd) (x : Role) (stamp : SiteTime)
    (h : (s.section t).state ≠ .draining) : s.sensorActivity t e ⟨x, false, stamp⟩ = s := by
  simp [State.sensorActivity, markExit_fall, h]

/-- R30: the exit marks of a track after a rise of a sensor. -/
def State.marksAfter (s : State) (t : TrackId) (e : SectionEnd) (x : Role) (stamp : SiteTime) :
    PerRole (List ExitMark) :=
  let marks := (s.section t).exitMarks
  match s.ctx t with
  | none => marks
  | some c =>
    if e = exitEnd c.direction then marks.set x ((⟨stamp, c.tickTotal⟩ :: marks.get x).take 2) else marks

/-- R38: the quiet timer of a track after activity of a sensor. -/
def State.quietAfter (s : State) (t : TrackId) : Timer :=
  if (s.section t).state = .draining then s.startTimer (s.area t).clearTime else (s.section t).quietTimer

theorem markExit_rise (s : State) (t : TrackId) (e : SectionEnd) (x : Role) (stamp : SiteTime) :
    s.markExit t e ⟨x, true, stamp⟩ =
      s.setSection t { s.section t with exitMarks := s.marksAfter t e x stamp } := by
  unfold State.markExit State.marksAfter
  cases hc : s.ctx t with
  | none => exact (setSection_self s t).symm
  | some c =>
    by_cases he : e = exitEnd c.direction
    · simp [he, addMark]
    · simp only [he, decide_false, Bool.and_false, Bool.false_eq_true, if_false]
      exact (setSection_self s t).symm

/-- R30, R38: the activity of a rise is its exit mark and the quiet timer. -/
theorem sensorActivity_rise (s : State) (t : TrackId) (e : SectionEnd) (x : Role) (stamp : SiteTime) :
    s.sensorActivity t e ⟨x, true, stamp⟩ = s.setSection t { s.section t with
      exitMarks := s.marksAfter t e x stamp, quietTimer := s.quietAfter t } := by
  by_cases h : (s.section t).state = .draining
  · simp [State.sensorActivity, markExit_rise, State.quietAfter, h, State.startTimer]
  · simp [State.sensorActivity, markExit_rise, State.quietAfter, h]

/-- R3, R6: a due rise of a sensor that is not HELD, nothing being withheld at its pair. -/
theorem confirmDue_rise {s : State} {t : TrackId} {e : SectionEnd} {x : Role} {stamp : SiteTime}
    (hf : (s.sensor t e x).filter = ⟨true, false, some stamp⟩)
    (hd : (s.area t).debounceTime e x ≤ interval stamp s.siteTime) (hw : (s.pair t e).withheld = [])
    (hp : (s.sensor t e (partner x)).filter.pendingSince = none) (hh : (s.sensor t e x).held = false) :
    s.confirmDue t e x = ((s.setSensor t e x { s.sensor t e x with
      filter := ⟨true, true, none⟩, occupiedSince := some stamp }).sensorActivity t e
        ⟨x, true, stamp⟩).offerRise t e x stamp := by
  rw [confirmDue_takes hf hd hw hp, takeEdge_rise (by simpa [State.setFilter] using hh)]
  simp [State.setFilter]

/-! ### HELD (R7, R14) -/

/-- R7: an occupancy interval that has lasted the held limit makes the sensor HELD. -/
theorem exec_heldTimerExpiry {now since : SiteTime} {input : Fin 8} {s : State} {t : TrackId}
    {e : SectionEnd} {x : Role} (hin : sensorOfInput input = (t, e, x))
    (hh : (s.sensor t e x).held = false) (ho : (s.sensor t e x).occupiedSince = some since)
    (hl : (s.area t).heldLimit ≤ interval since now) :
    exec (.heldTimerExpiry now input) s =
      .next (((s.atTime now).enterHeld t e x).partnerHeld t e x) := by
  simp [exec, execHeldTimerExpiry, hin, State.heldDue, hh, ho, hl]

/-- R14: a machine that does not wait is not touched. -/
theorem partnerHeld_quiet {s : State} {t : TrackId} {e : SectionEnd} (x : Role)
    (h : (s.pair t e).state = .quiet) : s.partnerHeld t e x = s := by
  simp [State.partnerHeld, h, PairState.waiting]

/-! ### Single raw changes and confirmations: the statements -/

/-- Settles O16, by the four rows of R3 and R4. -/
theorem rawChangeFollowsTheFilter : Obligations.RawChangeFollowsTheFilter := by
  unfold Obligations.RawChangeFollowsTheFilter
  intro now input level s t e x hin
  refine ⟨fun hs hc hd hl hf => ?away, fun hs hc hl hf hw => ?back,
    fun hc hl => exec_sensorRawChange_unconfigured hin hc hl, fun hl => exec_sensorRawChange_same hin hl⟩
  case away =>
    have htake : (s.atTime now).takeRawChange t e x level = (s.atTime now).rawChange t e x level := by
      simp [State.takeRawChange, hd]
    rw [exec_sensorRawChange hin hs hc hl, htake, State.rawChange_waits (s := s.atTime now) hd hl hf]
    rfl
  case back =>
    have htake : (s.atTime now).takeRawChange t e x level = (s.atTime now).rawChange t e x level := by
      simp [State.takeRawChange, ← hf]
    rw [exec_sensorRawChange hin hs hc hl, htake, State.rawChange_cancels (s := s.atTime now) hl hf hw]
    rfl

/-- Settles O17: a fall, a fall of a HELD sensor, and the held limit. -/
theorem occupancyAndHeldFollowTheSensor : Obligations.OccupancyAndHeldFollowTheSensor := by
  unfold Obligations.OccupancyAndHeldFollowTheSensor
  intro now stamp input s t e x hin
  obtain rfl := inputOfSensor_of_sensorOfInput hin
  refine ⟨fun hs hc hd hf hh hw hp hstate hwaits => ?fall, fun hs hf hd hh hw hp => ?leaves,
    fun hh ho hl hq => ?enters⟩
  case fall =>
    have hchange := State.rawChange_confirms (s := s.atTime now) (level := false) hd hf hw hp
    have hedge := takeEdge_fall (s := (s.atTime now).setFilter t e x ⟨false, false, none⟩) (t := t)
      (e := e) (x := x) (stamp := now) (by simpa [State.setFilter] using hh)
    rw [exec_sensorRawChange hin hs hc (by simp [hf]), takeRawChange_alone (changeWaits_none hwaits),
      hchange]
    exact congrArg _ (hedge.trans (by
      rw [sensorActivity_fall _ _ _ (by simpa [State.setFilter] using hstate)]
      simp only [State.setFilter, sensor_setSensor, setSensor_setSensor]
      rfl))
  case leaves =>
    have hedge := takeEdge_fall_held (s := (s.atTime now).setFilter t e x ⟨false, false, none⟩) (t := t)
      (e := e) (x := x) (stamp := stamp) (by simpa [State.setFilter] using hh)
    rw [exec_debounceConfirm hin hs, confirmDue_takes (s := s.atTime now) (level := false) hf hd hw hp,
      hedge]
    simp only [State.leaveHeld, State.setFilter, sensor_setSensor, setSensor_setSensor]
    rfl
  case enters =>
    rw [exec_heldTimerExpiry hin hh ho hl, partnerHeld_quiet x (by simpa [State.enterHeld] using hq)]
    rfl

/-- Settles O18: the rise is taken as it is confirmed, and a QUIET machine starts its wait. -/
theorem firstRiseStartsTheWait : Obligations.FirstRiseStartsTheWait := by
  unfold Obligations.FirstRiseStartsTheWait
  intro now stamp input s t e x hin hf hd hh hph hp hq hs marks made quiet
  have hmade : made = s.marksAfter t e x stamp := by
    unfold made State.marksAfter
    cases s.ctx t <;> rfl
  rw [exec_debounceConfirm hin hs, confirmDue_rise (s := s.atTime now) hf hd (by simp [hq]) hp hh,
    sensorActivity_rise, offerRise_first (by simp [hq]) (by simpa [sensor_setSensor_partner] using hph),
    hmade]
  simp only [State.setMachine, pair_setSection, pair_setSensor, pair_atTime, hq]
  cases x <;> rfl

/-! ### The second rise on a DRAINING track -/

/-- R19, R38: an event that a DRAINING track takes is counted with saturation. -/
theorem takeEvent_draining {s : State} {t : TrackId} (ev : PairEvent)
    (h : (s.section t).state = .draining) :
    s.takeEvent t ev =
      s.setSection t { s.section t with count := drainCount (s.section t).count ev.inward } := by
  simp [State.takeEvent, h]

/-- R12, R38: the second rise of a pair of a DRAINING track restarts its quiet timer and is counted. -/
theorem secondRise_draining {s : State} {t : TrackId} {e : SectionEnd} {x : Role} {first stamp : SiteTime}
    (hstate : (s.section t).state = .draining) (hctx : s.ctx t = none)
    (hq : s.pair t e = ⟨seenState (partner x) first, []⟩)
    (hi : interval first stamp ≤ (s.area t).pairSpacing e * 3600) :
    (s.sensorActivity t e ⟨x, true, stamp⟩).offerRise t e x stamp =
      (s.setPair t e ⟨.quiet, []⟩).setSection t { s.section t with
        quietTimer := s.startTimer (s.area t).clearTime
        count := drainCount (s.section t).count (decide (partner x = .outer)) } := by
  have hwait : (s.pair t e).state = seenState (partner x) first := by rw [hq]
  rw [sensorActivity_draining hctx hstate, offerRise_second (by simpa using hwait) (by simpa using hi)]
  simp only [State.setMachine, pair_setSection, hq]
  rw [takeEvent_draining _ (by simpa [State.setPair, State.section, State.setSection] using hstate)]
  cases t <;> rfl

/-- R3, R6: with debounce off a raw rise is taken as it occurs. -/
theorem State.rawChange_rise {s : State} {t : TrackId} {e : SectionEnd} {x : Role}
    (hd : (s.area t).debounce e x = none) (hf : (s.sensor t e x).filter = ⟨false, false, none⟩)
    (hh : (s.sensor t e x).held = false) (hw : (s.pair t e).withheld = [])
    (hp : (s.sensor t e (partner x)).filter.pendingSince = none) :
    s.rawChange t e x true = ((s.setSensor t e x { s.sensor t e x with
      filter := ⟨true, true, none⟩, occupiedSince := some s.siteTime }).sensorActivity t e
        ⟨x, true, s.siteTime⟩).offerRise t e x s.siteTime := by
  rw [State.rawChange_confirms (level := true) hd hf hw hp, takeEdge_rise (by simpa [State.setFilter] using hh)]
  simp [State.setFilter]

/-- R11, R38: the first rise of a pair of a DRAINING track restarts its quiet timer and starts the wait. -/
theorem firstRise_draining {s : State} {t : TrackId} {e : SectionEnd} {x : Role} {stamp : SiteTime}
    (hstate : (s.section t).state = .draining) (hctx : s.ctx t = none) (hq : s.pair t e = ⟨.quiet, []⟩)
    (hh : (s.sensor t e (partner x)).held = false) :
    (s.sensorActivity t e ⟨x, true, stamp⟩).offerRise t e x stamp =
      (s.setSection t { s.section t with quietTimer := s.startTimer (s.area t).clearTime }).setPair t e
        ⟨seenState x stamp, []⟩ := by
  rw [sensorActivity_draining hctx hstate, offerRise_first (by simp [hq]) (by simpa using hh)]
  simp [State.setMachine, hq]

theorem interval_self (now : SiteTime) : interval now now = 0 := by simp [interval]

/-- A rise of a sensor at the site time is among the commands that come together with the one being run. -/
theorem changeWaits_of_mem {s : State} {t : TrackId} {e : SectionEnd} {x : Role}
    (hr : (s.sensor t e x).filter.raw = false)
    (h : Instr.sensorRawChange s.siteTime (inputOfSensor t e x) true ∈ simultaneous s.siteTime s.pending) :
    s.changeWaits t e x = true := by
  simpa [State.changeWaits, hr] using h

/-- A pair machine written with what it was. -/
theorem setPair_of_pair {s : State} {t : TrackId} {e : SectionEnd} {m : PairMachine} (h : s.pair t e = m) :
    s.setPair t e m = s := h ▸ setPair_self s t e

/-- R5, R15: with debounce off, the rises of both sensors of a pair of a DRAINING track in one microsecond,
the outer sensor's first, are one inward event. -/
theorem bothRises_draining {s : State} {t : TrackId} {e : SectionEnd}
    (hoff : ∀ x, (s.area t).debounce e x = none ∧ (s.sensor t e x).filter = ⟨false, false, none⟩ ∧
      (s.sensor t e x).held = false)
    (hq : s.pair t e = ⟨.quiet, []⟩) (hstate : (s.section t).state = .draining) (hctx : s.ctx t = none) :
    (s.rawChange t e .outer true).rawChange t e .inner true =
      (((s.setSensor t e .outer { s.sensor t e .outer with
        filter := ⟨true, true, none⟩, occupiedSince := some s.siteTime }).setSensor t e .inner
        { s.sensor t e .inner with
          filter := ⟨true, true, none⟩, occupiedSince := some s.siteTime }).setPair t e
        ⟨.quiet, []⟩).setSection t { s.section t with
          quietTimer := s.startTimer (s.area t).clearTime
          count := min ((s.section t).count + 1) 32 } := by
  obtain ⟨hdo, hfo, hho⟩ := hoff .outer
  obtain ⟨hdi, hfi, hhi⟩ := hoff .inner
  have hother : ∀ v, (s.setSensor t e .outer v).sensor t e .inner = s.sensor t e .inner :=
    sensor_setSensor_partner s t e .outer
  have houter := State.rawChange_rise (x := .outer) hdo hfo hho (by rw [hq]) (by simp [partner, hfi])
  rw [houter, firstRise_draining (by simpa using hstate) (by simpa using hctx) (by simpa using hq)
    (by simpa [partner, hother] using hhi)]
  rw [State.rawChange_rise (by simpa using hdi) (by simpa [hother] using hfi)
    (by simpa [hother] using hhi) (by simp) (by simp [partner]), secondRise_draining (first := s.siteTime)
    (by simpa using hstate) (by simpa [State.ctx] using hctx) (by simp [partner]) (by simp [interval_self])]
  cases t <;> cases e <;> rfl

/-- Settles O19: a second rise by itself, and the two rises of one microsecond with debounce off. -/
theorem secondRiseCountsWhileDraining : Obligations.SecondRiseCountsWhileDraining := by
  unfold Obligations.SecondRiseCountsWhileDraining
  refine ⟨fun now stamp first input s t e x hrise hstate hctx => ?single, ?tie⟩
  case single =>
    obtain ⟨hin, hf, hd, hh, hp, hq, hi⟩ := hrise
    rw [exec_debounceConfirm hin (settled_of_state (by simp [hstate])),
      confirmDue_rise (s := s.atTime now) hf hd (by simp [hq]) hp hh,
      secondRise_draining (by simpa using hstate) (by simpa using hctx) (by simpa using hq)
        (by simpa using hi)]
    cases x <;> rfl
  case tie =>
    intro now s t e hoff hq hstate hctx hwaits rise
    obtain ⟨hdi, hfi, hhi⟩ := hoff .inner
    obtain ⟨hdo, hfo, hho⟩ := hoff .outer
    rw [exec_sensorRawChange (sensorOfInput_inputOfSensor t e .inner)
      (settled_of_state (by simp [hstate])) (by simp [State.configured, hstate]) (by simp [hfi]),
      takeRawChange_tie (s := s.atTime now) hdi (by simp [hfi]) (changeWaits_of_mem (by simp [hfo]) hwaits)]
    simp only [sensor_atTime, hfo, Bool.not_false]
    rw [bothRises_draining (s := s.atTime now) hoff hq hstate hctx, setPair_of_pair]
    · rfl
    · simpa using hq

end Sys2Proof.Machine
end

section
/-! PROOFS. Single-sensor counts (R9, R11 to R14, R16, R17): what counting an axle in and out leaves of its
track's section and of its record, and each way in which a wait ends without its partner. -/

namespace Sys2Proof.Machine

open Sys2Proof

-- One proof after another: elaborated side by side they ask for more threads than check.sh allows.
set_option Elab.async false

/-! ### Members read through a frame -/

theorem PerTrack.ext_get {α : Type} {x y : PerTrack α} (h : ∀ t, x.get t = y.get t) : x = y := by
  cases x; cases y
  congr 1
  · exact h .t1
  · exact h .t2

theorem Frame.section_eq {F : List Part} {s u : State} {t : TrackId} (h : Frame F s u)
    (hF : Part.control t ∉ F := by simp) : u.section t = s.section t := h (.control t) hF

theorem Frame.ctx_eq {F : List Part} {s u : State} {t : TrackId} (h : Frame F s u)
    (hF : Part.control t ∉ F := by simp) : u.ctx t = s.ctx t :=
  congrArg SectionController.ctx (h.section_eq hF)

theorem Frame.sensor_eq {F : List Part} {s u : State} {t : TrackId} (h : Frame F s u) (e : SectionEnd)
    (x : Role) (hF : Part.sensors t ∉ F := by simp) : u.sensor t e x = s.sensor t e x :=
  congrArg (fun y => PerRole.get (PerEnd.get y e) x) (h (.sensors t) hF)

theorem Frame.pair_eq {F : List Part} {s u : State} {t : TrackId} (h : Frame F s u) (e : SectionEnd)
    (hF : Part.pairs t ∉ F := by simp) : u.pair t e = s.pair t e :=
  congrArg (fun y => PerEnd.get y e) (h (.pairs t) hF)

theorem Frame.area_eq {F : List Part} {s u : State} {t : TrackId} (h : Frame F s u)
    (hF : Part.area t ∉ F := by simp) : u.area t = s.area t :=
  congrArg AreaStore.active (h (.area t) hF)

theorem Frame.siteTime_eq {F : List Part} {s u : State} (h : Frame F s u)
    (hF : Part.siteTime ∉ F := by simp) : u.siteTime = s.siteTime := h .siteTime hF

theorem Frame.pacers_eq {F : List Part} {s u : State} (h : Frame F s u)
    (hF : ∀ t, Part.pacer t ∉ F := by simp) : u.pacers = s.pacers :=
  PerTrack.ext_get fun t => h (.pacer t) (hF t)

/-! ### Records of a pass's axles -/

/-- The passes held in `u` are held in `s`, with the same axle records. -/
def SameAxles (s u : State) : Prop :=
  ∀ q ∈ u.store.passes, ∃ p ∈ s.store.passes, p.number = q.number ∧ p.track = q.track ∧ p.axles = q.axles

theorem SameAxles.refl (s : State) : SameAxles s s := fun q hq => ⟨q, hq, rfl, rfl, rfl⟩

theorem SameAxles.trans {s u v : State} (h : SameAxles s u) (k : SameAxles u v) : SameAxles s v := by
  intro q hq
  obtain ⟨p, hp, hn, ht, ha⟩ := k q hq
  obtain ⟨o, ho, hn', ht', ha'⟩ := h p hp
  exact ⟨o, ho, hn'.trans hn, ht'.trans ht, ha'.trans ha⟩

theorem SameAxles.of_store {s u : State} (h : u.store = s.store) : SameAxles s u :=
  fun q hq => ⟨q, h ▸ hq, rfl, rfl, rfl⟩

theorem SameAxles.of_update {s u : State} {t : TrackId} {n : Nat} {f : HeldPass → HeldPass}
    (h : u.store = s.store.updateOfTrack t n f)
    (hn : ∀ p, (f p).number = p.number := by intro _; rfl) (ht : ∀ p, (f p).track = p.track := by intro _; rfl)
    (ha : ∀ p, (f p).axles = p.axles := by intro _; rfl) : SameAxles s u := by
  intro q hq
  rw [h] at hq
  obtain ⟨p, hp, rfl⟩ := List.mem_map.mp hq
  refine ⟨p, hp, ?_⟩
  split
  · exact ⟨(hn p).symm, (ht p).symm, (ha p).symm⟩
  · exact ⟨rfl, rfl, rfl⟩

theorem raise_sameAxles (s : State) (a : Alarm) : SameAxles s (s.raise a) := .of_update (raise_store s a)

theorem raiseAll_sameAxles (s : State) (as : List Alarm) : SameAxles s (s.raiseAll as) := by
  unfold State.raiseAll
  induction as generalizing s with
  | nil => exact .refl s
  | cons a rest ih => exact (raise_sameAxles s a).trans (ih _)

theorem updateVehicle_sameAxles (s : State) (t : TrackId) (n i : Nat) (f : VehicleRecord → VehicleRecord) :
    SameAxles s (s.updateVehicle t n i f) := .of_update rfl

theorem completeVehicle_sameAxles (s : State) (t : TrackId) (n i : Nat) :
    SameAxles s (s.completeVehicle t n i) := by
  unfold State.completeVehicle
  split
  · dsimp only
    split
    · exact updateVehicle_sameAxles s _ _ _ _
    · exact (updateVehicle_sameAxles s _ _ _ _).trans (raise_sameAxles _ _)
  · exact .refl s

/-- R123: the report of an axle's end changes vehicle records only. -/
theorem tellEnded_sameAxles (s : State) (t : TrackId) (n i : Nat) (o : AxleOutcome) (l : Level) :
    SameAxles s (s.tellEnded t n i o l) := by
  have context : ∀ c, SameAxles s (s.setContext t c) := fun c => .of_store rfl
  unfold State.tellEnded
  split
  · exact .refl s
  · dsimp only
    split
    · exact context _
    · split
      · exact (context _).trans (updateVehicle_sameAxles _ _ _ _ _)
      · split
        · exact ((context _).trans (updateVehicle_sameAxles _ _ _ _ _)).trans
            (completeVehicle_sameAxles _ _ _ _)
        · exact (context _).trans (updateVehicle_sameAxles _ _ _ _ _)

/-- Every stored record of an axle of a track's pass has a property. -/
def AxleIs (s : State) (t : TrackId) (n i : Nat) (P : AxleRecord → Prop) : Prop :=
  ∀ q ∈ s.store.passes, q.number = n → q.track = t → ∀ r ∈ q.axles, r.index = i → P r

theorem AxleIs.through {s u : State} {t : TrackId} {n i : Nat} {P : AxleRecord → Prop}
    (h : AxleIs s t n i P) (k : SameAxles s u) : AxleIs u t n i P := by
  intro q hq hn ht r hr
  obtain ⟨p, hp, hpn, hpt, hpa⟩ := k q hq
  exact h p hp (hpn.trans hn) (hpt.trans ht) r (hpa ▸ hr)

/-- A change of an axle's record shows in it. -/
theorem axleIs_updateAxle {s : State} {t : TrackId} {n i : Nat} {f : AxleRecord → AxleRecord}
    {P Q : AxleRecord → Prop} (h : AxleIs s t n i P) (hf : ∀ r, P r → Q (f r)) :
    AxleIs (s.updateAxle t n i f) t n i Q := by
  intro q hq hn ht r hr hi
  obtain ⟨p, hp, rfl⟩ := List.mem_map.mp hq
  by_cases mine : p.number = n ∧ p.track = t
  · rw [if_pos mine] at hr
    obtain ⟨a, ha, rfl⟩ := List.mem_map.mp hr
    by_cases hindex : a.index = i
    · rw [if_pos hindex]
      exact hf a (h p hp mine.1 mine.2 a ha hindex)
    · rw [if_neg hindex] at hi
      exact absurd hi hindex
  · rw [if_neg mine] at hn ht
    exact absurd ⟨hn, ht⟩ mine

theorem axleIs_trivial (s : State) (t : TrackId) (n i : Nat) : AxleIs s t n i fun _ => True :=
  fun _ _ _ _ _ _ _ => trivial

/-! ### Finishing an axle (R31) -/

/-- R31: finishing an axle leaves its track's section but for the rises of the pass. -/
theorem finish_section (s : State) (t : TrackId) (c : PassContext) (e : AxleEntry) (drift : Option Int)
    (uncertain forced : Bool) : ∃ thermal, (s.finish t c e drift uncertain forced).section t =
      { s.section t with ctx := some (c.addRises thermal) } := by
  refine ⟨thermalResults c (e.fixFlags c.profile uncertain forced), ?_⟩
  unfold State.finish
  extract_lets a wheels thermal base alarms r r2 r3 r4
  have hr2 : r2.section t = s.section t :=
    (raiseAll_frame { r with choice := alarms.2 } alarms.1).section_eq
  clear_value r2
  have hr3 : r3.section t = { s.section t with ctx := some (c.addRises thermal) } := by
    simp only [r3, State.setCtx, section_setSection, hr2]
  have hr4 : r4.section t = r3.section t := rfl
  exact (tellEnded_frame r4 t _ _ _ _).section_eq.trans (hr4.trans hr3)

/-- R31: the stored record of a finished axle is FINAL and has the flags fixed at its finishing. -/
theorem finish_axleIs (s : State) (t : TrackId) (c : PassContext) (e : AxleEntry) (drift : Option Int)
    (uncertain forced : Bool) : AxleIs (s.finish t c e drift uncertain forced) t c.number e.index
      fun r => r.status = .final ∧ r.flags = (e.fixFlags c.profile uncertain forced).flags := by
  unfold State.finish
  extract_lets a wheels thermal base alarms r r2 r3 r4
  have hr : AxleIs r t c.number e.index fun x => x.flags = a.flags :=
    axleIs_updateAxle (axleIs_trivial s t _ _) fun _ _ => rfl
  have hr3 : AxleIs r3 t c.number e.index fun x => x.flags = a.flags :=
    (hr.through (raiseAll_sameAxles { r with choice := alarms.2 } alarms.1)).through (.of_store rfl)
  have hr4 : AxleIs r4 t c.number e.index fun x => x.status = .final ∧ x.flags = a.flags :=
    axleIs_updateAxle hr3 fun _ hx => ⟨rfl, hx⟩
  exact hr4.through (tellEnded_sameAxles _ _ _ _ _ _)

/-! ### Counting an axle in and out (R28, R29) -/

theorem startHold_section {s : State} {t : TrackId} {c : PassContext} (h : s.ctx t = some c) :
    (s.startHold t).section t = { s.section t with
      holdTimer := s.startTimer (holdTime (s.area t).holdDistance c.heldSpeed) } := by
  simp [State.startHold, h]

/-- R131: a stop of axle storing shows in the pass context only. -/
theorem stopStoring_section (s : State) (t : TrackId) (c : PassContext) (pool : Bool) :
    (s.stopStoring t c pool).section t = { s.section t with ctx := some { c with storing := false } } :=
  section_setSection (s.flagPass t c.number _) t _

/-- R28, R131: asking for an axle's record leaves its track's section, but that storing may stop. -/
theorem askRecord_section {s : State} {t : TrackId} {c : PassContext} (e : AxleEntry)
    (h : s.ctx t = some c) : ∃ storing, (s.askRecord t c e).1.section t =
      { s.section t with ctx := some { c with storing := storing } } := by
  have same : s.section t = { s.section t with ctx := some { c with storing := c.storing } } := by
    rw [show (some { c with storing := c.storing } : Option PassContext) = (s.section t).ctx from h.symm]
  have room : (s.makeRoom hasAxleChunk).section t = s.section t := (makeRoom_frame s _).section_eq
  unfold State.askRecord State.requestAxle
  dsimp only
  split
  · split
    · exact ⟨false, stopStoring_section s t c _⟩
    · split
      · split
        · exact ⟨c.storing, room.trans same⟩
        · exact ⟨false, (stopStoring_section _ t c _).trans (by rw [room])⟩
      · exact ⟨c.storing, same⟩
  · exact ⟨c.storing, same⟩

/-- R28: the section after an axle is counted in. -/
theorem countIn_section {s : State} {t : TrackId} {c : PassContext} (ev : PairEvent)
    (h : s.ctx t = some c) : ∃ storing, (s.countIn t ev).section t = { s.section t with
      ctx := some { c.countedIn ev.speed with storing := storing }
      count := (s.section t).count + 1
      queue := (s.section t).queue ++ [AxleEntry.ofCountIn (c.entryCount + 1) ev]
      holdTimer := s.startTimer (holdTime (s.area t).holdDistance c.heldSpeed) } := by
  unfold State.countIn
  rw [h]
  dsimp -zeta only
  extract_lets c' e asked
  have joined : (s.joinQueue t c' e).section t = { s.section t with
      ctx := some c', count := (s.section t).count + 1, queue := (s.section t).queue ++ [e] } :=
    section_setSection s t _
  obtain ⟨storing, hasked⟩ := askRecord_section e (congrArg SectionController.ctx joined)
  have frame : Frame (.control t :: vehicleParts t) s (asked.1.tellCounted t c'.number e asked.2) :=
    .step (.step (.one (joinQueue_frame s t c' e)) (askRecord_frame _ t c' e)) (tellCounted_frame _ t _ e _)
  have told : (asked.1.tellCounted t c'.number e asked.2).section t = { s.section t with
      ctx := some { c' with storing := storing }
      count := (s.section t).count + 1, queue := (s.section t).queue ++ [e] } :=
    (tellCounted_frame asked.1 t c'.number e asked.2).section_eq.trans (hasked.trans (by rw [joined]))
  refine ⟨storing, ?_⟩
  rw [startHold_section (congrArg SectionController.ctx told), told, State.startTimer, frame.siteTime_eq,
    frame.area_eq]
  rfl

/-- R29: counting an axle out takes the head of the queue out and finishes it; then the track goes to
CLEARING or its hold timer restarts. -/
theorem countOut_cases {s : State} {t : TrackId} {c : PassContext} (ev : PairEvent) (h : s.ctx t = some c) :
    ∃ done rises, (s.countOut t ev = done.enterClearing t ∨ s.countOut t ev = done.startHold t) ∧
      done.section t = { s.section t with
        ctx := some { c with exitCount := c.exitCount + 1, rises := rises }
        count := (s.section t).count - 1
        queue := (s.section t).queue.drop 1 } ∧
      ∀ a rest, (s.section t).queue = a :: rest → AxleIs done t c.number a.index fun r =>
        r.status = .final ∧ (ev.degraded = true → r.flags.degradedTiming = true) := by
  unfold State.countOut
  rw [h]
  dsimp -zeta only
  extract_lets c' left before gone done
  have hgone : gone.section t = { s.section t with
      ctx := some c', count := left, queue := (s.section t).queue.drop 1 } := section_setSection s t _
  have hcases : ∀ x : State, (if left = 0 then x.enterClearing t else x.startHold t) = x.enterClearing t ∨
      (if left = 0 then x.enterClearing t else x.startHold t) = x.startHold t := by
    intro x
    split
    · exact .inl rfl
    · exact .inr rfl
  cases hq : (s.section t).queue with
  | nil =>
    refine ⟨gone, c.rises, ?_, ?_, fun _ _ h => nomatch h⟩
    · simpa only [done, hq] using hcases gone
    · rw [hgone, hq]
  | cons a rest =>
    have hdone : done = gone.finish t c' (a.countedOut ev) (s.driftAt t c' a ev.firstSensor ev.firstStamp)
        (exceedsDrift (s.area t) (s.driftAt t c' a ev.firstSensor ev.firstStamp)) false := by
      simp only [done, hq]
    obtain ⟨thermal, hfinish⟩ := finish_section gone t c' (a.countedOut ev)
      (s.driftAt t c' a ev.firstSensor ev.firstStamp)
      (exceedsDrift (s.area t) (s.driftAt t c' a ev.firstSensor ev.firstStamp)) false
    refine ⟨done, (c'.addRises thermal).rises, hcases done, ?_, ?_⟩
    · rw [hdone, hfinish, hgone, hq]; rfl
    · intro b rest' hb
      obtain ⟨rfl, rfl⟩ := List.cons.inj hb
      intro q hq' hn ht r hr hi
      obtain ⟨hfinal, hflags⟩ := finish_axleIs gone t c' (a.countedOut ev)
        (s.driftAt t c' a ev.firstSensor ev.firstStamp)
        (exceedsDrift (s.area t) (s.driftAt t c' a ev.firstSensor ev.firstStamp)) false q (hdone ▸ hq') hn ht r
        hr hi
      refine ⟨hfinal, fun hdegraded => ?_⟩
      rw [hflags]
      simp [AxleEntry.fixFlags, AxleEntry.countedOut, hdegraded]

/-- R29: what counting an axle out leaves of the pass, the count, the queue and the record. -/
theorem countOut_leaves {s : State} {t : TrackId} {c : PassContext} (ev : PairEvent) (h : s.ctx t = some c) :
    ∃ rises, (s.countOut t ev).ctx t = some { c with exitCount := c.exitCount + 1, rises := rises } ∧
      ((s.countOut t ev).section t).count = (s.section t).count - 1 ∧
      ((s.countOut t ev).section t).queue = (s.section t).queue.drop 1 ∧
      ∀ a rest, (s.section t).queue = a :: rest → AxleIs (s.countOut t ev) t c.number a.index fun r =>
        r.status = .final ∧ (ev.degraded = true → r.flags.degradedTiming = true) := by
  obtain ⟨done, rises, hout, hdone, hrecord⟩ := countOut_cases ev h
  have leaves : ∀ u, u.store = done.store → (∃ state hold clear, u.section t =
      { done.section t with state := state, holdTimer := hold, clearTimer := clear }) →
      u.ctx t = some { c with exitCount := c.exitCount + 1, rises := rises } ∧
        (u.section t).count = (s.section t).count - 1 ∧ (u.section t).queue = (s.section t).queue.drop 1 ∧
        ∀ a rest, (s.section t).queue = a :: rest → AxleIs u t c.number a.index fun r =>
          r.status = .final ∧ (ev.degraded = true → r.flags.degradedTiming = true) := by
    rintro u hstore ⟨state, hold, clear, hu⟩
    simp only [State.ctx, hu, hdone, true_and]
    exact fun a rest hq => (hrecord a rest hq).through (.of_store hstore)
  refine ⟨rises, ?_⟩
  rcases hout with hu | hu
  · rw [hu]
    exact leaves _ rfl ⟨_, _, _, section_setSection done t _⟩
  · rw [hu]
    exact leaves _ (startHold_frame done t .store (by simp))
      ⟨_, _, _, startHold_section (congrArg SectionController.ctx hdone)⟩

/-! ### Single-sensor counts (R9, R16, R17) -/

@[simp] theorem waiting_seenState (x : Role) (first : SiteTime) :
    (seenState x first).waiting = some (x, first) := by cases x <;> rfl

theorem exitEnd_ne_entryEnd (d : Direction) : exitEnd d ≠ entryEnd d := by cases d <;> decide

theorem eq_entryEnd_or_exitEnd (d : Direction) (e : SectionEnd) : e = entryEnd d ∨ e = exitEnd d := by
  cases d <;> cases e <;> decide

/-- R9: marking a sensor SUSPECT changes the sensor so, whether it was or not. -/
theorem markSuspect_sensor (s : State) (t : TrackId) (e : SectionEnd) (x : Role) :
    (s.markSuspect t e x).sensor t e x = { s.sensor t e x with suspect := true } := by
  unfold State.markSuspect
  split
  · rename_i h
    rw [← h]
  · exact (notify_frame _ _).sensor_eq e x |>.trans (sensor_setSensor s t e x _)

/-- R17: without an open pass a single-sensor count marks its silent sensor and nothing else. -/
theorem singleCount_discarded {s : State} {t : TrackId} (e : SectionEnd) (seen : Role) (first : SiteTime)
    (h : s.ctx t = none) : s.singleCount t e seen first = s.markSuspect t e (partner seen) := by
  have hm : (s.markSuspect t e (partner seen)).ctx t = none :=
    ((markSuspect_frame s t e _).ctx_eq).trans h
  simp only [State.singleCount, hm]

/-- R27: a single-sensor count leaves the held speed. -/
theorem takeSpeed_single {s : State} {t : TrackId} {ev : PairEvent} (h : ev.paired = false) :
    s.takeSpeed t ev = s := by
  unfold State.takeSpeed
  split
  · rfl
  · simp [h]

/-- R16, R28, R29: a single-sensor count of an OCCUPIED track counts in at the entry pair and out at the exit
pair, at the held speed. -/
theorem singleCount_occupied {s : State} {t : TrackId} {e : SectionEnd} {c : PassContext} (seen : Role)
    (first : SiteTime) (hs : (s.section t).state = .occupied) (hc : s.ctx t = some c)
    (hlt : (s.section t).count < 32) :
    let r := s.markSuspect t e (partner seen)
    let ev := singleEvent c ((s.area t).pairSpacing e) e seen first s.siteTime
    (e = entryEnd c.direction → s.singleCount t e seen first = r.countIn t ev) ∧
    (e = exitEnd c.direction → s.singleCount t e seen first = r.countOut t ev) := by
  intro r ev
  have frame : Frame _ s r := markSuspect_frame s t e (partner seen)
  have hsection : r.section t = s.section t := frame.section_eq
  have hr : s.singleCount t e seen first = r.takeOccupied t c ev := by
    have hctx : r.ctx t = some c := frame.ctx_eq.trans hc
    simp only [State.singleCount, r, ev] at hctx hsection ⊢
    rw [hctx]
    simp only [State.takeEvent, hsection, hs, hctx, frame.area_eq (t := t), frame.siteTime_eq, r]
  have hin : ev.inward = decide (e = entryEnd c.direction) := rfl
  have hpair : ev.pairEnd = e := rfl
  rw [hr]
  refine ⟨fun he => ?_, fun he => ?_⟩
  · simp [State.takeOccupied, hin, hpair, he, takeSpeed_single (ev := ev) rfl, hsection, hlt]
  · simp [State.takeOccupied, hin, hpair, he, takeSpeed_single (ev := ev) rfl, exitEnd_ne_entryEnd]

/-- `r` is `s` at a site time but for inputs, notices, and what sensor activity changes of a track's section. -/
structure Offered (s r : State) (now : SiteTime) (t : TrackId) : Prop where
  time : r.siteTime = now
  area : r.area t = s.area t
  pacers : r.pacers = s.pacers
  sectionEq : ∃ marks quiet,
    r.section t = { s.section t with exitMarks := marks, quietTimer := quiet }

/-- R16: a single-sensor count of an OCCUPIED track is the one that `CountedSingle` describes. -/
theorem singleCount_counted {s r : State} {now : SiteTime} {t : TrackId} {c : PassContext}
    (hr : Offered s r now t) (e : SectionEnd) (seen : Role) (first : SiteTime)
    (hs : (s.section t).state = .occupied) (hc : s.ctx t = some c) (hlt : (s.section t).count < 32) :
    CountedSingle s (r.singleCount t e seen first) now first t e seen c := by
  obtain ⟨htime, harea, hpacers, marks, quiet, hsection⟩ := hr
  have hrc : r.ctx t = some c := (congrArg SectionController.ctx hsection).trans hc
  obtain ⟨hcountIn, hcountOut⟩ := singleCount_occupied (e := e) seen first
    ((congrArg SectionController.state hsection).trans hs) hrc (by rw [hsection]; exact hlt)
  have mark := markSuspect_frame r t e (partner seen)
  have hmark : (r.markSuspect t e (partner seen)).section t =
      { s.section t with exitMarks := marks, quietTimer := quiet } := mark.section_eq.trans hsection
  have hmc : (r.markSuspect t e (partner seen)).ctx t = some c := mark.ctx_eq.trans hrc
  have suspect : ((r.markSuspect t e (partner seen)).sensor t e (partner seen)).suspect = true := by
    rw [markSuspect_sensor]
  set ev := singleEvent c ((r.area t).pairSpacing e) e seen first r.siteTime with hev
  unfold CountedSingle
  intro transit projected reached time
  rcases eq_entryEnd_or_exitEnd c.direction e with he | he
  · rw [hcountIn he]
    have frame := countIn_frame (r.markSuspect t e (partner seen)) t ev
    obtain ⟨storing, hu⟩ := countIn_section ev hmc
    refine ⟨?_, ?_, _, congrArg SectionController.ctx hu, rfl, rfl, fun _ => ?_, fun h => ?_⟩
    · rw [frame.sensor_eq]; exact suspect
    · exact frame.pacers_eq.trans (mark.pacers_eq.trans hpacers)
    · refine ⟨AxleEntry.ofCountIn (c.entryCount + 1) ev, ?_, ?_, rfl, rfl, rfl, ?_, rfl, rfl, rfl⟩
      · rw [hu, hmark]
      · rw [hu, hmark]
      · rw [hev, harea, htime]
        rfl
    · exact absurd (h.symm.trans he) (exitEnd_ne_entryEnd _)
  · rw [hcountOut he]
    have frame := countOut_frame (r.markSuspect t e (partner seen)) t ev
    obtain ⟨rises, hctx, hcount, hqueue, hrecord⟩ := countOut_leaves ev hmc
    refine ⟨?_, ?_, _, hctx, rfl, rfl, fun h => ?_, fun _ a rest hq => ⟨?_, ?_, rfl, rfl, ?_⟩⟩
    · rw [frame.sensor_eq]; exact suspect
    · exact frame.pacers_eq.trans (mark.pacers_eq.trans hpacers)
    · exact absurd (he.symm.trans h) (exitEnd_ne_entryEnd _)
    · rw [hqueue, hmark]
      simp [hq]
    · rw [hcount, hmark]
    · intro q hfind htrack x hx hi
      obtain ⟨hmem, hnumber⟩ := PassStore.find_some hfind
      obtain ⟨hfinal, hflags⟩ := hrecord a rest (by rw [hmark]; exact hq) q hmem hnumber htrack x hx hi
      exact ⟨hfinal, hflags rfl⟩

/-! ### The ways in which a wait ends (R11 to R14) -/

/-- R13: once the pair timeout has passed, with no change of the partner to come, the wait ends. -/
theorem exec_pairTimeoutExpiry {now first : SiteTime} {s : State} {t : TrackId} {e : SectionEnd} {seen : Role}
    (hq : s.pair t e = ⟨seenState seen first, []⟩)
    (hi : (s.area t).pairSpacing e * 3600 ≤ interval first now)
    (hp : (s.sensor t e (partner seen)).filter.pendingSince = none) :
    exec (.pairTimeoutExpiry now t e) s = .next ((s.atTime now).endWait t e seen first) := by
  simp [exec, execPairTimeoutExpiry, hq, State.partnerToCome, hp, pairTimeout, hi]

/-- R14: the partner of a sensor whose edge the machine holds becomes HELD. -/
theorem partnerHeld_waiting {s : State} {t : TrackId} {e : SectionEnd} {seen : Role} {first : SiteTime}
    (h : (s.pair t e).state = seenState seen first) :
    s.partnerHeld t e (partner seen) = s.endWait t e seen first := by
  simp [State.partnerHeld, h]

/-- R11: a rise at a QUIET machine whose partner sensor is HELD is a single-sensor count at once. -/
theorem offerRise_held {s : State} {t : TrackId} {e : SectionEnd} {x : Role} {stamp : SiteTime}
    (hq : (s.pair t e).state = .quiet) (hh : (s.sensor t e (partner x)).held = true) :
    s.offerRise t e x stamp = s.singleCount t e x stamp := by
  simp [State.offerRise, State.expirePassed, hq, PairState.waiting, State.firstRise, hh]

/-- R12: a further rise of the same sensor within the pair timeout restarts the wait. -/
theorem offerRise_further {s : State} {t : TrackId} {e : SectionEnd} {x : Role} {first stamp : SiteTime}
    (hq : (s.pair t e).state = seenState x first)
    (hi : interval first stamp ≤ (s.area t).pairSpacing e * 3600) :
    s.offerRise t e x stamp = s.restartWait t e x first stamp := by
  have hi' : ¬pairTimeout ((s.area t).pairSpacing e) < interval first stamp := Nat.not_lt.mpr hi
  simp [State.offerRise, State.expirePassed, hq, hi']

/-- R12: the axle that a machine waits for is overdue after twice the transit time at the held speed. -/
theorem overdue_iff {s : State} {t : TrackId} {e : SectionEnd} {first stamp : SiteTime} :
    s.overdue t e first stamp = true ↔ ∃ c, s.ctx t = some c ∧
      2 * ((2 * ((s.area t).pairSpacing e * 36000) + c.heldSpeed) / (2 * c.heldSpeed)) <
        interval first stamp := by
  unfold State.overdue
  cases s.ctx t with
  | none => simp
  | some c =>
    simp only [transitTime, roundNat, Option.some.injEq, exists_eq_left']
    exact decide_eq_true_iff

/-- A rise confirmed at a site time, as far as its sensor goes: due, not HELD, and taken at once. -/
abbrev RiseDue (s : State) (now stamp : SiteTime) (t : TrackId) (e : SectionEnd) (x : Role) : Prop :=
  (s.sensor t e x).filter = ⟨true, false, some stamp⟩ ∧ (s.area t).debounceTime e x ≤ interval stamp now ∧
    (s.sensor t e x).held = false ∧ (s.sensor t e (partner x)).filter.pendingSince = none

/-- The state in which a rise is offered to its pair machine: its sensor's filter and occupancy interval set, and
its activity taken. -/
def State.offering (s : State) (now stamp : SiteTime) (t : TrackId) (e : SectionEnd) (x : Role) : State :=
  ((s.atTime now).setSensor t e x { s.sensor t e x with
    filter := ⟨true, true, none⟩, occupiedSince := some stamp }).sensorActivity t e ⟨x, true, stamp⟩

theorem exec_debounceConfirm_rise {s : State} {now stamp : SiteTime} {t : TrackId} {e : SectionEnd} {x : Role}
    (h : RiseDue s now stamp t e x) (hw : (s.pair t e).withheld = []) (hs : Settled s now t) :
    exec (.debounceConfirm now (inputOfSensor t e x)) s =
      .next ((s.offering now stamp t e x).offerRise t e x stamp) := by
  obtain ⟨hf, hd, hh, hp⟩ := h
  rw [exec_debounceConfirm (sensorOfInput_inputOfSensor t e x) hs,
    confirmDue_rise (s := s.atTime now) hf hd hw hp hh]
  rfl

theorem offering_offered (s : State) (now stamp : SiteTime) (t : TrackId) (e : SectionEnd) (x : Role) :
    Offered s (s.offering now stamp t e x) now t := by
  rw [State.offering, sensorActivity_rise]
  exact ⟨rfl, rfl, rfl, _, _, section_setSection _ t _⟩

theorem offering_pair (s : State) (now stamp : SiteTime) (t : TrackId) (e : SectionEnd) (x : Role) :
    (s.offering now stamp t e x).pair t e = s.pair t e := by
  rw [State.offering, sensorActivity_rise]
  rfl

theorem offering_partner (s : State) (now stamp : SiteTime) (t : TrackId) (e : SectionEnd) (x : Role) :
    (s.offering now stamp t e x).sensor t e (partner x) = s.sensor t e (partner x) := by
  rw [State.offering, sensorActivity_rise]
  exact sensor_setSensor_partner (s.atTime now) t e x _

/-- A single-sensor count leaves the pair machines. -/
theorem singleCount_pair (s : State) (t : TrackId) (e : SectionEnd) (seen : Role) (first : SiteTime) :
    (s.singleCount t e seen first).pair t e = s.pair t e := by
  unfold State.singleCount
  dsimp only
  split
  · exact (markSuspect_frame s t e _).pair_eq e
  · exact ((takeEvent_frame _ t _).pair_eq e).trans ((markSuspect_frame s t e _).pair_eq e)

/-- R9: a single-sensor count of an OCCUPIED track leaves its silent sensor SUSPECT and otherwise as it was. -/
theorem singleCount_held (s : State) (t : TrackId) (e : SectionEnd) (seen : Role) (first : SiteTime) :
    ((s.singleCount t e seen first).sensor t e (partner seen)).held =
      (s.sensor t e (partner seen)).held := by
  have hm := congrArg Sensor.held (markSuspect_sensor s t e (partner seen))
  unfold State.singleCount
  dsimp only
  split
  · exact hm
  · exact (congrArg Sensor.held ((takeEvent_frame _ t _).sensor_eq e _)).trans hm

/-- R13, R14: a wait that ends on an OCCUPIED track leaves its machine QUIET and is counted. -/
theorem endWait_counted {s r : State} {now first : SiteTime} {t : TrackId} {e : SectionEnd} {seen : Role}
    {c : PassContext} (hr : Offered s r now t) (hw : (r.pair t e).withheld = [])
    (hs : (s.section t).state = .occupied) (hc : s.ctx t = some c) (hlt : (s.section t).count < 32) :
    (r.endWait t e seen first).pair t e = ⟨.quiet, []⟩ ∧
      CountedSingle s (r.endWait t e seen first) now first t e seen c := by
  have hquiet : Offered s (r.setMachine t e .quiet) now t := ⟨hr.time, hr.area, hr.pacers, hr.sectionEq⟩
  refine ⟨?_, singleCount_counted hquiet e seen first hs hc hlt⟩
  simp only [State.endWait, singleCount_pair, State.setMachine, pair_setPair, hw]

/-- Settles O26, way by way: the pair timeout, a HELD partner, a partner that becomes HELD, a further rise. -/
theorem singleSensorCountsFollowTheirRules : Obligations.SingleSensorCountsFollowTheirRules := by
  unfold Obligations.SingleSensorCountsFollowTheirRules
  intro now first s t e seen open_ riseOf
  have settled : ∀ c, open_ c → Settled s now t := fun c ⟨hs, _⟩ => settled_of_state (by simp [hs])
  refine ⟨fun hq hi hp => ⟨fun hc hx => ?suspected, fun hc hx => ?marked, fun c ⟨hs, hc, _, hlt⟩ => ?timeout⟩,
    fun c hrise hh hq hopen => ?heldPartner, fun c since hh ho hl hq ⟨hs, hc, _, hlt⟩ => ?becomesHeld,
    fun stamp hrise hq hi => ⟨fun c hopen hover => ?overdue, fun hs hsettled hnot => ?further⟩⟩
  case suspected =>
    rw [exec_pairTimeoutExpiry hq hi hp, State.endWait, singleCount_discarded _ _ _ (by exact hc),
      State.markSuspect, if_pos (by exact hx)]
    simp only [State.setMachine, pair_atTime, hq]
    rfl
  case marked =>
    rw [exec_pairTimeoutExpiry hq hi hp, State.endWait, singleCount_discarded _ _ _ (by exact hc),
      State.markSuspect, if_neg (by simpa [State.setMachine] using hx)]
    simp only [State.setMachine, pair_atTime, hq]
    rfl
  case timeout =>
    exact ⟨_, exec_pairTimeoutExpiry hq hi hp,
      endWait_counted (s := s) ⟨rfl, rfl, rfl, _, _, rfl⟩ (by simp [hq]) hs hc hlt⟩
  case heldPartner =>
    refine ⟨_, exec_debounceConfirm_rise hrise (by simp [hq]) (settled c hopen), ?_⟩
    obtain ⟨hs, hc, _, hlt⟩ := hopen
    rw [offerRise_held (by rw [offering_pair, hq]) (by rw [offering_partner]; exact hh)]
    exact ⟨by rw [singleCount_pair, offering_pair, hq],
      singleCount_counted (offering_offered s now first t e seen) e seen first hs hc hlt⟩
  case becomesHeld =>
    have hr : Offered s ((s.atTime now).enterHeld t e (partner seen)) now t :=
      ⟨rfl, rfl, rfl, _, _, rfl⟩
    have hpair : ((s.atTime now).enterHeld t e (partner seen)).pair t e = s.pair t e := rfl
    obtain ⟨hquiet, hcounted⟩ := endWait_counted (e := e) (seen := seen) (first := first) hr
      (by simp [hpair, hq]) hs hc hlt
    refine ⟨_, exec_heldTimerExpiry (sensorOfInput_inputOfSensor t e _) hh ho hl, ?_⟩
    rw [partnerHeld_waiting (by rw [hpair, hq])]
    refine ⟨?_, hquiet, hcounted⟩
    rw [State.endWait, singleCount_held]
    exact congrArg Sensor.held (sensor_setSensor (s.atTime now) t e (partner seen) _)
  case overdue =>
    have hr := offering_offered s now stamp t e seen
    have hlate : (s.offering now stamp t e seen).overdue t e first stamp = true := by
      obtain ⟨marks, quiet, hsection⟩ := hr.sectionEq
      refine overdue_iff.mpr ⟨c, (congrArg SectionController.ctx hsection).trans hopen.2.1, ?_⟩
      rw [hr.area]
      exact hover
    refine ⟨_, exec_debounceConfirm_rise hrise (by simp [hq]) (settled c hopen), ?_⟩
    obtain ⟨hs, hc, _, hlt⟩ := hopen
    rw [offerRise_further (first := first) (by rw [offering_pair, hq]) (by rw [hr.area]; exact hi),
      State.restartWait, if_pos hlate]
    refine ⟨?_, singleCount_counted hr e seen first hs hc hlt⟩
    simp only [State.setMachine, pair_setPair, singleCount_pair, offering_pair, hq]
  case further =>
    have hoffering : s.offering now stamp t e seen = (s.atTime now).setSensor t e seen
        { s.sensor t e seen with filter := ⟨true, true, none⟩, occupiedSince := some stamp } :=
      sensorActivity_elsewhere (fun c hc => (hnot c hc).1) hs
    have hearly : (s.offering now stamp t e seen).overdue t e first stamp = false := by
      rw [hoffering, Bool.eq_false_iff]
      intro hover
      obtain ⟨c, hc, hlate⟩ := overdue_iff.mp hover
      exact Nat.not_lt.mpr (hnot c hc).2 hlate
    rw [exec_debounceConfirm_rise hrise (by simp [hq]) hsettled,
      offerRise_further (first := first) (by rw [offering_pair, hq]) (by rw [hoffering]; exact hi),
      State.restartWait, if_neg (Bool.eq_false_iff.mp hearly), hoffering]
    simp only [State.setMachine, pair_setSensor, pair_atTime, hq]
    rfl

end Sys2Proof.Machine
end

section
/-! PROOFS. The validation of the staged copy (R183): what each of the nine checks asks, and which of them a
detail code names. -/

namespace Sys2Proof.Machine

open Sys2Proof

-- One proof after another: elaborated side by side they ask for more threads than check.sh allows.
set_option Elab.async false

/-! ### The nine checks (R183) -/

/-- R183: a track area fails the check of a number, in view of the other track's area. -/
def TrackArea.fails (order : Nat) (a other : TrackArea) : Prop :=
  let p2 := a.sensorX .p .inner
  let q2 := a.sensorX .q .inner
  let set := fun (a : TrackArea) rail b => (a.bay rail b).set = true
  match order with
  | 1 => ∃ e x, a.sensorX e x = 0
  | 2 => ¬(a.sensorX .p .outer < p2 ∧ p2 < q2 ∧ q2 < a.sensorX .q .outer)
  | 3 => ¬(a.sensorX .p .outer + 200 ≤ p2 ∧ p2 ≤ a.sensorX .p .outer + 1000 ∧
      q2 + 200 ≤ a.sensorX .q .outer ∧ a.sensorX .q .outer ≤ q2 + 1000)
  | 4 => ∃ rail b, set a rail b ∧
      ¬((a.bay rail b).start + 300 ≤ (a.bay rail b).stop ∧
        (a.bay rail b).stop ≤ (a.bay rail b).start + 2000)
  | 5 => ∃ rail b, set a rail b ∧ ¬(p2 < (a.bay rail b).start ∧ (a.bay rail b).stop < q2)
  | 6 => ∃ rail b c, b ≠ c ∧ set a rail b ∧ set a rail c ∧
      (a.bay rail c).start < (a.bay rail b).stop ∧ (a.bay rail b).start < (a.bay rail c).stop
  | 7 => ∃ rail b, set a rail b ∧ (a.scanList.map fun x => x.1).count (a.bay rail b).channel ≠ 1
  | 8 => ∃ rail b, set a rail b ∧
      ((∃ r2 c, (r2, c) ≠ (rail, b) ∧ set a r2 c ∧ (a.bay r2 c).channel = (a.bay rail b).channel) ∨
        ∃ r2 c, set other r2 c ∧ (other.bay r2 c).channel = (a.bay rail b).channel)
  | 9 => ∃ n, ¬(p2 + a.gateHalf n < a.scannerX n ∧ a.scannerX n + a.gateHalf n < q2)
  | _ => False

theorem mem_eight (b : Fin 8) : b ∈ eight := by fin_cases b <;> decide

theorem mem_allBays (rail : Rail) (b : Fin 8) : (rail, b) ∈ allBays := by
  cases rail <;> simp [allBays, mem_eight]

theorem mem_scannerNames (n : ScannerName) : n ∈ scannerNames := by cases n <;> decide

/-- The set bays are the bays whose slot is set. -/
theorem mem_setBays {a : TrackArea} {rail : Rail} {b : Fin 8} {slot : BaySlot} :
    ((rail, b), slot) ∈ a.setBays ↔ (a.bay rail b).set = true ∧ slot = a.bay rail b := by
  simp only [TrackArea.setBays, List.mem_filter, List.mem_map, Prod.mk.injEq]
  constructor
  · rintro ⟨⟨y, _, rfl, rfl⟩, hset⟩
    exact ⟨hset, rfl⟩
  · rintro ⟨hset, rfl⟩
    exact ⟨⟨(rail, b), mem_allBays rail b, rfl, rfl⟩, hset⟩

/-- A check of all set bays fails where one of them fails it. -/
theorem all_setBays_eq_false {a : TrackArea} {f : (Rail × Fin 8) × BaySlot → Bool} :
    a.setBays.all f = false ↔
      ∃ rail b, (a.bay rail b).set = true ∧ f ((rail, b), a.bay rail b) = false := by
  simp only [List.all_eq_false, Prod.exists, mem_setBays]
  constructor
  · rintro ⟨rail, b, slot, ⟨hset, rfl⟩, hf⟩
    exact ⟨rail, b, hset, by simpa using hf⟩
  · rintro ⟨rail, b, hset, hf⟩
    exact ⟨rail, b, _, ⟨hset, rfl⟩, by simpa using hf⟩

section Checks

variable (a other : TrackArea)

theorem hasGeometry_eq_false : a.hasGeometry = false ↔ a.fails 1 other := by
  have every : (∃ e x, a.sensorX e x = 0) ↔ a.sensorX .p .outer = 0 ∨ a.sensorX .p .inner = 0 ∨
      a.sensorX .q .inner = 0 ∨ a.sensorX .q .outer = 0 := by
    constructor
    · rintro ⟨e, x, h⟩
      cases e <;> cases x <;> simp [h]
    · rintro (h | h | h | h) <;> exact ⟨_, _, h⟩
  simp only [TrackArea.hasGeometry, TrackArea.fails, every, Bool.and_eq_false_iff, decide_eq_false_iff_not]
  omega

theorem sensorsOrdered_eq_false : a.sensorsOrdered = false ↔ a.fails 2 other := by
  simp only [TrackArea.sensorsOrdered, TrackArea.fails, Bool.and_eq_false_iff, decide_eq_false_iff_not]
  omega

theorem within_eq_false (least greatest v : Nat) :
    within least greatest v = false ↔ ¬(least ≤ v ∧ v ≤ greatest) := by
  simp [within]

theorem spacingsOk_eq_false : a.spacingsOk = false ↔ a.fails 3 other := by
  simp only [TrackArea.spacingsOk, TrackArea.pairSpacing, TrackArea.fails, Bool.and_eq_false_iff,
    within_eq_false]
  omega

theorem bayLengthsOk_eq_false : a.bayLengthsOk = false ↔ a.fails 4 other := by
  simp only [TrackArea.bayLengthsOk, TrackArea.fails, all_setBays_eq_false, within_eq_false]
  refine exists_congr fun rail => exists_congr fun b => and_congr_right fun _ => ?_
  omega

theorem baysInside_eq_false : a.baysInside = false ↔ a.fails 5 other := by
  simp only [TrackArea.baysInside, TrackArea.fails, all_setBays_eq_false, Bool.and_eq_false_iff,
    decide_eq_false_iff_not]
  refine exists_congr fun rail => exists_congr fun b => and_congr_right fun _ => ?_
  omega

theorem baysApart_eq_false : a.baysApart = false ↔ a.fails 6 other := by
  simp only [TrackArea.baysApart, TrackArea.fails, all_setBays_eq_false, BaySlot.clearOf,
    Bool.or_eq_false_iff, decide_eq_false_iff_not, not_not, not_le]
  constructor
  · rintro ⟨rail, b, hb, rail2, c, hc, ⟨rfl, hne⟩, hlt, hlt2⟩
    exact ⟨rail, b, c, hne, hb, hc, hlt, hlt2⟩
  · rintro ⟨rail, b, c, hne, hb, hc, hlt, hlt2⟩
    exact ⟨rail, b, hb, rail, c, hc, ⟨rfl, hne⟩, hlt, hlt2⟩

/-- The places of a channel in a scan list, counted in the list of its channels. -/
theorem length_filter_channel (l : List (Nat × Nat)) (channel : Nat) :
    (l.filter fun y => decide (y.1 = channel)).length = (l.map fun x => x.1).count channel := by
  rw [← List.countP_eq_length_filter, List.count_eq_countP, List.countP_map]
  rfl

theorem channelsListed_eq_false : a.channelsListed = false ↔ a.fails 7 other := by
  simp only [TrackArea.channelsListed, TrackArea.fails, all_setBays_eq_false, decide_eq_false_iff_not,
    length_filter_channel]

theorem channelsOwn_eq_false : a.channelsOwn other = false ↔ a.fails 8 other := by
  simp only [TrackArea.channelsOwn, TrackArea.fails, all_setBays_eq_false, Bool.and_eq_false_iff,
    Bool.or_eq_false_iff, decide_eq_false_iff_not, not_not]
  constructor
  · rintro (⟨rail, b, hb, rail2, c, hc, hne, hchannel⟩ | ⟨rail, b, hb, rail2, c, hc, hchannel⟩)
    · exact ⟨rail, b, hb, .inl ⟨rail2, c, Ne.symm hne, hc, hchannel.symm⟩⟩
    · exact ⟨rail, b, hb, .inr ⟨rail2, c, hc, hchannel.symm⟩⟩
  · rintro ⟨rail, b, hb, ⟨rail2, c, hne, hc, hchannel⟩ | ⟨rail2, c, hc, hchannel⟩⟩
    · exact .inl ⟨rail, b, hb, rail2, c, hc, Ne.symm hne, hchannel.symm⟩
    · exact .inr ⟨rail, b, hb, rail2, c, hc, hchannel.symm⟩

theorem gatesInside_eq_false : a.gatesInside = false ↔ a.fails 9 other := by
  simp only [TrackArea.gatesInside, TrackArea.fails, List.all_eq_false, mem_scannerNames, true_and,
    Bool.and_eq_true, decide_eq_true_eq]

end Checks

/-! ### The first check that fails -/

/-- The checks fail where `TrackArea.fails` says so: the check at a place of the list is that of the next
number. -/
theorem checks_getElem_eq_false (a other : TrackArea) {i : Nat} (h : i < (a.checks other).length) :
    (a.checks other)[i] = false ↔ a.fails (i + 1) other := by
  match i, h with
  | 0, _ => exact hasGeometry_eq_false a other
  | 1, _ => exact sensorsOrdered_eq_false a other
  | 2, _ => exact spacingsOk_eq_false a other
  | 3, _ => exact bayLengthsOk_eq_false a other
  | 4, _ => exact baysInside_eq_false a other
  | 5, _ => exact baysApart_eq_false a other
  | 6, _ => exact channelsListed_eq_false a other
  | 7, _ => exact channelsOwn_eq_false a other
  | 8, _ => exact gatesInside_eq_false a other

/-- A failing check is one of the nine. -/
theorem TrackArea.fails_order {a other : TrackArea} {order : Nat} (h : a.fails order other) :
    ∃ i, order = i + 1 ∧ i < (a.checks other).length := by
  match order, h with
  | 0, h => exact h.elim
  | n + 10, h => exact h.elim
  | 1, _ | 2, _ | 3, _ | 4, _ | 5, _ | 6, _ | 7, _ | 8, _ | 9, _ => exact ⟨_, rfl, by simp [TrackArea.checks]⟩

/-- R183: the first failing check is the one that fails while none before it does. -/
theorem firstFailure_eq_some (a other : TrackArea) (order : Nat) :
    a.firstFailure other = some order ↔ a.fails order other ∧ ∀ k < order, ¬a.fails k other := by
  simp only [TrackArea.firstFailure, Option.map_eq_some_iff, List.findIdx?_eq_some_iff_getElem,
    Bool.not_eq_true', Bool.not_eq_false]
  constructor
  · rintro ⟨i, ⟨hi, hfalse, hbefore⟩, rfl⟩
    refine ⟨(checks_getElem_eq_false a other hi).mp hfalse, fun k hk hfails => ?_⟩
    obtain ⟨j, rfl, hj⟩ := TrackArea.fails_order hfails
    have htrue := hbefore j (Nat.lt_of_succ_lt_succ hk)
    rw [(checks_getElem_eq_false a other hj).mpr hfails] at htrue
    exact Bool.false_ne_true htrue
  · rintro ⟨hfails, hbefore⟩
    obtain ⟨i, rfl, hi⟩ := TrackArea.fails_order hfails
    refine ⟨i, ⟨hi, (checks_getElem_eq_false a other hi).mpr hfails, fun j hj => ?_⟩, rfl⟩
    rw [← Bool.not_eq_false]
    exact fun hfalse => hbefore (j + 1) (Nat.succ_lt_succ hj)
      ((checks_getElem_eq_false a other (hj.trans hi)).mp hfalse)

theorem firstFailure_eq_none (a other : TrackArea) :
    a.firstFailure other = none ↔ ∀ k, ¬a.fails k other := by
  simp only [TrackArea.firstFailure, Option.map_eq_none_iff, List.findIdx?_eq_none_iff]
  constructor
  · intro hall k hfails
    obtain ⟨i, rfl, hi⟩ := TrackArea.fails_order hfails
    have htrue := hall _ (List.getElem_mem hi)
    rw [(checks_getElem_eq_false a other hi).mpr hfails] at htrue
    exact Bool.false_ne_true htrue.symm
  · intro hnone x hx
    obtain ⟨i, hi, rfl⟩ := List.mem_iff_getElem.mp hx
    rw [Bool.not_eq_false']
    exact Bool.not_eq_false _ |>.mp fun hfalse => hnone (i + 1) ((checks_getElem_eq_false a other hi).mp hfalse)

/-! ### The validation (R183, R189) -/

theorem validate_eq_none (one two : TrackArea) :
    validate one two = none ↔ ∀ k, ¬one.fails k two ∧ ¬two.fails k one := by
  have both : validate one two = none ↔ one.firstFailure two = none ∧ two.firstFailure one = none := by
    unfold validate
    cases one.firstFailure two <;> cases two.firstFailure one <;> simp
  rw [both, firstFailure_eq_none, firstFailure_eq_none, forall_and]

/-- R189: the detail code names the track and its first failing check, TRACK 1 before TRACK 2. -/
theorem validate_eq_some (one two : TrackArea) (detail : Nat) :
    validate one two = some detail ↔ ∃ order,
      (detail = 16 + order ∧ one.fails order two ∧ ∀ k < order, ¬one.fails k two) ∨
      (detail = 32 + order ∧ two.fails order one ∧ (∀ k, ¬one.fails k two) ∧
        ∀ k < order, ¬two.fails k one) := by
  have either : validate one two = some detail ↔ ∃ order,
      (detail = 16 + order ∧ one.firstFailure two = some order) ∨
      (detail = 32 + order ∧ one.firstFailure two = none ∧ two.firstFailure one = some order) := by
    unfold validate
    cases one.firstFailure two <;> cases two.firstFailure one <;> simp [eq_comm]
  rw [either]
  refine exists_congr fun order => ?_
  rw [firstFailure_eq_some, firstFailure_eq_some, firstFailure_eq_none,
    and_left_comm (a := ∀ k, ¬one.fails k two)]

end Sys2Proof.Machine
end

section
/-! PROOFS. The promotion of an area (R4, R10, R23, R43, R66, R67, R70, R73, R74, R76, R186): what it leaves of
its track and of the site, as `Promoted` speaks of it. -/

namespace Sys2Proof.Machine

open Sys2Proof

-- One proof after another: elaborated side by side they ask for more threads than check.sh allows.
set_option Elab.async false

/-! ### Restarted filters (R4, R23) -/

theorem bayGet_tabulate {α : Type} (f : Rail → Fin 8 → α) (rail : Rail) (b : Fin 8) :
    bayGet ⟨tabulate fun b => f .l b, tabulate fun b => f .r b⟩ rail b = f rail b := by
  cases rail <;> fin_cases b <;> rfl

/-- R4: a sensor at a filter restart, field by field. -/
theorem Sensor.restart_eq (x : Sensor) (now : SiteTime) :
    x.restart now =
      { filter := ⟨x.filter.raw, x.filter.raw, none⟩
        occupiedSince :=
          if x.filter.raw = false then none else if x.held = true then x.occupiedSince else some now
        held := x.held && x.filter.raw
        suspect := x.suspect } := by
  obtain ⟨⟨raw, level, pending⟩, since, held, suspect⟩ := x
  cases raw <;> cases held <;> rfl

theorem restartSensors_get (x : PerEnd (PerRole Sensor)) (now : SiteTime) (e : SectionEnd) (r : Role) :
    ((restartSensors x now).get e).get r = ((x.get e).get r).restart now := by
  cases e <;> cases r <;> rfl

theorem restartFilters_sensor (s : State) (t : TrackId) (e : SectionEnd) (x : Role) :
    (s.restartFilters t).sensor t e x = (s.sensor t e x).restart s.siteTime := by
  cases t <;> exact restartSensors_get _ _ e x

theorem restartFilters_pair (s : State) (t : TrackId) (e : SectionEnd) :
    (s.restartFilters t).pair t e = ⟨.quiet, []⟩ := by
  cases t <;> cases e <;> rfl

theorem restartFilters_section (s : State) (t : TrackId) :
    (s.restartFilters t).section t = { s.section t with
      approach := ⟨(s.section t).approach.p.restart, (s.section t).approach.q.restart⟩ } :=
  section_setSection _ t _

/-! ### The strain acquisition unit at a promotion (R67, R73, R74) -/

/-- R74: a bay left unset has no working zero, one that measures as before keeps it, another starts at its
factory zero. -/
theorem realigned_eq (before after : BaySlot) (zero : Option Int) : realigned before after zero =
    (if after.set = false then none
    else if before.set = true ∧ before.channel = after.channel ∧ before.factoryZero = after.factoryZero then zero
    else some after.factoryZero) := by
  simp only [realigned, Bool.and_eq_true, decide_eq_true_eq, and_assoc]
  cases after.set <;> rfl

section Realign

variable (s : State) (t : TrackId) (before : TrackArea)

theorem realign_zero (rail : Rail) (b : Fin 8) : (s.realign t before).zero t rail b =
    realigned (before.bay rail b) ((s.area t).bay rail b) (s.zero t rail b) := by
  have hz : (s.withdrawZero t).strain.zeros.get t = s.strain.zeros.get t :=
    withdrawZero_frame s t (.zeros t) (by simp)
  have ha : (s.withdrawZero t).area t = s.area t := (withdrawZero_frame s t).area_eq
  unfold State.realign State.zero
  dsimp only
  rw [PerTrack.get_set, hz, ha]
  exact bayGet_tabulate (fun rail b => realigned (before.bay rail b) ((s.area t).bay rail b)
    (bayGet (s.strain.zeros.get t) rail b)) rail b

theorem realign_isDrifted (rail : Rail) (b : Fin 8) :
    (s.realign t before).isDrifted t rail b = (s.realign t before).driftOf t rail b := by
  unfold State.isDrifted State.realign
  dsimp only
  rw [PerTrack.get_set]
  exact bayGet_tabulate _ rail b

theorem realign_scan (x : Scan) (hx : s.strain.scan = some x) : (s.realign t before).strain.scan =
    some (if x.track = t then { x with promotedSince := true } else x) := by
  have hs : (s.withdrawZero t).strain.scan = s.strain.scan := withdrawZero_frame s t .scan (by simp)
  unfold State.realign
  dsimp only
  rw [hs, hx]
  rfl

end Realign

/-! ### Taking an image (R43, R70, R186) -/

/-- R43: an UNCONFIGURED track's section goes to IDLE with its timers stopped. -/
theorem configureTrack_unconfigured {s : State} {t : TrackId} (h : (s.section t).state = .unconfigured) :
    (s.configureTrack t).section t = { s.section t with
      state := .idle, count := 0, approachTimer := none, holdTimer := none, clearTimer := none,
      quietTimer := none, closeDelay := none } ∧
    (s.configureTrack t).strain.zeroTimers.get t = s.startTimer (s.area t).zeroInterval := by
  simp only [State.configureTrack, h, if_true]
  exact ⟨section_setSection s t _, PerTrack.get_set _ t _⟩

/-- R43: a track at rest that is configured keeps its state. -/
theorem configureTrack_configured {s : State} {t : TrackId} (h : (s.section t).state ≠ .unconfigured) :
    s.configureTrack t = s := by
  simp [State.configureTrack, h]

/-- R186: a track area's image installed as the active one. -/
def State.installTrack (s : State) (t : TrackId) (image : TrackArea) (generation : Nat) : State :=
  { s with config := { s.config with
    tracks := s.config.tracks.set t ((s.config.tracks.get t).install image generation) } }

theorem installTrack_config (s : State) (t : TrackId) (image : TrackArea) (generation : Nat) :
    (s.installTrack t image generation).config.tracks.get t =
      (s.config.tracks.get t).install image generation := PerTrack.get_set _ t _

/-- R186: what a promotion does before its notices: the image is installed, an UNCONFIGURED track configured,
the inputs restarted and the strain acquisition unit realigned. -/
def State.takeImage (s : State) (t : TrackId) (image : TrackArea) (generation : Nat) : State :=
  (((s.installTrack t image generation).configureTrack t).restartFilters t).realign t (s.area t)

/-- R186: the rest of a promotion is notices. -/
theorem promoteTrack_notices (s : State) (t : TrackId) (image : TrackArea) (generation : Nat) :
    Frame [.choice, .notices .a, .notices .b] (s.takeImage t image generation)
      (s.promoteTrack t image generation) :=
  .step (notifyTogether_frame _ _ _) (notify_frame _ _)

section TakeImage

variable (s : State) (t : TrackId) (image : TrackArea) (generation : Nat)

/-- What taking an image changes after it is installed. -/
theorem takeImage_frame : Frame [.control t, .zeroTimer t, .sensors t, .pairs t, .slot t, .zeros t, .drifted t,
    .scan] (s.installTrack t image generation) (s.takeImage t image generation) :=
  .step (.step (.one (configureTrack_frame _ t)) (restartFilters_frame _ t)) (realign_frame _ t _)

theorem takeImage_config : (s.takeImage t image generation).config.tracks.get t =
    (s.config.tracks.get t).install image generation :=
  Eq.trans (takeImage_frame s t image generation (.area t) (by simp)) (installTrack_config s t image generation)

/-- R43, R23: the section keeps what its configuration leaves, its approach inputs restarted. -/
theorem takeImage_section : (s.takeImage t image generation).section t =
    { ((s.installTrack t image generation).configureTrack t).section t with
      approach := ⟨(s.section t).approach.p.restart, (s.section t).approach.q.restart⟩ } := by
  have happroach : (((s.installTrack t image generation).configureTrack t).section t).approach =
      (s.section t).approach := by
    by_cases h : (s.section t).state = .unconfigured
    · rw [(configureTrack_unconfigured (s := s.installTrack t image generation) h).1]
      rfl
    · rw [configureTrack_configured (s := s.installTrack t image generation) h]
      rfl
  rw [State.takeImage, (realign_frame _ t _).section_eq, restartFilters_section, happroach]

theorem takeImage_pair (e : SectionEnd) : (s.takeImage t image generation).pair t e = ⟨.quiet, []⟩ :=
  ((realign_frame _ t _).pair_eq e).trans (restartFilters_pair _ t e)

theorem takeImage_sensor (e : SectionEnd) (x : Role) :
    (s.takeImage t image generation).sensor t e x = (s.sensor t e x).restart s.siteTime := by
  have hc := configureTrack_frame (s.installTrack t image generation) t
  rw [State.takeImage, (realign_frame _ t _).sensor_eq, restartFilters_sensor, hc.sensor_eq, hc.siteTime_eq]
  rfl

theorem takeImage_zeroTimer (h : (s.section t).state = .unconfigured) :
    (s.takeImage t image generation).strain.zeroTimers.get t = some ⟨s.siteTime, image.zeroInterval⟩ := by
  have hz := (configureTrack_unconfigured (s := s.installTrack t image generation) (t := t) h).2
  have ha : (s.installTrack t image generation).area t = image :=
    congrArg AreaStore.active (installTrack_config s t image generation)
  rw [ha] at hz
  exact Eq.trans (realign_frame _ t _ (.zeroTimer t) (by simp))
    (Eq.trans (restartFilters_frame _ t (.zeroTimer t) (by simp)) hz)

/-- The area by which the strain acquisition unit is realigned is the new one, its zeros the present ones. -/
theorem takeImage_zero (rail : Rail) (b : Fin 8) : (s.takeImage t image generation).zero t rail b =
    realigned ((s.area t).bay rail b) (image.bay rail b) (s.zero t rail b) := by
  have frame : Frame [.control t, .zeroTimer t, .sensors t, .pairs t] (s.installTrack t image generation)
      (((s.installTrack t image generation).configureTrack t).restartFilters t) :=
    .step (.one (configureTrack_frame _ t)) (restartFilters_frame _ t)
  have harea : (((s.installTrack t image generation).configureTrack t).restartFilters t).area t = image :=
    frame.area_eq.trans (congrArg AreaStore.active (installTrack_config s t image generation))
  have hzero : (((s.installTrack t image generation).configureTrack t).restartFilters t).zero t rail b =
      s.zero t rail b := congrArg (fun z => bayGet z rail b) (frame (.zeros t) (by simp))
  rw [State.takeImage, realign_zero, harea, hzero]

theorem takeImage_area : (s.takeImage t image generation).area t = image :=
  congrArg AreaStore.active (takeImage_config s t image generation)

/-- R73: a bay is DRIFTED by its new zero; one left unset has none. -/
theorem takeImage_isDrifted (rail : Rail) (b : Fin 8) :
    (s.takeImage t image generation).isDrifted t rail b = true ↔
      ∃ z, (s.takeImage t image generation).zero t rail b = some z ∧
        image.zeroLimit < (z - (image.bay rail b).factoryZero).natAbs := by
  have hdrift : (s.takeImage t image generation).isDrifted t rail b =
      (s.takeImage t image generation).driftOf t rail b := realign_isDrifted _ t _ rail b
  rw [hdrift, State.driftOf, takeImage_area]
  cases hz : (s.takeImage t image generation).zero t rail b with
  | none => simp
  | some z =>
    have hset : (image.bay rail b).set = true := by
      rw [takeImage_zero, realigned] at hz
      by_contra unset
      rw [if_neg unset] at hz
      cases hz
    simp only [hset, driftedBy, Bool.true_and, decide_eq_true_eq, Option.some.injEq, exists_eq_left', Nat.cast_lt]

theorem takeImage_scan (x : Scan) (hx : s.strain.scan = some x) :
    (s.takeImage t image generation).strain.scan =
      some (if x.track = t then { x with promotedSince := true } else x) := by
  refine realign_scan _ t _ x ?_
  exact Eq.trans (restartFilters_frame _ t .scan (by simp))
    (Eq.trans (configureTrack_frame _ t .scan (by simp)) hx)

/-- What taking an image leaves is what `Promoted` says of a promotion. -/
theorem takeImage_promoted :
    Promoted s (s.takeImage t image generation) s.siteTime t image generation := by
  have hconfig := takeImage_config s t image generation
  have hsection := takeImage_section s t image generation
  refine ⟨takeImage_area s t image generation, congrArg AreaStore.activeGeneration hconfig,
    congrArg AreaStore.committed hconfig, fun hst => ?_, fun e => ⟨takeImage_pair s t image generation e, ?_⟩,
    fun e x => ?_, fun rail b => ?_, takeImage_isDrifted s t image generation, fun x hx ht => ?_⟩
  · have hc := (configureTrack_unconfigured (s := s.installTrack t image generation) (t := t) hst).1
    rw [hsection, hc]
    exact ⟨rfl, rfl, rfl, rfl, takeImage_zeroTimer s t image generation hst⟩
  · rw [hsection]
    cases e <;> rfl
  · exact (takeImage_sensor s t image generation e x).trans (Sensor.restart_eq _ _)
  · exact (takeImage_zero s t image generation rail b).trans (realigned_eq _ _ _)
  · rw [takeImage_scan s t image generation x hx, if_pos ht]

/-- R43: a configured track's section keeps everything but its approach inputs. -/
theorem takeImage_section_configured (h : (s.section t).state ≠ .unconfigured) :
    (s.takeImage t image generation).section t = { s.section t with
      approach := ⟨(s.section t).approach.p.restart, (s.section t).approach.q.restart⟩ } := by
  rw [takeImage_section, configureTrack_configured (s := s.installTrack t image generation) h]
  rfl

end TakeImage

end Sys2Proof.Machine
end

section
/-! PROOFS. COMMIT and ABANDON (R183 to R187): the promotion of what may be promoted, seen from one track, and the
images, generations and marks that a COMMIT leaves. -/

namespace Sys2Proof.Machine

open Sys2Proof

-- One proof after another: elaborated side by side they ask for more threads than check.sh allows.
set_option Elab.async false

/-! ### What a promotion of a track reads and leaves -/

/-- The parts of a track that its promotion may change. -/
abbrev trackSide (t : TrackId) : List Part :=
  [.sensors t, .pairs t, .control t, .zeros t, .drifted t, .zeroTimer t, .area t]

/-- A track's side is as it was, with a scan of the track. -/
structure SameTrack (t : TrackId) (s u : State) : Prop where
  time : u.siteTime = s.siteTime
  side : ∀ x ∈ trackSide t, x.Same s u
  scan : ∀ x, s.strain.scan = some x → x.track = t → u.strain.scan = some x

section SameTrack

variable {t : TrackId} {s u v : State}

theorem SameTrack.refl (t : TrackId) (s : State) : SameTrack t s s :=
  ⟨rfl, fun x _ => .refl x s, fun _ h _ => h⟩

theorem SameTrack.trans (h : SameTrack t s u) (k : SameTrack t u v) : SameTrack t s v :=
  ⟨k.time.trans h.time, fun x hx => (h.side x hx).trans (k.side x hx),
    fun x hx ht => k.scan x (h.scan x hx ht) ht⟩

theorem SameTrack.of_frame {F : List Part} (h : Frame F s u) (htime : Part.siteTime ∉ F := by simp)
    (hside : ∀ x ∈ trackSide t, x ∉ F := by simp) (hscan : Part.scan ∉ F := by simp) : SameTrack t s u :=
  ⟨h .siteTime htime, fun x hx => h x (hside x hx), fun _ hx _ => Eq.trans (h .scan hscan) hx⟩

theorem SameTrack.config (h : SameTrack t s u) : u.config.tracks.get t = s.config.tracks.get t :=
  h.side (.area t) (by simp)

theorem SameTrack.section (h : SameTrack t s u) : u.section t = s.section t := h.side (.control t) (by simp)

theorem SameTrack.sensor (h : SameTrack t s u) (e : SectionEnd) (x : Role) : u.sensor t e x = s.sensor t e x :=
  congrArg (fun y => PerRole.get (PerEnd.get y e) x) (h.side (.sensors t) (by simp))

theorem SameTrack.pair (h : SameTrack t s u) (e : SectionEnd) : u.pair t e = s.pair t e :=
  congrArg (fun y => PerEnd.get y e) (h.side (.pairs t) (by simp))

theorem SameTrack.zero (h : SameTrack t s u) (rail : Rail) (b : Fin 8) : u.zero t rail b = s.zero t rail b :=
  congrArg (fun z => bayGet z rail b) (h.side (.zeros t) (by simp))

theorem SameTrack.isDrifted (h : SameTrack t s u) (rail : Rail) (b : Fin 8) :
    u.isDrifted t rail b = s.isDrifted t rail b :=
  congrArg (fun z => bayGet z rail b) (h.side (.drifted t) (by simp))

theorem SameTrack.zeroTimer (h : SameTrack t s u) : u.strain.zeroTimers.get t = s.strain.zeroTimers.get t :=
  h.side (.zeroTimer t) (by simp)

/-- What later leaves a track's side leaves its promotion. -/
theorem Promoted.keeps {w : State} {now : SiteTime} {image : TrackArea} {g : Nat}
    (h : Promoted s u now t image g) (k : SameTrack t u w) : Promoted s w now t image g := by
  obtain ⟨harea, hgeneration, hcommitted, hfresh, hinputs, hsensors, hzeros, hdrifted, hscan⟩ := h
  refine ⟨(congrArg AreaStore.active k.config).trans harea,
    (congrArg AreaStore.activeGeneration k.config).trans hgeneration,
    (congrArg AreaStore.committed k.config).trans hcommitted, fun hst => ?_, fun e => ?_, fun e x => ?_,
    fun rail b => ?_, fun rail b => ?_, fun x hx ht => k.scan _ (hscan x hx ht) ht⟩
  · rw [k.section, k.zeroTimer]
    exact hfresh hst
  · rw [k.section, k.pair]
    exact hinputs e
  · rw [k.sensor]
    exact hsensors e x
  · rw [k.zero]
    exact hzeros rail b
  · rw [k.isDrifted, k.zero]
    exact hdrifted rail b

/-- A promotion seen from a state whose track has the same inputs, bays and scan. -/
theorem Promoted.seenFrom {w : State} {F : List Part} {now : SiteTime} {image : TrackArea} {g : Nat}
    (h : Promoted u w now t image g) (frame : Frame F s u) (hstate : (u.section t).state = (s.section t).state)
    (happroach : (u.section t).approach = (s.section t).approach) (harea : u.area t = s.area t)
    (hsensors : Part.sensors t ∉ F := by simp) (hzeros : Part.zeros t ∉ F := by simp)
    (hscan : Part.scan ∉ F := by simp) : Promoted s w now t image g := by
  have hzero : ∀ rail b, u.zero t rail b = s.zero t rail b :=
    fun rail b => congrArg (fun z => bayGet z rail b) (frame (.zeros t) hzeros)
  have hscans : u.strain.scan = s.strain.scan := frame .scan hscan
  unfold Promoted at h ⊢
  simp only [hstate, happroach, harea, hzero, hscans, frame.sensor_eq _ _ hsensors] at h
  exact h

end SameTrack

/-! ### Promoting what may be promoted (R186) -/

theorem promoteTrackIfReady_none {s : State} {t : TrackId} (h : (s.config.tracks.get t).committed = none) :
    s.promoteTrackIfReady t = s := by
  simp only [State.promoteTrackIfReady, h]

theorem promoteTrackIfReady_busy {s : State} {t : TrackId} (h : (s.section t).state.atRest = false) :
    s.promoteTrackIfReady t = s := by
  unfold State.promoteTrackIfReady
  split
  · rfl
  · exact if_neg (by simp [h])

theorem promoteTrackIfReady_ready {s : State} {t : TrackId} {image : TrackArea} {g : Nat}
    (hc : (s.config.tracks.get t).committed = some (image, g)) (hr : (s.section t).state.atRest = true) :
    s.promoteTrackIfReady t = s.promoteTrack t image g := by
  simp only [State.promoteTrackIfReady, hc, if_pos hr]

theorem promoteTrack_sameTrack (s : State) (t : TrackId) (image : TrackArea) (g : Nat) :
    SameTrack t (s.takeImage t image g) (s.promoteTrack t image g) :=
  .of_frame (promoteTrack_notices s t image g)

/-- The promotion of the other track. -/
theorem promoteTrackIfReady_other (s : State) {t o : TrackId} (h : t ≠ o) :
    SameTrack t s (s.promoteTrackIfReady o) := by
  have frame := promoteTrackIfReady_frame s o
  refine ⟨frame .siteTime (by simp), fun x hx => frame x ?_, fun x hx ht => ?_⟩
  · fin_cases hx <;> simp [h]
  · unfold State.promoteTrackIfReady
    split
    · exact hx
    · split
      · refine Eq.trans (promoteTrack_notices s o _ _ .scan (by simp)) ?_
        rw [takeImage_scan s o _ _ x hx, if_neg (ht ▸ h)]
      · exact hx

/-- Of the promotions in order, a track's side sees its own. -/
theorem promoteReady_track (s : State) (t : TrackId) :
    ∃ v, SameTrack t s v ∧ SameTrack t (v.promoteTrackIfReady t) s.promoteReady := by
  have site : ∀ t, SameTrack t s s.promoteSiteIfReady := fun t => .of_frame (promoteSiteIfReady_frame s)
  cases t with
  | t1 => exact ⟨s.promoteSiteIfReady, site _, promoteTrackIfReady_other _ (by decide)⟩
  | t2 => exact ⟨_, (site _).trans (promoteTrackIfReady_other _ (by decide)), .refl _ _⟩

/-- A track without a pending area, or not at rest, stays as it is. -/
theorem promoteReady_stays {s : State} {t : TrackId}
    (h : (s.config.tracks.get t).committed = none ∨ (s.section t).state.atRest = false) :
    SameTrack t s s.promoteReady := by
  obtain ⟨v, hv, hw⟩ := promoteReady_track s t
  refine hv.trans ?_
  rcases h with h | h
  · rwa [promoteTrackIfReady_none (by rwa [hv.config])] at hw
  · rwa [promoteTrackIfReady_busy (by rwa [hv.section])] at hw

section Ready

variable {s : State} {t : TrackId} {image : TrackArea} {g : Nat}
  (hc : (s.config.tracks.get t).committed = some (image, g)) (hr : (s.section t).state.atRest = true)
include hc hr

/-- The pending area of a track at rest is taken. -/
theorem promoteReady_takes : ∃ v, SameTrack t s v ∧ SameTrack t (v.takeImage t image g) s.promoteReady := by
  obtain ⟨v, hv, hw⟩ := promoteReady_track s t
  rw [promoteTrackIfReady_ready (by rwa [hv.config]) (by rwa [hv.section])] at hw
  exact ⟨v, hv, (promoteTrack_sameTrack v t image g).trans hw⟩

theorem promoteReady_promoted : Promoted s s.promoteReady s.siteTime t image g := by
  obtain ⟨v, hv, hw⟩ := promoteReady_takes hc hr
  have h := (takeImage_promoted v t image g).keeps hw
  have harea : v.area t = s.area t := congrArg AreaStore.active hv.config
  rw [hv.time] at h
  unfold Promoted at h ⊢
  simp only [hv.section, hv.sensor, hv.zero, harea] at h
  obtain ⟨h1, h2, h3, h4, h5, h6, h7, h8, h9⟩ := h
  exact ⟨h1, h2, h3, h4, h5, h6, h7, h8, fun x hx ht => h9 x (hv.scan x hx ht) ht⟩

theorem promoteReady_config :
    s.promoteReady.config.tracks.get t = (s.config.tracks.get t).install image g := by
  obtain ⟨v, hv, hw⟩ := promoteReady_takes hc hr
  rw [hw.config, takeImage_config, hv.config]

theorem promoteReady_section (h : (s.section t).state ≠ .unconfigured) :
    s.promoteReady.section t = { s.section t with
      approach := ⟨(s.section t).approach.p.restart, (s.section t).approach.q.restart⟩ } := by
  obtain ⟨v, hv, hw⟩ := promoteReady_takes hc hr
  rw [hw.section, takeImage_section_configured v t image g (by rwa [hv.section]), hv.section]

end Ready

/-- The promotions of the tracks leave the site area and the ambient value. -/
theorem promoteReady_site (s : State) :
    s.promoteReady.config.site = s.promoteSiteIfReady.config.site ∧
      s.promoteReady.strain.ambient = s.promoteSiteIfReady.strain.ambient := by
  have frame : Frame (promoteTrackParts .t1 ++ promoteTrackParts .t2) s.promoteSiteIfReady s.promoteReady :=
    .step (.one (promoteTrackIfReady_frame _ .t1)) (promoteTrackIfReady_frame _ .t2)
  exact ⟨frame .site (by simp), frame .ambient (by simp)⟩

/-- A site area that is not pending, or with a pass open, stays as it is. -/
theorem promoteReady_site_stays {s : State} (h : s.config.site.committed = none ∨ s.noOpenPass = false) :
    s.promoteReady.config.site = s.config.site ∧ s.promoteReady.strain.ambient = s.strain.ambient := by
  have hs : s.promoteSiteIfReady = s := by
    unfold State.promoteSiteIfReady
    split
    · rfl
    · rename_i x hx
      exact if_neg (by simp_all)
  have hsite := promoteReady_site s
  rwa [hs] at hsite

theorem promoteReady_site_promoted {s : State} {image : SiteArea} {g : Nat}
    (hc : s.config.site.committed = some (image, g)) (hp : s.noOpenPass = true) :
    s.promoteReady.config.site = s.config.site.install image g ∧
      s.promoteReady.strain.ambient =
        (if s.siteArea.ambientChannel = image.ambientChannel ∧ s.siteArea.ambientZero = image.ambientZero ∧
            s.siteArea.ambientScale = image.ambientScale then s.strain.ambient else none) := by
  have hs : s.promoteSiteIfReady = s.promoteSite image g := by
    simp only [State.promoteSiteIfReady, hc, if_pos hp]
  obtain ⟨hsite, hambient⟩ := promoteReady_site s
  rw [hsite, hambient, hs]
  have notice := notify_frame { s with
    config := { s.config with site := s.config.site.install image g }
    strain := s.strain.takeSite s.siteArea image } (.configPromoted .site g)
  refine ⟨notice .site (by simp), Eq.trans (notice .ambient (by simp)) ?_⟩
  exact apply_ite StrainUnit.ambient _ _ _

/-! ### COMMIT (R184, R187, R189) -/

theorem ConfigStore.commit_track (c : ConfigStore) (t : TrackId) :
    c.commit.tracks.get t = (c.tracks.get t).commit (nextGeneration c.generation) := by
  cases t <;> rfl

theorem keepCoinciding_config (s : State) (t : TrackId) : (s.keepCoinciding t).config = s.config := by
  unfold State.keepCoinciding
  split <;> rfl

theorem keepCoinciding_section (s : State) (t : TrackId) : (s.keepCoinciding t).section t =
    if (s.config.tracks.get t).committed.isSome ∧ (s.section t).state = .idle ∧ s.coinciding t = none then
      { s.section t with coinciding := some (s.beforePromotion t) }
    else s.section t := by
  unfold State.keepCoinciding
  split
  · exact section_setSection s t _
  · rfl

/-- What a COMMIT keeps of a track is read from the track's parts. -/
theorem beforePromotion_frame {F : List Part} {s u : State} {t : TrackId} (h : Frame F s u)
    (hF : ∀ x ∈ [Part.siteTime, .area t, .sensors t, .pairs t, .control t, .zeros t, .scan], x ∉ F := by simp) :
    u.beforePromotion t = s.beforePromotion t := by
  have htime : u.siteTime = s.siteTime := h .siteTime (hF _ (by simp))
  have hsensors : u.sensors.get t = s.sensors.get t := h (.sensors t) (hF _ (by simp))
  have hpairs : u.pairs.get t = s.pairs.get t := h (.pairs t) (hF _ (by simp))
  have hzeros : u.strain.zeros.get t = s.strain.zeros.get t := h (.zeros t) (hF _ (by simp))
  have hscan : u.strain.scan = s.strain.scan := h .scan (hF _ (by simp))
  simp only [State.beforePromotion, StrainUnit.handling, htime, hsensors, hpairs, hzeros, hscan,
    h.area_eq (hF (.area t) (by simp)), h.section_eq (hF (.control t) (by simp))]

/-- R184, R187: the state from which a COMMIT promotes: the images are committed, and what an event of the same
site time is judged by is kept. -/
def State.prepared (s : State) : State :=
  ({ s with config := s.config.commit }.keepCoinciding .t1).keepCoinciding .t2

theorem commitConfig_eq (s : State) : s.commitConfig = s.prepared.promoteReady := rfl

theorem prepared_frame (s : State) :
    Frame [.generation, .site, .area .t1, .area .t2, .control .t1, .control .t2] s s.prepared :=
  .step (.step (.one (withConfig_frame s _)) (keepCoinciding_frame _ .t1)) (keepCoinciding_frame _ .t2)

theorem prepared_config (s : State) : s.prepared.config = s.config.commit :=
  (keepCoinciding_config _ .t2).trans (keepCoinciding_config _ .t1)

theorem prepared_track (s : State) (t : TrackId) : s.prepared.config.tracks.get t =
    (s.config.tracks.get t).commit (nextGeneration s.config.generation) := by
  rw [prepared_config, ConfigStore.commit_track]

theorem AreaStore.commit_isSome {α : Type} [DecidableEq α] (x : AreaStore α) (g : Nat) :
    (x.commit g).committed.isSome = x.changes := by
  cases h : x.changes <;> simp [AreaStore.commit, h]

theorem AreaStore.commit_changed {α : Type} [DecidableEq α] {x : AreaStore α} (h : x.changes = true) (g : Nat) :
    x.commit g = { x with committed := some (x.staged, g) } := by
  rw [AreaStore.commit, if_pos h]

theorem AreaStore.commit_unchanged {α : Type} [DecidableEq α] {x : AreaStore α} (h : x.changes = false) (g : Nat) :
    x.commit g = { x with committed := none } := by
  rw [AreaStore.commit, if_neg (by rw [h]; exact Bool.false_ne_true)]

/-- What the first keeping of a track reads is what stood before the COMMIT. -/
theorem keepCoinciding_section_of {s u : State} {t : TrackId} (hconfig : u.config = s.config.commit)
    (hsection : u.section t = s.section t) (htime : u.siteTime = s.siteTime)
    (hbefore : u.beforePromotion t = s.beforePromotion t) : (u.keepCoinciding t).section t =
      if (s.config.tracks.get t).changes = true ∧ (s.section t).state = .idle ∧ s.coinciding t = none then
        { s.section t with coinciding := some (s.beforePromotion t) }
      else s.section t := by
  have hcoinciding : u.coinciding t = s.coinciding t := by
    simp only [State.coinciding, hsection, htime]
  rw [keepCoinciding_section, hconfig, ConfigStore.commit_track, AreaStore.commit_isSome, hsection, hcoinciding,
    hbefore]

theorem prepared_section (s : State) (t : TrackId) : s.prepared.section t =
    if (s.config.tracks.get t).changes = true ∧ (s.section t).state = .idle ∧ s.coinciding t = none then
      { s.section t with coinciding := some (s.beforePromotion t) }
    else s.section t := by
  cases t with
  | t1 =>
    exact Eq.trans (keepCoinciding_frame _ .t2).section_eq
      (keepCoinciding_section_of (u := { s with config := s.config.commit }) rfl rfl rfl rfl)
  | t2 =>
    have frame := keepCoinciding_frame { s with config := s.config.commit } .t1
    exact keepCoinciding_section_of (keepCoinciding_config _ .t1) frame.section_eq frame.siteTime_eq
      (Eq.trans (beforePromotion_frame frame) rfl)

/-- Of a section, a COMMIT's preparation changes only what it keeps for a tie. -/
theorem prepared_section_eq (s : State) (t : TrackId) :
    s.prepared.section t = { s.section t with coinciding := (s.prepared.section t).coinciding } := by
  rw [prepared_section]
  split <;> rfl

theorem prepared_section_busy {s : State} {t : TrackId}
    (h : (s.config.tracks.get t).changes = false ∨ (s.section t).state.atRest = false) :
    s.prepared.section t = s.section t := by
  rw [prepared_section, if_neg]
  rintro ⟨hchanges, hidle, -⟩
  simp [hchanges, hidle, TrackState.atRest] at h

theorem prepared_state (s : State) (t : TrackId) : (s.prepared.section t).state = (s.section t).state := by
  rw [prepared_section_eq]

theorem prepared_noOpenPass (s : State) : s.prepared.noOpenPass = s.noOpenPass := by
  have hctx : ∀ t, s.prepared.ctx t = s.ctx t := fun t =>
    (congrArg SectionController.ctx (prepared_section_eq s t) : _)
  simp only [State.noOpenPass, hctx]

section Track

variable {s : State} {t : TrackId}

theorem prepared_committed (h : (s.config.tracks.get t).changes = true) :
    (s.prepared.config.tracks.get t).committed =
      some ((s.config.tracks.get t).staged, nextGeneration s.config.generation) := by
  rw [prepared_track, AreaStore.commit_changed h]

theorem commitConfig_promoted (hc : (s.config.tracks.get t).changes = true)
    (hr : (s.section t).state.atRest = true) : Promoted s s.commitConfig s.siteTime t
      (s.config.tracks.get t).staged (nextGeneration s.config.generation) := by
  have h := promoteReady_promoted (prepared_committed hc) (by rwa [prepared_state])
  rw [(prepared_frame s).siteTime_eq] at h
  exact h.seenFrom (prepared_frame s) (prepared_state s t) (by rw [prepared_section_eq])
    (Eq.trans (congrArg AreaStore.active (prepared_track s t)) rfl)

theorem commitConfig_config_promoted (hc : (s.config.tracks.get t).changes = true)
    (hr : (s.section t).state.atRest = true) : s.commitConfig.config.tracks.get t =
      (s.config.tracks.get t).install (s.config.tracks.get t).staged (nextGeneration s.config.generation) := by
  rw [commitConfig_eq, promoteReady_config (prepared_committed hc) (by rwa [prepared_state]), prepared_track]
  rfl

theorem commitConfig_section_promoted (hc : (s.config.tracks.get t).changes = true)
    (hr : (s.section t).state.atRest = true) (h : (s.section t).state ≠ .unconfigured) :
    s.commitConfig.section t = { s.prepared.section t with
      approach := ⟨(s.section t).approach.p.restart, (s.section t).approach.q.restart⟩ } := by
  have hp := promoteReady_section (prepared_committed hc) (by rwa [prepared_state]) (by rwa [prepared_state])
  rw [commitConfig_eq, hp, prepared_section_eq]

/-- A track whose area does not change, or that is not at rest, keeps its side; its area's mark is set or
cleared. -/
theorem commitConfig_stays
    (h : (s.config.tracks.get t).changes = false ∨ (s.section t).state.atRest = false) :
    s.commitConfig.config.tracks.get t =
        (s.config.tracks.get t).commit (nextGeneration s.config.generation) ∧
      s.commitConfig.section t = s.section t := by
  have same : SameTrack t s.prepared s.commitConfig := by
    refine promoteReady_stays (h.imp (fun h => ?_) fun h => by rwa [prepared_state])
    rw [prepared_track, AreaStore.commit_unchanged h]
  exact ⟨same.config.trans (prepared_track s t), same.section.trans (prepared_section_busy h)⟩

end Track

/-- The areas' staged images stay as they are. -/
theorem commitConfig_staged (s : State) (t : TrackId) :
    (s.commitConfig.config.tracks.get t).staged = (s.config.tracks.get t).staged := by
  by_cases h : (s.config.tracks.get t).changes = true ∧ (s.section t).state.atRest = true
  · rw [commitConfig_config_promoted h.1 h.2]
    rfl
  · rw [(commitConfig_stays (by
      simpa only [not_and_or, Bool.not_eq_true] using h)).1]
    rfl

theorem prepared_siteArea (s : State) : s.prepared.siteArea = s.siteArea :=
  congrArg (fun c => c.site.active) (prepared_config s)

/-- A site area that changes is promoted where no pass is open. -/
theorem commitConfig_site_promoted {s : State} (hc : s.config.site.changes = true) (hp : s.noOpenPass = true) :
    s.commitConfig.config.site =
        s.config.site.install s.config.site.staged (nextGeneration s.config.generation) ∧
      s.commitConfig.strain.ambient =
        (if s.siteArea.ambientChannel = s.config.site.staged.ambientChannel ∧
            s.siteArea.ambientZero = s.config.site.staged.ambientZero ∧
            s.siteArea.ambientScale = s.config.site.staged.ambientScale then s.strain.ambient else none) := by
  have hcommitted : s.prepared.config.site.committed =
      some (s.config.site.staged, nextGeneration s.config.generation) := by
    rw [prepared_config]
    exact congrArg AreaStore.committed (AreaStore.commit_changed hc _)
  obtain ⟨hsite, hambient⟩ := promoteReady_site_promoted hcommitted (by rwa [prepared_noOpenPass])
  have hold : s.prepared.strain.ambient = s.strain.ambient := prepared_frame s .ambient (by simp)
  rw [prepared_siteArea, hold] at hambient
  rw [prepared_config] at hsite
  exact ⟨hsite, hambient⟩

/-- A site area that does not change, or changes with a pass open, keeps its active image and the ambient
value. -/
theorem commitConfig_site_stays {s : State} (h : s.config.site.changes = false ∨ s.noOpenPass = false) :
    s.commitConfig.config.site = s.config.site.commit (nextGeneration s.config.generation) ∧
      s.commitConfig.strain.ambient = s.strain.ambient := by
  have hstays : s.prepared.config.site.committed = none ∨ s.prepared.noOpenPass = false := by
    rw [prepared_noOpenPass, prepared_config]
    refine h.imp_left fun h => ?_
    exact congrArg AreaStore.committed (AreaStore.commit_unchanged h _)
  obtain ⟨hsite, hambient⟩ := promoteReady_site_stays hstays
  exact ⟨hsite.trans (congrArg ConfigStore.site (prepared_config s)),
    hambient.trans (prepared_frame s .ambient (by simp))⟩

theorem commitConfig_site_staged (s : State) : s.commitConfig.config.site.staged = s.config.site.staged := by
  by_cases h : s.config.site.changes = true ∧ s.noOpenPass = true
  · rw [(commitConfig_site_promoted h.1 h.2).1]
    rfl
  · rw [(commitConfig_site_stays (by simpa only [not_and_or, Bool.not_eq_true] using h)).1]
    rfl

theorem commitConfig_generation (s : State) :
    s.commitConfig.config.generation = nextGeneration s.config.generation :=
  Eq.trans (promoteReady_frame s.prepared .generation (by simp)) (by rw [prepared_config]; rfl)

theorem commitConfig_frame (s : State) : Frame (.generation :: promoteParts) s s.commitConfig :=
  .step (.one (prepared_frame s)) (promoteReady_frame s.prepared)

/-- Which areas are still pending after a COMMIT: those that change and may not be promoted yet. -/
theorem commitConfig_track_pending (s : State) (t : TrackId) :
    (s.commitConfig.config.tracks.get t).committed.isSome =
      ((s.config.tracks.get t).changes && !(s.section t).state.atRest) := by
  cases hc : (s.config.tracks.get t).changes with
  | false => rw [(commitConfig_stays (.inl hc)).1, AreaStore.commit_isSome, hc, Bool.false_and]
  | true =>
    cases hr : (s.section t).state.atRest with
    | false => rw [(commitConfig_stays (.inr hr)).1, AreaStore.commit_isSome, hc]; rfl
    | true => rw [commitConfig_config_promoted hc hr]; rfl

theorem commitConfig_site_pending (s : State) :
    s.commitConfig.config.site.committed.isSome = (s.config.site.changes && !s.noOpenPass) := by
  cases hc : s.config.site.changes with
  | false => rw [(commitConfig_site_stays (.inl hc)).1, AreaStore.commit_isSome, hc, Bool.false_and]
  | true =>
    cases hp : s.noOpenPass with
    | false => rw [(commitConfig_site_stays (.inr hp)).1, AreaStore.commit_isSome, hc]; rfl
    | true => rw [(commitConfig_site_promoted hc hp).1]; rfl

/-! ### The commands -/

section Command

variable {s : State} {now : SiteTime} {p : Port} {bytes : List Byte}

/-- A command row whose bytes complete one of its frames leaves what the command leaves, with its reply. -/
theorem transact_answers {u : State} {r : Reply} {cmd : Byte} {args : List Byte} {row : Byte → List Byte → Bool}
    {run : List Byte → State → Executed} (h : takeFrame (s.port p).phase bytes = some (cmd, args))
    (hrow : row cmd args = true) (hrun : run args s = (u, r)) : s.transact p bytes row run = u.putReply p r := by
  rw [transact_run h hrow, hrun]

/-- R184: a COMMIT whose validation fails answers the detail code. -/
theorem exec_commit_invalid {detail : Nat} (h : Completes s p bytes 51 [])
    (hv : s.config.validate = some detail) :
    exec (.commit now p bytes) s = .next (s.replying now p 12 [BitVec.ofNat 8 detail]) := by
  have hrun : (s.atTime now).runCommit [] = (s.atTime now, ⟨.invalid, [BitVec.ofNat 8 detail]⟩) := by
    have hv' : (s.atTime now).config.validate = some detail := hv
    rw [State.runCommit, checked_ok (args := []) (n := 0) rfl rfl, hv']
  exact congrArg Host.Outcome.next
    (Eq.trans (transact_answers (s := s.atTime now) (row := isCommand 51) h rfl hrun) rfl)

/-- R184, R189: a COMMIT that passes answers its generation and the areas still pending. -/
theorem exec_commit_valid (h : Completes s p bytes 51 []) (hv : s.config.validate = none) :
    exec (.commit now p bytes) s = .next ((s.atTime now).commitConfig.putReply p
      ⟨.ok, halfBytes (s.atTime now).commitConfig.config.generation ++
        [BitVec.ofNat 8 (s.atTime now).commitConfig.config.pendingBits]⟩) := by
  have hrun : (s.atTime now).runCommit [] = ((s.atTime now).commitConfig,
      ⟨.ok, halfBytes (s.atTime now).commitConfig.config.generation ++
        [BitVec.ofNat 8 (s.atTime now).commitConfig.config.pendingBits]⟩) := by
    have hv' : (s.atTime now).config.validate = none := hv
    rw [State.runCommit, checked_ok (args := []) (n := 0) rfl rfl, hv']
  exact congrArg Host.Outcome.next (transact_answers (s := s.atTime now) (row := isCommand 51) h rfl hrun)

/-- R185: ABANDON. -/
theorem exec_abandon (h : Completes s p bytes 52 []) : exec (.abandon now p bytes) s =
    .next ({ s with config := s.config.abandon }.replying now p 1 []) := by
  exact congrArg Host.Outcome.next (Eq.trans (transact_answers (s := s.atTime now) (row := isCommand 52)
    (run := fun args s => s.runAbandon args) h rfl rfl) rfl)

theorem putReply_sameTrack (s : State) (p : Port) (r : Reply) (t : TrackId) : SameTrack t s (s.putReply p r) :=
  .of_frame (putReply_frame s p r)

theorem putReply_phase (s : State) (p : Port) (r : Reply) :
    ((s.putReply p r).port p).phase = .reply r.bytes := by
  cases p <;> rfl

end Command

/-! ### The statement -/

theorem atRest_iff (x : TrackState) :
    x.atRest = true ↔ x = .unconfigured ∨ x = .outOfService ∨ x = .idle := by
  cases x <;> simp [TrackState.atRest]

theorem noOpenPass_iff (s : State) : s.noOpenPass = true ↔ s.ctx .t1 = none ∧ s.ctx .t2 = none := by
  simp only [State.noOpenPass, Bool.and_eq_true, Option.isNone_iff_eq_none]

theorem flagBits_three (a b c : Bool) : flagBits [a, b, c] =
    (if a = true then 1 else 0) + (if b = true then 2 else 0) + (if c = true then 4 else 0) := by
  cases a <;> cases b <;> cases c <;> rfl

/-- R189: the byte of a COMMIT reply, by what changes and what may not be promoted yet. -/
theorem commitConfig_pendingBits (s : State) : s.commitConfig.config.pendingBits =
    (if s.config.site.changes = true ∧ s.noOpenPass = false then 1 else 0) +
      (if (s.config.tracks.get .t1).changes = true ∧ (s.section .t1).state.atRest = false then 2 else 0) +
      (if (s.config.tracks.get .t2).changes = true ∧ (s.section .t2).state.atRest = false then 4 else 0) := by
  have h : s.commitConfig.config.pendingBits = flagBits [s.config.site.changes && !s.noOpenPass,
      (s.config.tracks.get .t1).changes && !(s.section .t1).state.atRest,
      (s.config.tracks.get .t2).changes && !(s.section .t2).state.atRest] := by
    rw [← commitConfig_site_pending, ← commitConfig_track_pending, ← commitConfig_track_pending]
    rfl
  rw [h, flagBits_three]
  simp only [Bool.and_eq_true, Bool.not_eq_true']

/-- R184, R186, R189: a COMMIT that passes, area by area. -/
theorem exec_commit_areas {now : SiteTime} {p : Port} {bytes : List Byte} {s : State}
    (h : Completes s p bytes 51 []) (hv : s.config.validate = none) :
    ∃ u, exec (.commit now p bytes) s = .next u ∧ (∀ t, SameTrack t (s.atTime now).commitConfig u) ∧
      Frame [.transaction p] (s.atTime now).commitConfig u ∧
      (u.port p).phase = .reply ([1, 0, 3] ++ halfBytes (nextGeneration s.config.generation) ++
        [BitVec.ofNat 8 (s.atTime now).commitConfig.config.pendingBits]) := by
  refine ⟨_, exec_commit_valid h hv, fun t => putReply_sameTrack _ p _ t, putReply_frame _ p _, ?_⟩
  rw [putReply_phase, commitConfig_generation]
  simp [Reply.bytes, halfBytes, StatusCode.code]

/-- Settles O57: the validation by its checks, a COMMIT by the promotion of each area that may be promoted. -/
theorem commitAndAbandonSetTheImages : Obligations.CommitAndAbandonSetTheImages := by
  refine ⟨fun one two => ⟨validate_eq_none one two, validate_eq_some one two⟩,
    fun now p bytes s => ⟨fun h => ⟨rfl, fun detail hv => exec_commit_invalid h hv, fun hv => ?valid⟩,
      exec_abandon⟩⟩
  obtain ⟨u, hu, same, frame, hphase⟩ := exec_commit_areas (now := now) h hv
  have atRest : ∀ t, ¬((s.section t).state = .unconfigured ∨ (s.section t).state = .outOfService ∨
      (s.section t).state = .idle) ↔ (s.section t).state.atRest = false := fun t => by
    rw [← atRest_iff, Bool.not_eq_true]
  have noPass : ¬(s.ctx .t1 = none ∧ s.ctx .t2 = none) ↔ s.noOpenPass = false := by
    rw [← noOpenPass_iff, Bool.not_eq_true]
  have hsite : u.config.site = (s.atTime now).commitConfig.config.site := frame .site (by simp)
  have hambient : u.strain.ambient = (s.atTime now).commitConfig.strain.ambient := frame .ambient (by simp)
  have whole : Frame (.siteTime :: .transaction p :: .generation :: promoteParts) s u :=
    .step (.step (.one (atTime_frame s now)) (commitConfig_frame _)) frame
  refine ⟨u, hu, Eq.trans (frame .generation (by simp)) (commitConfig_generation _), ?staged, ?promoted,
    ?pending, ?unchanged, ?sitePromoted, ?sitePending, ?siteUnchanged, ?ambient, ?phase,
    whole.pacers_eq (by simp), PerTrack.ext_get fun t => whole (.scanners t) (by simp),
    PerTrack.ext_get fun t => whole (.context t) (by simp), whole .store (by simp), whole .alarms (by simp),
    whole .stationTime (by simp)⟩
  case staged =>
    intro area
    cases area with
    | site => exact congrArg (fun x : SiteArea => x.words.toList) (hsite ▸ commitConfig_site_staged _)
    | track t =>
      exact congrArg (fun x : TrackArea => x.words.toList) ((same t).config ▸ commitConfig_staged _ t)
  case promoted =>
    intro t hc hr
    have hr := (atRest_iff _).mpr hr
    refine ⟨(commitConfig_promoted (s := s.atTime now) hc hr).keeps (same t), fun hst => ?_⟩
    rw [(same t).section, commitConfig_section_promoted (s := s.atTime now) hc hr hst, prepared_section_eq]
    rfl
  case pending =>
    intro t hc hr
    obtain ⟨hconfig, hsection⟩ := commitConfig_stays (s := s.atTime now) (.inr ((atRest t).mp hr))
    rw [(same t).config, (same t).section, hconfig]
    exact ⟨AreaStore.commit_changed hc _, hsection⟩
  case unchanged =>
    intro t hc
    obtain ⟨hconfig, hsection⟩ := commitConfig_stays (s := s.atTime now) (t := t) (.inl hc)
    rw [(same t).config, (same t).section, hconfig]
    exact ⟨AreaStore.commit_unchanged hc _, hsection⟩
  case sitePromoted =>
    intro hc hp
    obtain ⟨hnew, htake⟩ := commitConfig_site_promoted (s := s.atTime now) hc ((noOpenPass_iff s).mpr hp)
    have harea : u.siteArea = s.config.site.staged := congrArg AreaStore.active (hsite.trans hnew)
    rw [harea]
    exact ⟨hsite.trans hnew, hambient.trans htake⟩
  case sitePending =>
    intro hc hp
    rw [hsite, (commitConfig_site_stays (s := s.atTime now) (.inr (noPass.mp hp))).1]
    exact AreaStore.commit_changed hc _
  case siteUnchanged =>
    intro hc
    rw [hsite, (commitConfig_site_stays (s := s.atTime now) (.inl hc)).1]
    exact AreaStore.commit_unchanged hc _
  case ambient =>
    intro hkeeps
    exact hambient.trans (commitConfig_site_stays (s := s.atTime now) (hkeeps.imp_right noPass.mp)).2
  case phase =>
    rw [hphase, commitConfig_pendingBits]
    simp only [atRest, noPass]
    rfl

end Sys2Proof.Machine
end

section
/-! PROOFS. PURGE (R9, R39, R138, R155, R174): the order in which notices of two blocks arrive, the reclaim of what
is fully released, and what each target and each set of targets leaves. -/

namespace Sys2Proof.Machine

open Sys2Proof

-- One proof after another: elaborated side by side they ask for more threads than check.sh allows.
set_option Elab.async false

/-! ### Notices in a free order (log 13, log 24) -/

theorem arrange_perm {α : Type} (pick : Nat → Nat) (fuel n : Nat) (xs : List α) :
    (arrange pick fuel n xs).1.Perm xs := by
  induction fuel generalizing n xs with
  | zero => exact .refl _
  | succ fuel ih =>
    match xs with
    | [] => exact .refl _
    | [x] => exact .refl _
    | x :: y :: rest =>
      have hi : pick n % (rest.length + 2) < (x :: y :: rest).length := Nat.mod_lt _ (Nat.succ_pos _)
      simp only [arrange]
      rw [List.getD_eq_getElem _ _ hi]
      exact ((ih _ _).cons _).trans (List.getElem_cons_eraseIdx_perm hi)

theorem interleave_perm {α : Type} (pick : Nat → Bool) (fuel n : Nat) (xs ys : List α) :
    (interleave pick fuel n xs ys).1.Perm (xs ++ ys) := by
  induction fuel generalizing n xs ys with
  | zero => exact .refl _
  | succ fuel ih =>
    match xs, ys with
    | [], ys => exact .refl _
    | x :: xs, [] => simp [interleave]
    | x :: xs, y :: ys =>
      simp only [interleave]
      split
      · exact (ih _ _ _).cons x
      · exact ((ih _ _ _).cons y).trans List.perm_middle.symm

/-- The notices that two blocks send together, in the order in which they arrive. -/
def State.together (s : State) (a b : List NoticeBody) : List NoticeBody :=
  let xs := arrangeGroups s.choice [a]
  let ys := arrangeGroups xs.2 [b]
  (interleave Config.firstBlockFirst (xs.1.length + ys.1.length) ys.2 xs.1 ys.1).1

theorem together_perm (s : State) (a b : List NoticeBody) : (s.together a b).Perm (a ++ b) := by
  have group : ∀ n g, (arrangeGroups n [g]).1.Perm g := fun n g => by
    simpa [arrangeGroups] using arrange_perm Config.nextNotice g.length n g
  exact (interleave_perm _ _ _ _ _).trans ((group _ a).append (group _ b))

/-! ### Notices that all join a queue (R165, R166) -/

/-- What the queue of a port is after several notices depends on the port and the site time. -/
theorem notifyAll_port (s : State) (bs : List NoticeBody) (q : Port) :
    (s.notifyAll bs).port q = bs.foldl (fun x b => x.receive ⟨b, s.siteTime⟩) (s.port q) := by
  unfold State.notifyAll
  induction bs generalizing s with
  | nil => rfl
  | cons b rest ih =>
    refine (ih (s.notify b)).trans ?_
    cases q <;> rfl

/-- Notices that are no OVERFLOW all join the queue of an attached port that has room for them. -/
theorem receiveAll_notices {bs : List NoticeBody} {now : SiteTime} {x : StationPort} (ha : x.attached = true)
    (hnewest : newestIsOverflow x.notices = false) (hroom : x.notices.length + bs.length ≤ 31)
    (hplain : ∀ b ∈ bs, (⟨b, now⟩ : Notice).isOverflow = false) :
    (bs.foldl (fun x b => x.receive ⟨b, now⟩) x).notices = x.notices ++ bs.map fun b => ⟨b, now⟩ := by
  induction bs generalizing x with
  | nil => exact (List.append_nil _).symm
  | cons b rest ih =>
    have hpush : pushNotice ⟨b, now⟩ x.notices = x.notices ++ [⟨b, now⟩] := by
      have hlength : x.notices.length < 31 := by rw [List.length_cons] at hroom; omega
      rcases pushNotice_cases ⟨b, now⟩ x.notices with h | h | h | ⟨_, _, _, h, _⟩
      · exact h.2.2
      · omega
      · omega
      · rw [hnewest] at h; cases h
    have hreceive : x.receive ⟨b, now⟩ = { x with notices := x.notices ++ [⟨b, now⟩] } := by
      rw [StationPort.receive, if_pos ha, hpush]
    rw [List.foldl_cons, hreceive, ih (x := { x with notices := x.notices ++ [⟨b, now⟩] }) ha]
    · simp
    · simpa [newestIsOverflow] using hplain b List.mem_cons_self
    · rw [List.length_cons] at hroom
      rw [List.length_append, List.length_singleton]
      omega
    · exact fun c hc => hplain c (List.mem_cons_of_mem b hc)

/-! ### Target FAULTS (R9, R39) -/

theorem mem_suspectNotices {s : State} {b : NoticeBody} : b ∈ s.suspectNotices ↔
    ∃ t e x, (s.sensor t e x).suspect = true ∧ b = .faultChanged (.suspect (inputOfSensor t e x)) 0 := by
  have height : ∀ i : Fin 8, i ∈ eight := by decide
  simp only [State.suspectNotices, List.mem_map, List.mem_filter, height, true_and]
  constructor
  · rintro ⟨i, hi, rfl⟩
    have hinput : inputOfSensor (sensorOfInput i).1 (sensorOfInput i).2.1 (sensorOfInput i).2.2 = i :=
      inputOfSensor_of_sensorOfInput rfl
    exact ⟨_, _, _, hi, by rw [hinput]⟩
  · rintro ⟨t, e, x, hx, rfl⟩
    exact ⟨inputOfSensor t e x, by rwa [State.inputSensor, sensorOfInput_inputOfSensor], rfl⟩

theorem mem_underflowNotices {s : State} {b : NoticeBody} : b ∈ s.underflowNotices ↔
    ∃ t, (s.section t).underflow = true ∧ b = .faultChanged (.underflow t) 0 := by
  have hboth : ∀ t : TrackId, t ∈ [TrackId.t1, .t2] := fun t => by cases t <;> simp
  simp only [State.underflowNotices, List.mem_map, List.mem_filter, hboth, true_and, eq_comm]

theorem mem_faultNotices {s : State} {b : NoticeBody} : b ∈ s.suspectNotices ++ s.underflowNotices ↔
    (∃ t e x, (s.sensor t e x).suspect = true ∧ b = .faultChanged (.suspect (inputOfSensor t e x)) 0) ∨
      ∃ t, (s.section t).underflow = true ∧ b = .faultChanged (.underflow t) 0 := by
  rw [List.mem_append, mem_suspectNotices, mem_underflowNotices]

theorem faultNotices_length (s : State) : (s.suspectNotices ++ s.underflowNotices).length ≤ 10 := by
  have hs := List.length_filter_le (fun i => (s.inputSensor i).suspect) eight
  have hu := List.length_filter_le (fun t => (s.section t).underflow) [TrackId.t1, .t2]
  rw [List.length_append, State.suspectNotices, State.underflowNotices, List.length_map, List.length_map]
  simp only [eight, List.length_cons, List.length_nil] at hs hu ⊢
  omega

/-- R9, R39: an attached port with an empty queue receives a notice for each indication that was set. -/
theorem purgeFaults_notices {s : State} {q : Port} (ha : (s.port q).attached = true)
    (hempty : (s.port q).notices = []) (n : Notice) : n ∈ (s.purgeFaults.port q).notices ↔
      ∃ b ∈ s.suspectNotices ++ s.underflowNotices, n = ⟨b, s.siteTime⟩ := by
  have hperm := together_perm s s.suspectNotices s.underflowNotices
  have hport : s.purgeFaults.port q = (s.together s.suspectNotices s.underflowNotices).foldl
      (fun x b => x.receive ⟨b, s.siteTime⟩) (s.port q) :=
    notifyAll_port { s with
      sensors := ⟨clearSuspects s.sensors.t1, clearSuspects s.sensors.t2⟩
      sections :=
        ⟨{ s.sections.t1 with underflow := false }, { s.sections.t2 with underflow := false }⟩ } _ q
  rw [hport, receiveAll_notices ha (by rw [hempty]; rfl)]
  · simp only [hempty, List.nil_append, List.mem_map, hperm.mem_iff, eq_comm]
  · rw [hempty, hperm.length_eq]
    exact (Nat.add_le_add_left (faultNotices_length s) 0).trans (by decide)
  · intro b hb
    rcases mem_faultNotices.mp (hperm.mem_iff.mp hb) with ⟨_, _, _, _, rfl⟩ | ⟨_, _, rfl⟩ <;> rfl

theorem purgeFaults_sensor (s : State) (t : TrackId) (e : SectionEnd) (x : Role) :
    s.purgeFaults.sensor t e x = { s.sensor t e x with suspect := false } := by
  rw [State.purgeFaults, (notifyTogether_frame _ _ _).sensor_eq]
  cases t <;> cases e <;> cases x <;> rfl

theorem purgeFaults_section (s : State) (t : TrackId) :
    s.purgeFaults.section t = { s.section t with underflow := false } := by
  rw [State.purgeFaults, (notifyTogether_frame _ _ _).section_eq]
  cases t <;> rfl

/-! ### Target RELEASED (R138) -/

/-- R138: with the fully released pass found gone, those left to reclaim are the others. -/
theorem filter_drop_released {passes : List HeldPass} {p : HeldPass} (hp : p ∈ passes)
    (hreleased : p.fullyReleased = true) (hd : (passes.map fun p => p.number).Pairwise (· ≠ ·)) :
    (passes.filter fun x => decide (x.number ≠ p.number)).filter (fun x => !x.fullyReleased) =
      passes.filter fun x => !x.fullyReleased := by
  rw [List.filter_filter]
  refine List.filter_congr fun x hx => ?_
  by_cases hn : x.number = p.number
  · have hxp : x = p := List.inj_on_of_nodup_map hd hx hp hn
    simp [hxp, hreleased]
  · simp [hn]

/-- R138: reclaimed are the fully released passes, as many as there are. -/
theorem reclaimReleased_passes (fuel : Nat) {s : State} (hfuel : s.store.passes.length ≤ fuel)
    (hd : (s.store.passes.map fun p => p.number).Pairwise (· ≠ ·)) :
    (State.reclaimReleased fuel s).store.passes = s.store.passes.filter fun x => !x.fullyReleased := by
  induction fuel generalizing s with
  | zero =>
    rw [List.eq_nil_of_length_eq_zero (Nat.le_zero.mp hfuel)]
    exact List.eq_nil_of_length_eq_zero (Nat.le_zero.mp hfuel)
  | succ fuel ih =>
    unfold State.reclaimReleased
    split
    next hnone =>
      refine (List.filter_eq_self.mpr fun x hx => ?_).symm
      simpa using List.find?_eq_none.mp hnone x hx
    next p hsome =>
      have hp := List.mem_of_find?_eq_some hsome
      have hshorter : (s.reclaim p false).store.passes.length < s.store.passes.length :=
        List.length_filter_lt_length_iff_exists.mpr ⟨p, hp, by simp⟩
      rw [ih (by omega) (hd.sublist (List.filter_sublist.map _))]
      exact filter_drop_released hp (List.find?_some hsome) hd

/-- R138: without a notice. -/
theorem reclaimReleased_port (fuel : Nat) (s : State) (q : Port) :
    ((State.reclaimReleased fuel s).port q).notices = (s.port q).notices ∧
      ((State.reclaimReleased fuel s).port q).attached = (s.port q).attached := by
  induction fuel generalizing s with
  | zero => exact ⟨rfl, rfl⟩
  | succ fuel ih =>
    unfold State.reclaimReleased
    split
    · exact ⟨rfl, rfl⟩
    · obtain ⟨hnotices, hattached⟩ := ih (s.reclaim _ false)
      rw [hnotices, hattached]
      cases q <;> exact ⟨rfl, rfl⟩

theorem reclaimReleased_eq (fuel : Nat) (s : State) : State.reclaimReleased fuel s =
    { s with store := (State.reclaimReleased fuel s).store, ports := (State.reclaimReleased fuel s).ports } := by
  induction fuel generalizing s with
  | zero => rfl
  | succ fuel ih =>
    unfold State.reclaimReleased
    split
    · rfl
    · exact ih (s.reclaim _ false)

/-! ### Sets of targets (R174) -/

/-- The target set of a code. -/
def PurgeTargets.ofCode (code : Nat) : PurgeTargets :=
  ⟨code.testBit 0, code.testBit 1, code.testBit 2, code.testBit 3⟩

theorem purgeArguments_code {code : Nat} (hlow : 1 ≤ code) (hhigh : code ≤ 15) :
    purgeArguments [BitVec.ofNat 8 code] = some (.ofCode code) := by
  interval_cases code <;> rfl

section Purge

variable (s : State) (p : Port) (x : PurgeTargets)

/-- R174: what the first target of a set leaves. -/
def State.clearFaults (s : State) (x : PurgeTargets) : State := if x.faults then s.purgeFaults else s

theorem clearFaults_frame : Frame [.sensors .t1, .sensors .t2, .control .t1, .control .t2, .choice, .notices .a,
    .notices .b] s (s.clearFaults x) := by
  unfold State.clearFaults
  split
  · refine .step (u := { s with
      sensors := ⟨clearSuspects s.sensors.t1, clearSuspects s.sensors.t2⟩
      sections :=
        ⟨{ s.sections.t1 with underflow := false }, { s.sections.t2 with underflow := false }⟩ }) ?_
      (notifyTogether_frame _ _ _)
    intro y hy
    cases y with
    | sensors t => cases t <;> simp at hy
    | control t => cases t <;> simp at hy
    | transaction q => exact ⟨rfl, rfl⟩
    | _ => rfl
  · exact .refl _ s

/-- R174: what the second target of a set leaves. -/
def State.clearAcked (s : State) (x : PurgeTargets) : State := if x.acked then s.purgeAcked else s

theorem clearAcked_frame : Frame [.alarms] s (s.clearAcked x) := by
  unfold State.clearAcked
  split
  · exact withAlarms_frame s _
  · exact .refl _ s

theorem clearAcked_alarms : (s.clearAcked x).alarms = { s.alarms with
    list := if x.acked = true then s.alarms.list.filter fun r => r.acknowledged.isNone else s.alarms.list } := by
  unfold State.clearAcked
  split <;> rfl

/-- R174: what the third target of a set leaves. -/
def State.clearReleased (s : State) (x : PurgeTargets) : State := if x.released then s.purgeReleased else s

theorem clearReleased_frame : Frame reclaimParts s (s.clearReleased x) := by
  unfold State.clearReleased
  split
  · exact reclaimReleased_frame _ s
  · exact .refl _ s

theorem clearReleased_port (q : Port) : ((s.clearReleased x).port q).notices = (s.port q).notices ∧
    ((s.clearReleased x).port q).attached = (s.port q).attached := by
  unfold State.clearReleased
  split
  · exact reclaimReleased_port _ s q
  · exact ⟨rfl, rfl⟩

/-- R174: NOTICES is the last target of a set. -/
theorem purge_last : s.purge p x = if x.notices then
    (((s.clearFaults x).clearAcked x).clearReleased x).purgeNotices p
    else ((s.clearFaults x).clearAcked x).clearReleased x := rfl

theorem purge_last_frame :
    Frame [.notices p] (((s.clearFaults x).clearAcked x).clearReleased x) (s.purge p x) := by
  rw [purge_last]
  split
  · exact setPort_frame (by simp) (by simp) (by simp) (by simp)
  · exact .refl _ _

/-- What a set of targets leaves as its FAULTS have left it. -/
theorem purge_frame : Frame (.alarms :: reclaimParts) (s.clearFaults x) (s.purge p x) :=
  .step (.step (.one (clearAcked_frame _ x)) (clearReleased_frame _ x)) (purge_last_frame s p x)
    (by cases p <;> simp)

theorem purge_section (t : TrackId) : (s.purge p x).section t = { s.section t with
    underflow := if x.faults = true then false else (s.section t).underflow } := by
  rw [(purge_frame s p x).section_eq, State.clearFaults]
  split
  · exact purgeFaults_section s t
  · rfl

theorem purge_sensor (t : TrackId) (e : SectionEnd) (y : Role) : (s.purge p x).sensor t e y =
    { s.sensor t e y with suspect := if x.faults = true then false else (s.sensor t e y).suspect } := by
  rw [(purge_frame s p x).sensor_eq, State.clearFaults]
  split
  · exact purgeFaults_sensor s t e y
  · rfl

theorem purge_alarms : (s.purge p x).alarms = { s.alarms with
    list := if x.acked = true then s.alarms.list.filter fun r => r.acknowledged.isNone else s.alarms.list } := by
  have hlast : (s.purge p x).alarms = ((s.clearFaults x).clearAcked x).alarms :=
    Eq.trans (purge_last_frame s p x .alarms (by simp)) (clearReleased_frame _ x .alarms (by simp))
  have hfirst : (s.clearFaults x).alarms = s.alarms := clearFaults_frame s x .alarms (by simp)
  rw [hlast, clearAcked_alarms, hfirst]

/-- The store before the target RELEASED is the store before the PURGE. -/
theorem beforeReleased_store : ((s.clearFaults x).clearAcked x).store = s.store :=
  Eq.trans (clearAcked_frame _ x .store (by simp)) (clearFaults_frame s x .store (by simp))

theorem purge_store (h : x.released = false) : (s.purge p x).store = s.store := by
  have hlast : (s.purge p x).store = (((s.clearFaults x).clearAcked x).clearReleased x).store :=
    purge_last_frame s p x .store (by simp)
  rw [hlast, State.clearReleased, h]
  exact beforeReleased_store s x

/-- R138: held are exactly the passes that are not fully released. -/
theorem purge_passes (h : x.released = true) (hpools : s.store.poolsOk = true) :
    (s.purge p x).store.passes = s.store.passes.filter fun y => !y.fullyReleased := by
  have hlast : (s.purge p x).store = (((s.clearFaults x).clearAcked x).clearReleased x).store :=
    purge_last_frame s p x .store (by simp)
  obtain ⟨-, hdistinct, -⟩ := (PassStore.poolsOk_iff _).mp hpools
  rw [← beforeReleased_store s x] at hdistinct ⊢
  rw [hlast, State.clearReleased, if_pos h]
  exact reclaimReleased_passes _ le_rfl hdistinct

/-- The queue of a port whose notices stay is the one that FAULTS left. -/
theorem purge_notices {q : Port} (h : q ≠ p ∨ x.notices = false) :
    ((s.purge p x).port q).notices = ((s.clearFaults x).port q).notices := by
  have hlast : ((s.purge p x).port q).notices =
      ((((s.clearFaults x).clearAcked x).clearReleased x).port q).notices := by
    rcases h with hq | hx
    · exact purge_last_frame s p x (.notices q) (by simp [hq])
    · rw [purge_last, hx]
      rfl
  exact hlast.trans (Eq.trans (clearReleased_port _ x q).1 (clearAcked_frame _ x (.notices q) (by simp)))

theorem purge_notices_empty (h : x.notices = true) : ((s.purge p x).port p).notices = [] := by
  rw [purge_last, if_pos h, State.purgeNotices, port_setPort]

end Purge

/-! ### The commands -/

theorem StrainUnit.ext {a b : StrainUnit} (hzeros : a.zeros = b.zeros) (hdrifted : a.drifted = b.drifted)
    (hslots : a.slots = b.slots) (hscan : a.scan = b.scan) (hserved : a.lastServed = b.lastServed)
    (htimers : a.zeroTimers = b.zeroTimers) (hambient : a.ambient = b.ambient) : a = b := by
  cases a
  exact StrainUnit.mk.injEq .. |>.mpr ⟨hzeros, hdrifted, hslots, hscan, hserved, htimers, hambient⟩

theorem ConfigStore.ext {a b : ConfigStore} (hgeneration : a.generation = b.generation) (hsite : a.site = b.site)
    (htracks : a.tracks = b.tracks) : a = b := by
  cases a
  exact ConfigStore.mk.injEq .. |>.mpr ⟨hgeneration, hsite, htracks⟩

/-- The strain acquisition unit read through a frame. -/
theorem Frame.strain_eq {F : List Part} {s u : State} (h : Frame F s u)
    (hbays : ∀ t, Part.zeros t ∉ F ∧ Part.drifted t ∉ F := by simp)
    (hrequests : ∀ t, Part.slot t ∉ F ∧ Part.zeroTimer t ∉ F := by simp)
    (hscan : Part.scan ∉ F := by simp) (hserved : Part.lastServed ∉ F := by simp)
    (hambient : Part.ambient ∉ F := by simp) : u.strain = s.strain := by
  have hz : u.strain.zeros = s.strain.zeros := PerTrack.ext_get fun t => h (.zeros t) (hbays t).1
  have hd : u.strain.drifted = s.strain.drifted := PerTrack.ext_get fun t => h (.drifted t) (hbays t).2
  have hs : u.strain.slots = s.strain.slots := PerTrack.ext_get fun t => h (.slot t) (hrequests t).1
  have ht : u.strain.zeroTimers = s.strain.zeroTimers :=
    PerTrack.ext_get fun t => h (.zeroTimer t) (hrequests t).2
  exact StrainUnit.ext hz hd hs (h .scan hscan) (h .lastServed hserved) ht (h .ambient hambient)

/-- The configuration read through a frame. -/
theorem Frame.config_eq {F : List Part} {s u : State} (h : Frame F s u)
    (hgeneration : Part.generation ∉ F := by simp) (hsite : Part.site ∉ F := by simp)
    (hareas : ∀ t, Part.area t ∉ F := by simp) : u.config = s.config := by
  have ht : u.config.tracks = s.config.tracks := PerTrack.ext_get fun t => h (.area t) (hareas t)
  exact ConfigStore.ext (h .generation hgeneration) (h .site hsite) ht

/-- What a PURGE and its reply may change. -/
theorem Frame.purge_state {s u : State} {p : Port} (h : Frame (.siteTime :: .transaction p :: purgeParts) s u) :
    u = { s with
      siteTime := u.siteTime, sensors := u.sensors, sections := u.sections, alarms := u.alarms,
      store := u.store, ports := u.ports, choice := u.choice } := by
  have hstation : u.stationTime = s.stationTime := h .stationTime (by simp)
  have hsecond : u.secondStart = s.secondStart := h .secondStart (by simp)
  have hpairs : u.pairs = s.pairs := PerTrack.ext_get fun t => h (.pairs t) (by simp)
  have hpacers : u.pacers = s.pacers := h.pacers_eq (by simp)
  have hstrain : u.strain = s.strain := h.strain_eq
  have hscanners : u.scanners = s.scanners := PerTrack.ext_get fun t => h (.scanners t) (by simp)
  have hcontexts : u.contexts = s.contexts := PerTrack.ext_get fun t => h (.context t) (by simp)
  have hconfig : u.config = s.config := h.config_eq
  have hpending : u.pending = s.pending := h .pending (by simp)
  cases u
  simp only [State.mk.injEq, true_and]
  exact ⟨hstation, hsecond, hpairs, hpacers, hstrain, hscanners, hcontexts, hconfig, hpending⟩

section Command

variable {s : State} {now : SiteTime} {p : Port} {bytes : List Byte} {code : Nat}

/-- R174: a PURGE of a set is executed by each row of one of its targets. -/
theorem transact_purge {target : PurgeTargets → Bool} (hlow : 1 ≤ code) (hhigh : code ≤ 15)
    (h : Completes s p bytes 65 [BitVec.ofNat 8 code]) (htarget : target (.ofCode code) = true) :
    (s.atTime now).transact p bytes (purgeRow target) (fun args s => s.runPurge p args) =
      ((s.atTime now).purge p (.ofCode code)).putReply p ⟨.ok, []⟩ := by
  have harguments := purgeArguments_code hlow hhigh
  refine transact_answers (s := s.atTime now) h ?_ ?_
  · rw [purgeRow, harguments]
    exact htarget
  · rw [State.runPurge, harguments]
    rfl

/-- What a PURGE of a set leaves, for all its rows. -/
theorem purged_state {x : PurgeTargets} : ∃ u, ((s.atTime now).purge p x).putReply p ⟨.ok, []⟩ = u ∧
    Frame [.transaction p] ((s.atTime now).purge p x) u ∧ (u.port p).phase = .reply [1, 0, 0] ∧
    u = { s with
      siteTime := now, sensors := u.sensors, sections := u.sections, alarms := u.alarms,
      store := u.store, ports := u.ports, choice := u.choice } := by
  have frame := putReply_frame ((s.atTime now).purge p x) p ⟨.ok, []⟩
  have first : Frame purgeParts (s.atTime now) ((s.atTime now).purge p x) :=
    .step (.one (clearFaults_frame _ x)) (purge_frame _ p x)
  have whole : Frame (.siteTime :: .transaction p :: purgeParts) s
      (((s.atTime now).purge p x).putReply p ⟨.ok, []⟩) :=
    .step (.step (.one (atTime_frame s now)) first) frame
  refine ⟨_, rfl, frame, putReply_phase _ p _, ?_⟩
  have htime : (((s.atTime now).purge p x).putReply p ⟨.ok, []⟩).siteTime = now :=
    Eq.trans (frame .siteTime (by simp)) (first .siteTime (by simp))
  have hstate := whole.purge_state
  rwa [htime] at hstate

end Command

/-- R189: a code's bits are its targets. -/
theorem testBit_iff (code bit : Nat) : code.testBit bit = true ↔ code / 2 ^ bit % 2 = 1 := by
  rw [Nat.testBit_eq_decide_div_mod_eq, decide_eq_true_eq]

/-- The rows of PURGE, each with the bit of its target. -/
abbrev purgeRows : List ((SiteTime → Port → List Byte → Instr) × Nat) :=
  [(.purgeFaults, 0), (.purgeNotices, 1), (.purgeAcked, 2), (.purgeReleased, 3)]

theorem exec_purgeRow {s : State} {now : SiteTime} {p : Port} {bytes : List Byte} {code : Nat} (hlow : 1 ≤ code)
    (hhigh : code ≤ 15) (h : Completes s p bytes 65 [BitVec.ofNat 8 code])
    {row : (SiteTime → Port → List Byte → Instr) × Nat} (hrow : row ∈ purgeRows)
    (hbit : code.testBit row.2 = true) : exec (row.1 now p bytes) s =
      .next (((s.atTime now).purge p (.ofCode code)).putReply p ⟨.ok, []⟩) := by
  simp only [List.mem_cons, List.not_mem_nil, or_false] at hrow
  rcases hrow with rfl | rfl | rfl | rfl
  · exact congrArg Host.Outcome.next (transact_purge (target := fun x => x.faults) hlow hhigh h hbit)
  · exact congrArg Host.Outcome.next (transact_purge (target := fun x => x.notices) hlow hhigh h hbit)
  · exact congrArg Host.Outcome.next (transact_purge (target := fun x => x.acked) hlow hhigh h hbit)
  · exact congrArg Host.Outcome.next (transact_purge (target := fun x => x.released) hlow hhigh h hbit)

section Target

variable {s : State} {now : SiteTime} {p : Port} {bytes : List Byte}

theorem exec_purgeFaults (h : Completes s p bytes 65 [1]) : exec (.purgeFaults now p bytes) s =
    .next (((s.atTime now).purge p (.ofCode 1)).putReply p ⟨.ok, []⟩) :=
  exec_purgeRow (row := (.purgeFaults, 0)) (by decide) (by decide) h (by simp) (by decide)

/-- R9, R39: FAULTS alone. -/
theorem purgeFaults_alone (h : Completes s p bytes 65 [1]) : ∃ u, exec (.purgeFaults now p bytes) s = .next u ∧
    u = { s with
      siteTime := now, sensors := u.sensors, sections := u.sections, ports := u.ports, choice := u.choice } ∧
    (u.port p).phase = .reply [1, 0, 0] ∧
    (∀ t, u.section t = { s.section t with underflow := false }) ∧
    (∀ t e x, u.sensor t e x = { s.sensor t e x with suspect := false }) ∧
    ∀ q, (s.port q).attached = true → (s.port q).notices = [] → ∀ n, n ∈ (u.port q).notices ↔
      (∃ t e x, (s.sensor t e x).suspect = true ∧
        n = ⟨.faultChanged (.suspect (inputOfSensor t e x)) 0, now⟩) ∨
      ∃ t, (s.section t).underflow = true ∧ n = ⟨.faultChanged (.underflow t) 0, now⟩ := by
  obtain ⟨u, hu, frame, hphase, hstate⟩ := purged_state (s := s) (now := now) (p := p) (x := .ofCode 1)
  have halarms : u.alarms = s.alarms :=
    Eq.trans (frame .alarms (by simp)) (purge_alarms (s.atTime now) p (.ofCode 1))
  have hstore : u.store = s.store := Eq.trans (frame .store (by simp)) (purge_store _ p _ rfl)
  refine ⟨u, (exec_purgeFaults h).trans (congrArg Host.Outcome.next hu), ?_, hphase, fun t => ?_,
    fun t e x => ?_, fun q ha hempty n => ?_⟩
  · rwa [halarms, hstore] at hstate
  · exact frame.section_eq.trans (purge_section _ p _ t)
  · exact (frame.sensor_eq e x).trans (purge_sensor _ p _ t e x)
  · have hnotices : (u.port q).notices = ((s.atTime now).purgeFaults.port q).notices :=
      Eq.trans (frame (.notices q) (by simp)) (purge_notices _ p _ (.inr rfl))
    rw [hnotices, purgeFaults_notices (s := s.atTime now) ha hempty]
    simp only [mem_faultNotices]
    constructor
    · rintro ⟨b, ⟨t, e, x, hx, rfl⟩ | ⟨t, ht, rfl⟩, rfl⟩
      · exact .inl ⟨t, e, x, hx, rfl⟩
      · exact .inr ⟨t, ht, rfl⟩
    · rintro (⟨t, e, x, hx, rfl⟩ | ⟨t, ht, rfl⟩)
      · exact ⟨_, .inl ⟨t, e, x, hx, rfl⟩, rfl⟩
      · exact ⟨_, .inr ⟨t, ht, rfl⟩, rfl⟩

/-- R138: RELEASED alone. -/
theorem purgeReleased_alone (h : Completes s p bytes 65 [8]) (hpools : s.store.poolsOk = true) :
    ∃ u, exec (.purgeReleased now p bytes) s = .next u ∧
      u = { s with siteTime := now, store := u.store, ports := u.ports } ∧
      (u.port p).phase = .reply [1, 0, 0] ∧
      u.store.passes = s.store.passes.filter (fun x => !x.fullyReleased) ∧
      (∀ q, (u.port q).notices = (s.port q).notices ∧ (u.port q).attached = (s.port q).attached) := by
  have frame := putReply_frame ((s.atTime now).purge p (.ofCode 8)) p ⟨.ok, []⟩
  have hpurge : (s.atTime now).purge p (.ofCode 8) = (s.atTime now).purgeReleased := rfl
  refine ⟨_, exec_purgeRow (row := (.purgeReleased, 3)) (by decide) (by decide) h (by simp) (by decide), ?_,
    putReply_phase _ p _, ?_, fun q => ?_⟩
  · rw [hpurge, State.purgeReleased, reclaimReleased_eq]
    rfl
  · exact Eq.trans (congrArg PassStore.passes (frame .store (by simp))) (purge_passes _ p _ rfl hpools)
  · obtain ⟨hnotices, hattached⟩ := reclaimReleased_port s.store.passes.length (s.atTime now) q
    exact ⟨Eq.trans (frame (.notices q) (by simp)) hnotices,
      Eq.trans (frame (.attached q) (by simp)) hattached⟩

end Target

/-- Settles O60, by the effects of the targets in their order. -/
theorem purgeFollowsItsTarget : Obligations.PurgeFollowsItsTarget := by
  refine fun now p bytes s => ⟨fun h => ?acked, fun h => ?notices, fun h => purgeFaults_alone h,
    fun h hpools => purgeReleased_alone h hpools, fun code hlow hhigh h hpools => ?several⟩
  case acked =>
    exact exec_purgeRow (row := (.purgeAcked, 2)) (by decide) (by decide) h (by simp) (by decide)
  case notices =>
    refine (exec_purgeRow (row := (.purgeNotices, 1)) (by decide) (by decide) h (by simp) (by decide)).trans ?_
    cases p <;> rfl
  case several =>
    intro chosen row hrow hchosen
    have hbit : ∀ bit, code.testBit bit = true ↔ chosen bit := testBit_iff code
    have hfaults : (PurgeTargets.ofCode code).faults = true ↔ chosen 0 := hbit 0
    have hclear : ∀ bit, ¬chosen bit → code.testBit bit = false := fun bit hc =>
      Bool.not_eq_true _ |>.mp (mt (hbit bit).mp hc)
    obtain ⟨u, hu, frame, hphase, hstate⟩ := purged_state (s := s) (now := now) (p := p) (x := .ofCode code)
    refine ⟨u, (exec_purgeRow hlow hhigh h hrow ((hbit _).mpr hchosen)).trans (congrArg Host.Outcome.next hu),
      hstate, hphase, fun t => ?_, fun t e x => ?_, ?_, ?_, fun hc => ?_, fun q hq => ?_⟩
    · rw [frame.section_eq, purge_section]
      simp only [PurgeTargets.ofCode, hbit]
      rfl
    · rw [frame.sensor_eq, purge_sensor]
      simp only [PurgeTargets.ofCode, hbit]
      rfl
    · refine Eq.trans (frame .alarms (by simp)) ((purge_alarms _ p _).trans ?_)
      simp only [PurgeTargets.ofCode, hbit]
      rfl
    · have hstore : u.store = ((s.atTime now).purge p (.ofCode code)).store := frame .store (by simp)
      rw [hstore]
      split
      · exact purge_passes _ p _ ((hbit 3).mpr ‹_›) hpools
      · exact purge_store _ p _ (hclear 3 ‹_›)
    · exact Eq.trans (frame (.notices p) (by simp)) (purge_notices_empty _ p _ ((hbit 1).mpr hc))
    · have hkept : (u.port q).notices = (((s.atTime now).clearFaults (.ofCode code)).port q).notices :=
        Eq.trans (frame (.notices q) (by simp)) (purge_notices _ p _ (hq.imp_right (hclear 1)))
      refine ⟨fun hc => ?_, fun hc bytes2 v h2 hv => ?_⟩
      · rw [hkept, State.clearFaults, if_neg (mt hfaults.mp hc)]
        rfl
      · obtain rfl := Host.Outcome.next.inj ((exec_purgeFaults h2).symm.trans hv)
        have halone : ((((s.atTime now).purge p (.ofCode 1)).putReply p ⟨.ok, []⟩).port q).notices =
            ((s.atTime now).purgeFaults.port q).notices :=
          Eq.trans (putReply_frame _ p _ (.notices q) (by simp)) (purge_notices _ p _ (.inr rfl))
        rw [hkept, halone, State.clearFaults, if_pos (hfaults.mpr hc)]

end Sys2Proof.Machine
end

section
/-! PROOFS. RESET (R4, R10, R23, R44, R45, R62, R70, R97, R158, R175, R188): the closes, a track at rest, the parts
of the other blocks, and what the promotions at the end leave of them. -/

namespace Sys2Proof.Machine

open Sys2Proof

-- One proof after another: elaborated side by side they ask for more threads than check.sh allows.
set_option Elab.async false

/-! ### The closes (R44) -/

theorem abandonEach_section (s : State) (t : TrackId) (es : List AxleEntry) :
    (s.abandonEach t es).section t =
      { s.section t with queue := ((s.abandonEach t es).section t).queue } := by
  induction es generalizing s with
  | nil => rfl
  | cons e rest ih =>
    unfold State.abandonEach
    split
    · rfl
    · next c _ =>
      have hentry : ((s.setSection t { s.section t with queue := rest }).abandonEntry t c.number e).section t =
          { s.section t with queue := rest } :=
        (abandonEntry_frame _ t _ _).section_eq.trans (section_setSection s t _)
      rw [ih, hentry]

theorem closePass_section {s : State} {t : TrackId} {c : PassContext} (reason : EndReason)
    (h : s.ctx t = some c) :
    (s.closePass t reason).section t = { s.section t with ctx := none, exitMarks := ⟨[], []⟩ } := by
  unfold State.closePass
  split
  next hnone => rw [hnone] at h; cases h
  next x hx =>
  obtain rfl : x = c := Option.some.inj (hx.symm.trans h)
  extract_lets a b d e f g
  have hd : d.section t = s.section t := by
    unfold d
    split
    · exact (raise_frame (b.flagPass t x.number _) _).section_eq
    · rfl
  clear_value d
  have hg : g.section t = s.section t :=
    (((notify_frame f _).section_eq.trans rfl).trans (closingMatch_frame d t).section_eq).trans hd
  exact (withdrawPace_frame _ t _).section_eq.trans ((section_setSection g t _).trans
    (congrArg (fun c : SectionController => { c with ctx := none, exitMarks := ⟨[], []⟩ }) hg))

/-- R44: of a track's section, an abandoned pass takes its queue, its pass and its exit marks. -/
theorem abandonPass_section (s : State) (t : TrackId) (reason : EndReason) :
    (s.abandonPass t reason).section t = { s.section t with
      queue := ((s.abandonPass t reason).section t).queue, ctx := none,
      exitMarks := ((s.abandonPass t reason).section t).exitMarks } := by
  have hall : (s.abandonAll t).section t = { s.section t with queue := ((s.abandonAll t).section t).queue } :=
    abandonEach_section s t _
  cases hc : (s.abandonAll t).ctx t with
  | none =>
    have hsame : s.abandonPass t reason = s.abandonAll t := by
      unfold State.abandonPass State.closePass
      rw [hc]
    have hctx : (s.section t).ctx = none := Eq.trans (congrArg SectionController.ctx hall).symm hc
    rw [hsame, hall, ← hctx]
  | some c =>
    rw [State.abandonPass, closePass_section reason hc, hall]

/-- What the closes of a warm reset may change. -/
abbrev closeParts : List Part :=
  [.control .t1, .control .t2, .slot .t1, .slot .t2, .context .t1, .context .t2, .store, .alarms, .notices .a,
    .notices .b, .view .a, .view .b, .choice]

theorem closeForReset_order (s : State) : ∃ n o,
    s.closeForReset = (({ s with choice := n }).abandonPass o .reset).abandonPass (otherTrack o) .reset := by
  unfold State.closeForReset
  split
  · exact ⟨_, _, rfl⟩
  · exact ⟨s.choice, .t1, rfl⟩

theorem closeForReset_closeParts (s : State) : Frame closeParts s s.closeForReset := by
  obtain ⟨n, o, horder⟩ := closeForReset_order s
  rw [horder]
  exact .step (.step (.one (withChoice_frame s n)) (abandonPass_frame _ o _) (by cases o <;> simp))
    (abandonPass_frame _ _ _) (by cases o <;> simp [otherTrack])

theorem closeForReset_section (s : State) (t : TrackId) : s.closeForReset.section t = { s.section t with
      queue := (s.closeForReset.section t).queue, ctx := none,
      exitMarks := (s.closeForReset.section t).exitMarks } := by
  obtain ⟨n, o, horder⟩ := closeForReset_order s
  rw [horder]
  by_cases ht : t = o
  · have hother : otherTrack o ≠ t := by subst ht; cases t <;> decide
    rw [(abandonPass_frame _ (otherTrack o) _).section_eq (by simp [hother.symm]), ← ht]
    exact abandonPass_section _ t _
  · obtain rfl : otherTrack o = t := by revert ht; cases o <;> cases t <;> simp [otherTrack]
    rw [abandonPass_section, (abandonPass_frame _ o _).section_eq (by simp [ht])]
    rfl

/-! ### A track at a warm reset (R4, R44, R70) -/

theorem clearAllIndications_frame (s : State) :
    Frame [.sensors .t1, .sensors .t2] s s.clearAllIndications := by
  intro x hx
  cases x with
  | sensors t => cases t <;> simp at hx
  | transaction p => exact ⟨rfl, rfl⟩
  | _ => rfl

theorem clearAllIndications_sensor (s : State) (t : TrackId) (e : SectionEnd) (x : Role) :
    s.clearAllIndications.sensor t e x = { s.sensor t e x with held := false, suspect := false } := by
  cases t <;> cases e <;> cases x <;> rfl

/-- What a track coming to rest at a warm reset may change. -/
abbrev settleParts (t : TrackId) : List Part :=
  [.control t, .zeroTimer t, .pacer t, .sensors t, .pairs t]

theorem settle_settleParts (s : State) (t : TrackId) : Frame (settleParts t) s (s.settle t) := by
  unfold State.settle
  split
  · exact .step (.step (.one (rest_frame s t _)) (setSection_frame _ t _)) (restartFilters_frame _ t)
  · exact .refl _ s

section Settle

variable {s : State} {t : TrackId}

theorem rest_section (s : State) (t : TrackId) : (s.rest t false).section t = (s.section t).toIdle none := by
  rw [State.rest, (stopPacer_frame _ t).section_eq, (startZeroTimer_frame _ t).section_eq]
  exact section_setSection s t _

theorem rest_zeroTimer (s : State) (t : TrackId) :
    (s.rest t false).strain.zeroTimers.get t = some ⟨s.siteTime, (s.area t).zeroInterval⟩ :=
  Eq.trans (stopPacer_frame _ t (.zeroTimer t) (by simp)) (PerTrack.get_set _ t _)

variable (h : s.configured t = true)
include h

theorem settle_section : (s.settle t).section t = { (s.section t).toIdle none with
    underflow := false
    approach := ⟨(s.section t).approach.p.restart, (s.section t).approach.q.restart⟩ } := by
  rw [State.settle, if_pos h, restartFilters_section, section_setSection, rest_section]
  rfl

theorem settle_zeroTimer : (s.settle t).strain.zeroTimers.get t = some ⟨s.siteTime, (s.area t).zeroInterval⟩ := by
  rw [State.settle, if_pos h]
  exact Eq.trans (restartFilters_frame _ t (.zeroTimer t) (by simp))
    (Eq.trans (setSection_frame _ t _ (.zeroTimer t) (by simp)) (rest_zeroTimer s t))

theorem settle_pair (e : SectionEnd) : (s.settle t).pair t e = ⟨.quiet, []⟩ := by
  rw [State.settle, if_pos h]
  exact restartFilters_pair _ t e

theorem settle_sensor (e : SectionEnd) (x : Role) :
    (s.settle t).sensor t e x = (s.sensor t e x).restart s.siteTime := by
  have frame : Frame [.control t, .zeroTimer t, .pacer t] s
      ((s.rest t false).setSection t { (s.rest t false).section t with underflow := false }) :=
    .step (.one (rest_frame s t _)) (setSection_frame _ t _)
  rw [State.settle, if_pos h, restartFilters_sensor, frame.sensor_eq, frame.siteTime_eq]

end Settle

theorem settle_unconfigured {s : State} {t : TrackId} (h : s.configured t = false) : s.settle t = s := by
  rw [State.settle, if_neg (by rw [h]; exact Bool.false_ne_true)]

/-- A sensor's indications stay clear at a filter restart. -/
theorem restart_clear {x : Sensor} (hheld : x.held = false) (hsuspect : x.suspect = false) (now : SiteTime) :
    (x.restart now).held = false ∧ (x.restart now).suspect = false := by
  rw [Sensor.restart_eq, hheld]
  exact ⟨rfl, hsuspect⟩

/-- A second filter restart of a sensor at the same site time leaves it as the first did. -/
theorem restart_restart (x : Sensor) (now : SiteTime) : (x.restart now).restart now = x.restart now := by
  obtain ⟨⟨raw, level, pending⟩, since, held, suspect⟩ := x
  cases raw <;> cases held <;> rfl

/-! ### Both tracks -/

/-- The two tracks come to rest one after the other; each track's side sees its own. -/
theorem settleBoth_track (s : State) (t : TrackId) : ∃ v, Frame (settleParts (otherTrack t)) s v ∧
    Frame (settleParts (otherTrack t)) (v.settle t) ((s.settle .t1).settle .t2) := by
  cases t with
  | t1 => exact ⟨s, .refl _ s, settle_settleParts _ .t2⟩
  | t2 => exact ⟨s.settle .t1, settle_settleParts s .t1, .refl _ _⟩

section SettleBoth

variable (s : State) (t : TrackId)

theorem ne_otherTrack (t : TrackId) : t ≠ otherTrack t := by cases t <;> decide

/-- A sensor whose indications are clear keeps them clear. -/
theorem settleBoth_clear {e : SectionEnd} {x : Role} (hheld : (s.sensor t e x).held = false)
    (hsuspect : (s.sensor t e x).suspect = false) :
    (((s.settle .t1).settle .t2).sensor t e x).held = false ∧
      (((s.settle .t1).settle .t2).sensor t e x).suspect = false := by
  obtain ⟨v, hv, hw⟩ := settleBoth_track s t
  have hsensor := hv.sensor_eq (t := t) e x (by simp [ne_otherTrack t])
  rw [hw.sensor_eq (t := t) e x (by simp [ne_otherTrack t])]
  cases h : v.configured t with
  | true =>
    rw [settle_sensor h, hsensor]
    exact restart_clear hheld hsuspect _
  | false =>
    rw [settle_unconfigured h, hsensor]
    exact ⟨hheld, hsuspect⟩

theorem settleBoth_ctx (h : s.ctx t = none) : ((s.settle .t1).settle .t2).ctx t = none := by
  obtain ⟨v, hv, hw⟩ := settleBoth_track s t
  have hctx : v.ctx t = none := (hv.ctx_eq (by simp [ne_otherTrack t])).trans h
  rw [hw.ctx_eq (t := t) (by simp [ne_otherTrack t])]
  cases hc : v.configured t with
  | true => exact Eq.trans (congrArg SectionController.ctx (settle_section hc)) hctx
  | false => rwa [settle_unconfigured hc]

variable {s t} (h : s.configured t = true)
include h

/-- R4, R44, R70: a configured track is at rest as its own settling leaves it. -/
theorem settleBoth_configured :
    ((s.settle .t1).settle .t2).section t = { (s.section t).toIdle none with
      underflow := false
      approach := ⟨(s.section t).approach.p.restart, (s.section t).approach.q.restart⟩ } ∧
    ((s.settle .t1).settle .t2).strain.zeroTimers.get t = some ⟨s.siteTime, (s.area t).zeroInterval⟩ ∧
    ∀ e, ((s.settle .t1).settle .t2).pair t e = ⟨.quiet, []⟩ ∧
      ∀ x, ((s.settle .t1).settle .t2).sensor t e x = (s.sensor t e x).restart s.siteTime := by
  obtain ⟨v, hv, hw⟩ := settleBoth_track s t
  have hother := ne_otherTrack t
  have hsection : v.section t = s.section t := hv.section_eq (by simp [hother])
  have hc : v.configured t = true := by rwa [State.configured, hsection]
  refine ⟨?_, ?_, fun e => ⟨?_, fun x => ?_⟩⟩
  · rw [hw.section_eq (by simp [hother]), settle_section hc, hsection]
  · refine Eq.trans (hw (.zeroTimer t) (by simp [hother])) ((settle_zeroTimer hc).trans ?_)
    rw [hv.siteTime_eq, hv.area_eq]
  · rw [hw.pair_eq e (by simp [hother]), settle_pair hc]
  · rw [hw.sensor_eq e x (by simp [hother]), settle_sensor hc, hv.sensor_eq e x (by simp [hother]), hv.siteTime_eq]

end SettleBoth

/-! ### Before the promotions (R45, R62, R97, R158, R175) -/

/-- R44, R4: the passes closed and the indications cleared. -/
def State.resetBegun (s : State) : State := s.closeForReset.clearAllIndications

/-- R175: the state from which a warm reset promotes. -/
def State.beforeReady (s : State) : State :=
  let s := ((s.resetBegun.settle .t1).settle .t2).resetBlocks
  { s with ports := s.ports.map StationPort.warmReset }

theorem warmReset_eq (s : State) : s.warmReset = { s.beforeReady.promoteReady with
    config := s.beforeReady.promoteReady.config.unstage } := rfl

theorem resetBegun_frame (s : State) : Frame (.sensors .t1 :: .sensors .t2 :: closeParts) s s.resetBegun :=
  .step (.one (closeForReset_closeParts s)) (clearAllIndications_frame _)

theorem resetBegun_section (s : State) (t : TrackId) : s.resetBegun.section t = { s.section t with
      queue := (s.resetBegun.section t).queue, ctx := none,
      exitMarks := (s.resetBegun.section t).exitMarks } := closeForReset_section s t

theorem resetBegun_sensor (s : State) (t : TrackId) (e : SectionEnd) (x : Role) :
    s.resetBegun.sensor t e x = { s.sensor t e x with held := false, suspect := false } := by
  rw [State.resetBegun, clearAllIndications_sensor, (closeForReset_closeParts s).sensor_eq]

theorem resetBegun_configured (s : State) (t : TrackId) : s.resetBegun.configured t = s.configured t := by
  rw [State.configured, resetBegun_section]
  rfl

theorem resetBlocks_frame (u : State) : Frame [.pacer .t1, .pacer .t2, .scanners .t1, .scanners .t2, .slot .t1,
    .slot .t2, .scan, .alarms] u u.resetBlocks := by
  intro x hx
  cases x with
  | pacer t => cases t <;> simp at hx
  | scanners t => cases t <;> simp at hx
  | slot t => cases t <;> simp at hx
  | transaction p => exact ⟨rfl, rfl⟩
  | scan => simp at hx
  | alarms => simp at hx
  | _ => rfl

theorem portsReset_frame (u : State) : Frame [.notices .a, .notices .b, .view .a, .view .b, .transaction .a,
    .transaction .b] u { u with ports := u.ports.map StationPort.warmReset } := by
  intro x hx
  cases x with
  | notices p => cases p <;> simp at hx
  | view p => cases p <;> simp at hx
  | transaction p => cases p <;> simp at hx
  | attached p => cases p <;> rfl
  | _ => rfl

/-- What the reset of the other blocks and of the ports changes. -/
theorem beforeReady_frame (s : State) : Frame [.pacer .t1, .pacer .t2, .scanners .t1, .scanners .t2, .slot .t1,
    .slot .t2, .scan, .alarms, .notices .a, .notices .b, .view .a, .view .b, .transaction .a, .transaction .b]
    ((s.resetBegun.settle .t1).settle .t2) s.beforeReady :=
  .step (.one (resetBlocks_frame _)) (portsReset_frame _)

/-- What settling both tracks changes. -/
theorem settleBoth_frame (s : State) : Frame (settleParts .t1 ++ settleParts .t2) s
    ((s.settle .t1).settle .t2) :=
  .step (.one (settle_settleParts s .t1)) (settle_settleParts _ .t2)

/-! ### What the promotions leave (R188) -/

/-- R186: a track's pending area is taken, or its side stays as it is. -/
theorem promoteReady_cases (s : State) (t : TrackId) : SameTrack t s s.promoteReady ∨
    ∃ v image g, SameTrack t s v ∧ SameTrack t (v.takeImage t image g) s.promoteReady := by
  cases hc : (s.config.tracks.get t).committed with
  | none => exact .inl (promoteReady_stays (.inl hc))
  | some x =>
    cases hr : (s.section t).state.atRest with
    | false => exact .inl (promoteReady_stays (.inr hr))
    | true =>
      obtain ⟨v, hv⟩ := promoteReady_takes (image := x.1) (g := x.2) hc hr
      exact .inr ⟨v, x.1, x.2, hv⟩

section Promotions

variable (s : State) (t : TrackId)

theorem promoteReady_sensor (e : SectionEnd) (x : Role) :
    s.promoteReady.sensor t e x = s.sensor t e x ∨
      s.promoteReady.sensor t e x = (s.sensor t e x).restart s.siteTime := by
  rcases promoteReady_cases s t with h | ⟨v, image, g, hv, hw⟩
  · exact .inl (h.sensor e x)
  · right
    rw [hw.sensor, takeImage_sensor, hv.sensor, hv.time]

theorem promoteReady_pair {e : SectionEnd} (h : s.pair t e = ⟨.quiet, []⟩) :
    s.promoteReady.pair t e = ⟨.quiet, []⟩ := by
  rcases promoteReady_cases s t with k | ⟨v, image, g, -, hw⟩
  · exact (k.pair e).trans h
  · exact (hw.pair e).trans (takeImage_pair v t image g e)

theorem takeImage_ctx (image : TrackArea) (g : Nat) : (s.takeImage t image g).ctx t = s.ctx t := by
  rw [State.ctx, takeImage_section]
  by_cases h : (s.section t).state = .unconfigured
  · rw [(configureTrack_unconfigured (s := s.installTrack t image g) h).1]
    rfl
  · rw [configureTrack_configured (s := s.installTrack t image g) h]
    rfl

theorem promoteReady_ctx : s.promoteReady.ctx t = s.ctx t := by
  rcases promoteReady_cases s t with h | ⟨v, image, g, hv, hw⟩
  · exact congrArg SectionController.ctx h.section
  · exact Eq.trans (congrArg SectionController.ctx hw.section)
      ((takeImage_ctx v t image g).trans (congrArg SectionController.ctx hv.section))

variable {s t} (h : (s.section t).state ≠ .unconfigured)
include h

/-- R43: a configured track's section keeps everything, its approach inputs at most restarted. -/
theorem promoteReady_section_configured : s.promoteReady.section t = s.section t ∨
    s.promoteReady.section t = { s.section t with
      approach := ⟨(s.section t).approach.p.restart, (s.section t).approach.q.restart⟩ } := by
  rcases promoteReady_cases s t with k | ⟨v, image, g, hv, hw⟩
  · exact .inl k.section
  · right
    rw [hw.section, takeImage_section_configured v t image g (by rwa [hv.section]), hv.section]

theorem promoteReady_zeroTimer_configured :
    s.promoteReady.strain.zeroTimers.get t = s.strain.zeroTimers.get t := by
  rcases promoteReady_cases s t with k | ⟨v, image, g, hv, hw⟩
  · exact k.zeroTimer
  · rw [hw.zeroTimer, ← hv.zeroTimer]
    have hstate : (v.section t).state ≠ .unconfigured := by rwa [hv.section]
    refine Eq.trans (realign_frame _ t _ (.zeroTimer t) (by simp))
      (Eq.trans (restartFilters_frame _ t (.zeroTimer t) (by simp)) ?_)
    rw [configureTrack_configured (s := v.installTrack t image g) hstate]
    rfl

end Promotions

/-- R62: no request waits and no scan is in progress. -/
def State.strainFree (s : State) : Prop := s.strain.scan = none ∧ ∀ t, s.slot t = none

theorem strainFree_of_frame {F : List Part} {s u : State} (h : s.strainFree) (k : Frame F s u)
    (hscan : Part.scan ∉ F := by simp) (hslots : ∀ t, Part.slot t ∉ F := by simp) : u.strainFree :=
  ⟨Eq.trans (k .scan hscan) h.1, fun t => Eq.trans (k (.slot t) (hslots t)) (h.2 t)⟩

/-- A promotion makes no request. -/
theorem promoteTrackIfReady_strainFree {s : State} (h : s.strainFree) (t : TrackId) :
    (s.promoteTrackIfReady t).strainFree := by
  unfold State.promoteTrackIfReady
  split
  · exact h
  · next x _ =>
    split
    · have frame : Frame [.control t, .zeroTimer t, .sensors t, .pairs t] (s.installTrack t x.1 x.2)
          (((s.installTrack t x.1 x.2).configureTrack t).restartFilters t) :=
        .step (.one (configureTrack_frame _ t)) (restartFilters_frame _ t)
      obtain ⟨hscan, hslots⟩ := strainFree_of_frame (s := s.installTrack t x.1 x.2) h frame
      have hwithdraw : (((s.installTrack t x.1 x.2).configureTrack t).restartFilters t).withdrawZero t =
          ((s.installTrack t x.1 x.2).configureTrack t).restartFilters t := by
        rw [State.withdrawZero, hslots t]
      have htake : (s.takeImage t x.1 x.2).strainFree := by
        unfold State.takeImage State.realign
        rw [hwithdraw]
        exact ⟨congrArg (Option.map _) hscan, hslots⟩
      exact strainFree_of_frame htake (promoteTrack_notices s t x.1 x.2)
    · exact h

theorem promoteReady_strainFree {s : State} (h : s.strainFree) : s.promoteReady.strainFree :=
  promoteTrackIfReady_strainFree (promoteTrackIfReady_strainFree
    (strainFree_of_frame h (promoteSiteIfReady_frame s)) .t1) .t2

/-! ### The statement -/

theorem warmReset_frame_after (s : State) :
    Frame [.site, .area .t1, .area .t2, .generation] s.beforeReady.promoteReady s.warmReset := by
  rw [warmReset_eq]
  exact withConfig_frame _ _

section BeforeReady

variable (s : State)

/-- A part that only settling and the reset of the other blocks would change is as it was. -/
theorem beforeReady_kept {x : Part} (h : x ∉ Part.sensors .t1 :: .sensors .t2 :: closeParts)
    (hs : x ∉ settleParts .t1 ++ settleParts .t2)
    (hr : x ∉ [.pacer .t1, .pacer .t2, .scanners .t1, .scanners .t2, .slot .t1, .slot .t2, .scan, .alarms,
      .notices .a, .notices .b, .view .a, .view .b, .transaction .a, .transaction .b]) : x.Same s s.beforeReady :=
  ((resetBegun_frame s x h).trans (settleBoth_frame _ x hs)).trans (beforeReady_frame s x hr)

theorem beforeReady_strainFree : s.beforeReady.strainFree := by
  refine ⟨rfl, fun t => ?_⟩
  cases t <;> rfl

theorem beforeReady_port (q : Port) : (s.beforeReady.port q).phase = (s.port q).phase.afterReset ∧
    (s.beforeReady.port q).view = .empty := by
  have hphase : (((s.resetBegun.settle .t1).settle .t2).port q).phase = (s.port q).phase :=
    Eq.trans (settleBoth_frame _ (.transaction q) (by simp)).1 (resetBegun_frame s (.transaction q) (by simp)).1
  rw [← hphase]
  cases q <;> exact ⟨rfl, rfl⟩

theorem resetBlocks_scanner (u : State) (t : TrackId) (n : ScannerName) :
    u.resetBlocks.scanner t n = (u.scanner t n).warmReset u.siteTime := by
  cases t <;> cases n <;> rfl

theorem resetBlocks_pacer (u : State) (t : TrackId) : u.resetBlocks.pacer t = (u.pacer t).warmReset := by
  cases t <;> rfl

/-- R158: every line at rest. -/
theorem warmReset_line (u : AlarmUnit) (i : Fin 8) : u.warmReset.line i = ⟨[], .idle, false⟩ := by
  fin_cases i <;> rfl

theorem beforeReady_scanner (t : TrackId) (n : ScannerName) :
    s.beforeReady.scanner t n = (s.scanner t n).warmReset s.siteTime := by
  have hscanner : ((s.resetBegun.settle .t1).settle .t2).scanner t n = s.scanner t n :=
    congrArg (fun x => PerScanner.get x n)
      (Eq.trans (settleBoth_frame _ (.scanners t) (by simp)) (resetBegun_frame s (.scanners t) (by simp)))
  have htime : ((s.resetBegun.settle .t1).settle .t2).siteTime = s.siteTime :=
    Eq.trans (settleBoth_frame _ .siteTime (by simp)) (resetBegun_frame s .siteTime (by simp))
  have hreset := resetBlocks_scanner ((s.resetBegun.settle .t1).settle .t2) t n
  rw [hscanner, htime] at hreset
  exact hreset

theorem beforeReady_ctx (t : TrackId) : s.beforeReady.ctx t = none :=
  (beforeReady_frame s).ctx_eq.trans
    (settleBoth_ctx _ t (congrArg SectionController.ctx (resetBegun_section s t)))

theorem beforeReady_clear (t : TrackId) (e : SectionEnd) (x : Role) :
    (s.beforeReady.sensor t e x).held = false ∧ (s.beforeReady.sensor t e x).suspect = false := by
  rw [(beforeReady_frame s).sensor_eq]
  exact settleBoth_clear _ t (by rw [resetBegun_sensor]) (by rw [resetBegun_sensor])

/-- R4: a cleared sensor restarted. -/
theorem restart_of_clear {x : Sensor} {raw : Bool} {now : SiteTime} (hraw : x.filter.raw = raw)
    (hheld : x.held = false) : (x.restart now).filter = ⟨raw, raw, none⟩ ∧
      (x.restart now).occupiedSince = if raw = true then some now else none := by
  rw [Sensor.restart_eq, hraw, hheld]
  cases raw <;> exact ⟨rfl, rfl⟩

/-- R4, R44, R70: a configured track before the promotions. -/
theorem beforeReady_configured {t : TrackId} (h : s.configured t = true) :
    s.beforeReady.section t = { (s.resetBegun.section t).toIdle none with
      underflow := false
      approach := ⟨(s.section t).approach.p.restart, (s.section t).approach.q.restart⟩ } ∧
    s.beforeReady.strain.zeroTimers.get t = some ⟨s.siteTime, (s.area t).zeroInterval⟩ ∧
    ∀ e, s.beforeReady.pair t e = ⟨.quiet, []⟩ ∧
      ∀ x, s.beforeReady.sensor t e x = (s.resetBegun.sensor t e x).restart s.siteTime := by
  have frame := beforeReady_frame s
  have begun := resetBegun_frame s
  obtain ⟨hsection, htimer, hinputs⟩ := settleBoth_configured (s := s.resetBegun) (t := t)
    (by rwa [resetBegun_configured])
  have happroach : (s.resetBegun.section t).approach = (s.section t).approach :=
    Eq.trans (congrArg SectionController.approach (resetBegun_section s t)) rfl
  rw [happroach] at hsection
  rw [begun.siteTime_eq, begun.area_eq] at htimer
  refine ⟨frame.section_eq.trans hsection, Eq.trans (frame (.zeroTimer t) (by simp)) htimer, fun e => ?_⟩
  obtain ⟨hpair, hsensors⟩ := hinputs e
  refine ⟨(frame.pair_eq e).trans hpair, fun x => (frame.sensor_eq e x).trans ?_⟩
  rw [hsensors, begun.siteTime_eq]

end BeforeReady

/-- R188: with the staged images replaced after the promotions, the rest is as they left it. -/
theorem warmReset_keeps (s : State) (p : Port) (r : Reply) :
    Frame [.transaction p, .site, .area .t1, .area .t2, .generation] s.beforeReady.promoteReady
      (s.warmReset.putReply p r) :=
  .step (.one (warmReset_frame_after s)) (putReply_frame _ p r)

/-- R175: RESET is answered OK. -/
theorem exec_reset {s : State} {now : SiteTime} {p : Port} {bytes : List Byte} (h : Completes s p bytes 67 []) :
    exec (.reset now p bytes) s = .next ((s.atTime now).warmReset.putReply p ⟨.ok, []⟩) :=
  congrArg Host.Outcome.next (transact_answers (s := s.atTime now) (row := isCommand 67)
    (run := fun args s => s.runReset args) h rfl rfl)

/-- R4, R44, R70: a configured track after a warm reset. -/
theorem warmReset_configured (s : State) {t : TrackId} (h : s.configured t = true) :
    let u := s.beforeReady.promoteReady
    (u.section t).state = .idle ∧ (u.section t).count = 0 ∧ (u.section t).underflow = false ∧
      (u.section t).closeDelay = none ∧ (u.section t).approachTimer = none ∧ (u.section t).holdTimer = none ∧
      (u.section t).clearTimer = none ∧ (u.section t).quietTimer = none ∧
      u.strain.zeroTimers.get t = some ⟨s.siteTime, (s.area t).zeroInterval⟩ ∧
      ∀ e, u.pair t e = ⟨.quiet, []⟩ ∧
        (u.section t).approach.get e =
          ⟨((s.section t).approach.get e).raw, ((s.section t).approach.get e).raw, none⟩ ∧
        ∀ x, u.sensor t e x = (s.resetBegun.sensor t e x).restart s.siteTime := by
  obtain ⟨hsection, htimer, hinputs⟩ := beforeReady_configured s h
  have hstate : (s.beforeReady.section t).state ≠ .unconfigured := by
    rw [hsection]
    exact TrackState.noConfusion
  have htime : s.beforeReady.siteTime = s.siteTime := beforeReady_kept s (x := .siteTime) (by simp) (by simp) (by simp)
  intro u
  have hafter : u.section t = s.beforeReady.section t := by
    rcases promoteReady_section_configured hstate with h | h
    · exact h
    · rw [h, hsection]
      rfl
  rw [hafter, hsection]
  refine ⟨rfl, rfl, rfl, rfl, rfl, rfl, rfl, rfl, (promoteReady_zeroTimer_configured hstate).trans htimer,
    fun e => ⟨promoteReady_pair _ t (hinputs e).1, ?_, fun x => ?_⟩⟩
  · cases e <;> rfl
  · rcases promoteReady_sensor s.beforeReady t e x with hkept | hagain
    · exact hkept.trans ((hinputs e).2 x)
    · rw [hagain, htime, (hinputs e).2 x, restart_restart]

/-- Settles O14, part by part before the promotions, each then kept by them. -/
theorem warmResetBringsTheTracksToRest : Obligations.WarmResetBringsTheTracksToRest := by
  intro now p bytes s h
  obtain ⟨u, hu, htime, whole⟩ := reset_does now p bytes s
  obtain rfl : (s.atTime now).warmReset.putReply p ⟨.ok, []⟩ = u :=
    Host.Outcome.next.inj ((exec_reset h).symm.trans hu)
  have after := warmReset_keeps (s.atTime now) p ⟨.ok, []⟩
  have promoted : Frame (.transaction p :: .site :: .area .t1 :: .area .t2 :: .generation :: promoteParts)
      (s.atTime now).beforeReady ((s.atTime now).warmReset.putReply p ⟨.ok, []⟩) :=
    .step (.one (promoteReady_frame _)) after
  refine ⟨_, hu, htime, whole .stationTime (by simp), whole .secondStart (by simp), putReply_phase _ p _,
    fun q hq => ?phase, fun q => ⟨whole (.attached q) (by simp), ?view⟩, whole .generation (by simp),
    fun hsite => ?ambient, ?scan, ?slots, fun i => ?line, fun tr => ⟨?ctx, fun hc => ?configured⟩,
    fun tr => ?pacer, fun tr n => ?scanner, fun tr e x => ?indications⟩
  case phase =>
    exact Eq.trans (promoted (.transaction q) (by simp [hq])).1 (beforeReady_port _ q).1
  case view => exact Eq.trans (promoted (.view q) (by simp)) (beforeReady_port _ q).2
  case ambient =>
    have hconfig : (s.atTime now).beforeReady.config.site = s.config.site :=
      beforeReady_kept (s.atTime now) (x := .site) (by simp) (by simp) (by simp)
    have hambient : (s.atTime now).beforeReady.strain.ambient = s.strain.ambient :=
      beforeReady_kept (s.atTime now) (x := .ambient) (by simp) (by simp) (by simp)
    have hstays := promoteReady_site_stays (s := (s.atTime now).beforeReady) (.inl (by rwa [hconfig]))
    exact Eq.trans (after .ambient (by simp)) (hstays.2.trans hambient)
  case scan => exact Eq.trans (after .scan (by simp)) (promoteReady_strainFree (beforeReady_strainFree _)).1
  case slots =>
    exact PerTrack.ext_get fun t => Eq.trans (after (.slot t) (by simp))
      (((promoteReady_strainFree (beforeReady_strainFree _)).2 t).trans (by cases t <;> rfl))
  case line =>
    have halarms : ((s.atTime now).warmReset.putReply p ⟨.ok, []⟩).alarms = (s.atTime now).beforeReady.alarms :=
      promoted .alarms (by simp)
    rw [halarms]
    exact warmReset_line _ i
  case ctx => exact after.ctx_eq.trans ((promoteReady_ctx _ tr).trans (beforeReady_ctx _ tr))
  case configured =>
    obtain ⟨hstate, hcount, hunderflow, hdelay, happroach, hhold, hclear, hquiet, htimer, hinputs⟩ :=
      warmReset_configured (s.atTime now) hc
    rw [after.section_eq]
    refine ⟨hstate, hcount, hunderflow, hdelay, happroach, hhold, hclear, hquiet,
      Eq.trans (after (.zeroTimer tr) (by simp)) htimer, fun e => ?_⟩
    obtain ⟨hpair, hinput, hsensors⟩ := hinputs e
    refine ⟨(after.pair_eq e).trans hpair, hinput, fun x => ?_⟩
    have hsensor := (after.sensor_eq e x).trans (hsensors x)
    have hbegun := resetBegun_sensor (s.atTime now) tr e x
    rw [hsensor]
    exact restart_of_clear (by rw [hbegun]; rfl) (by rw [hbegun])
  case pacer =>
    have hpacer : ((s.atTime now).warmReset.putReply p ⟨.ok, []⟩).pacer tr = (s.atTime now).beforeReady.pacer tr :=
      promoted (.pacer tr) (by simp)
    have hreset : (s.atTime now).beforeReady.pacer tr = Pacer.warmReset _ := resetBlocks_pacer _ tr
    rw [hpacer, hreset]
    exact ⟨rfl, rfl, rfl, rfl, rfl⟩
  case scanner =>
    have hscanner : ((s.atTime now).warmReset.putReply p ⟨.ok, []⟩).scanner tr n =
        (s.atTime now).beforeReady.scanner tr n :=
      congrArg (fun x => PerScanner.get x n) (promoted (.scanners tr) (by simp))
    exact hscanner.trans (beforeReady_scanner _ tr n)
  case indications =>
    rw [after.sensor_eq]
    obtain ⟨hheld, hsuspect⟩ := beforeReady_clear (s.atTime now) tr e x
    rcases promoteReady_sensor (s.atTime now).beforeReady tr e x with hkept | hagain
    · rw [hkept]
      exact ⟨hheld, hsuspect⟩
    · rw [hagain]
      exact restart_clear hheld hsuspect _

end Sys2Proof.Machine
end

section
/-! PROOFS. The header of an open pass (R128, R133): what its opening writes stays while axles and vehicles are
recorded, since only closed passes are reclaimed. -/

namespace Sys2Proof.Machine

open Sys2Proof

-- One proof after another: elaborated side by side they ask for more threads than check.sh allows.
set_option Elab.async false

/-! ### What the opening of a pass writes -/

/-- R128, R133: the header fields that the opening of a pass writes, with its state. -/
def HeldPass.opening (p : HeldPass) : TrackId × Direction × PassState × SiteTime × Word × Nat × Nat :=
  (p.track, p.direction, p.state, p.openSite, p.openStation, p.trackGeneration, p.siteGeneration)

/-- The pass of a header's number is held, and as its opening wrote it. -/
structure OpenAs (s : State) (h : HeldPass) : Prop where
  held : ∃ p ∈ s.store.passes, p.number = h.number
  same : ∀ p ∈ s.store.passes, p.number = h.number → p.opening = h.opening

theorem OpenAs.find {s : State} {h : HeldPass} (k : OpenAs s h) :
    ∃ p, s.store.find h.number = some p ∧ p.opening = h.opening := by
  obtain ⟨p, hp, hn⟩ := k.held
  cases hf : s.store.find h.number with
  | none => exact absurd hn (PassStore.find_none.mp hf p hp)
  | some q =>
    obtain ⟨hq, hqn⟩ := PassStore.find_some hf
    exact ⟨q, rfl, k.same q hq hqn⟩

/-- An operation keeps what the opening of every open pass wrote. -/
def KeepsOpen (s u : State) : Prop := ∀ h : HeldPass, h.state = .opened → OpenAs s h → OpenAs u h

theorem KeepsOpen.refl (s : State) : KeepsOpen s s := fun _ _ k => k

theorem KeepsOpen.trans {s u v : State} (h : KeepsOpen s u) (k : KeepsOpen u v) : KeepsOpen s v :=
  fun p hp hs => k p hp (h p hp hs)

theorem KeepsOpen.of_store {s u : State} (h : u.store = s.store) : KeepsOpen s u :=
  fun _ _ k => ⟨h ▸ k.held, h ▸ k.same⟩

theorem KeepsOpen.of_update {s u : State} {t : TrackId} {n : Nat} {f : HeldPass → HeldPass}
    (h : u.store.passes = (s.store.updateOfTrack t n f).passes)
    (hn : ∀ p, (f p).number = p.number := by intro _; rfl)
    (ho : ∀ p, (f p).opening = p.opening := by intro _; rfl) : KeepsOpen s u := by
  have kept : ∀ p, (if p.number = n ∧ p.track = t then f p else p).number = p.number ∧
      (if p.number = n ∧ p.track = t then f p else p).opening = p.opening := by
    intro p
    split
    · exact ⟨hn p, ho p⟩
    · exact ⟨rfl, rfl⟩
  rintro r - ⟨⟨p, hp, hnumber⟩, hsame⟩
  refine ⟨⟨_, by rw [h]; exact List.mem_map_of_mem hp, (kept p).1.trans hnumber⟩, fun q hq hqn => ?_⟩
  rw [h] at hq
  obtain ⟨p, hp, rfl⟩ := List.mem_map.mp hq
  exact (kept p).2.trans (hsame p hp ((kept p).1.symm.trans hqn))

theorem updatePass_keepsOpen (s : State) (t : TrackId) (n : Nat) (f : HeldPass → HeldPass)
    (hn : ∀ p, (f p).number = p.number := by intro _; rfl)
    (ho : ∀ p, (f p).opening = p.opening := by intro _; rfl) : KeepsOpen s (s.updatePass t n f) :=
  .of_update rfl hn ho

theorem updateAxle_keepsOpen (s : State) (t : TrackId) (n i : Nat) (f : AxleRecord → AxleRecord) :
    KeepsOpen s (s.updateAxle t n i f) := updatePass_keepsOpen s t n _

theorem setContext_keepsOpen (s : State) (t : TrackId) (m : Option MatchContext) :
    KeepsOpen s (s.setContext t m) := .of_store rfl

/-- R136: only closed passes are reclaimed. -/
theorem makeRoom_keepsOpen (s : State) (room : PassStore → Bool) : KeepsOpen s (s.makeRoom room) := by
  rintro h hopen ⟨⟨p, hp, hn⟩, hsame⟩
  have hopened : ∀ q ∈ s.store.passes, q.number = h.number → q.state ≠ .closed := by
    intro q hq hqn hclosed
    have hstate : q.state = h.state := congrArg (fun x => x.2.2.1) (hsame q hq hqn)
    rw [hclosed, hopen] at hstate
    cases hstate
  have hfind := reclaimUntil_keeps room s.store.passes.length hopened
  refine ⟨?_, fun q hq => hsame q (reclaimUntil_subset room _ s hq)⟩
  obtain ⟨q, hq, -⟩ := OpenAs.find ⟨⟨p, hp, hn⟩, hsame⟩
  exact ⟨q, PassStore.find_some (hfind.trans hq)⟩

theorem raise_keepsOpen (s : State) (a : Alarm) : KeepsOpen s (s.raise a) :=
  .of_update (congrArg PassStore.passes (raise_store s a))

/-! ### Vehicles (R115 to R124) -/

theorem completeVehicle_keepsOpen (s : State) (t : TrackId) (n i : Nat) :
    KeepsOpen s (s.completeVehicle t n i) := by
  unfold State.completeVehicle
  split
  · dsimp only
    split
    · exact .of_update rfl
    · refine .trans (.of_update rfl) (raise_keepsOpen _ _)
  · exact .refl s

theorem requestVehicle_keepsOpen (s : State) (t : TrackId) (n : Nat) :
    KeepsOpen s (s.requestVehicle t n).1 := by
  unfold State.requestVehicle
  split
  · exact .refl s
  · split
    · dsimp only
      split
      · exact (makeRoom_keepsOpen s _).trans (.of_update rfl)
      · exact makeRoom_keepsOpen s _
    · exact .refl s

theorem makeVehicle_keepsOpen (s : State) (t : TrackId) (m : MatchContext) (shape : VehicleShape) :
    KeepsOpen s (s.makeVehicle t m shape) := by
  have asked := requestVehicle_keepsOpen s t m.pass
  unfold State.makeVehicle
  dsimp only
  split
  · split
    · exact ((asked.trans (updatePass_keepsOpen _ _ _ _)).trans (setContext_keepsOpen _ t _)).trans
        (completeVehicle_keepsOpen _ t _ _)
    · exact (asked.trans (updatePass_keepsOpen _ _ _ _)).trans (setContext_keepsOpen _ t _)
  · exact asked.trans (.of_update rfl)

theorem attempts_keepsOpen (look : List WaitingAxle → List VehicleType → Decision) (t : TrackId) (fuel : Nat)
    (s : State) : KeepsOpen s (State.attempts look t fuel s) := by
  induction fuel generalizing s with
  | zero => exact .refl s
  | succ fuel ih =>
    unfold State.attempts
    split
    · exact .refl s
    · split
      · split
        · exact .refl s
        · exact (makeVehicle_keepsOpen s t _ _).trans (ih _)
        · exact (makeVehicle_keepsOpen s t _ _).trans (ih _)
      · exact .refl s

theorem tellCounted_keepsOpen (s : State) (t : TrackId) (n : Nat) (e : AxleEntry) (stored : Bool) :
    KeepsOpen s (s.tellCounted t n e stored) := by
  unfold State.tellCounted
  dsimp only
  split
  · exact .refl s
  · split
    · split
      · exact ((updateAxle_keepsOpen s t n _ _).trans (setContext_keepsOpen _ t _)).trans
          (attempts_keepsOpen _ t _ _)
      · exact (updateAxle_keepsOpen s t n _ _).trans (setContext_keepsOpen _ t _)
    · exact setContext_keepsOpen s t _

/-! ### Axles (R28, R130, R131) -/

theorem stopStoring_keepsOpen (s : State) (t : TrackId) (c : PassContext) (pool : Bool) :
    KeepsOpen s (s.stopStoring t c pool) := .of_update rfl

theorem askRecord_keepsOpen (s : State) (t : TrackId) (c : PassContext) (e : AxleEntry) :
    KeepsOpen s (s.askRecord t c e).1 := by
  have room := makeRoom_keepsOpen s hasAxleChunk
  unfold State.askRecord State.requestAxle
  dsimp only
  split
  · split
    · exact stopStoring_keepsOpen s t c _
    · split
      · split
        · exact (room.trans (.of_update (u := State.takeAxleChunk _ t c.number) rfl)).trans (.of_update rfl)
        · exact room.trans (stopStoring_keepsOpen _ t c _)
      · exact .of_update rfl
  · exact .refl s

theorem countIn_keepsOpen (s : State) (t : TrackId) (ev : PairEvent) : KeepsOpen s (s.countIn t ev) := by
  have hold : ∀ u : State, KeepsOpen u (u.startHold t) := fun u =>
    .of_store (startHold_frame u t .store (by simp))
  have joined : ∀ c e, KeepsOpen s (s.joinQueue t c e) := fun _ _ => .of_store rfl
  unfold State.countIn
  split
  · exact .refl s
  · exact (((joined _ _).trans (askRecord_keepsOpen _ t _ _)).trans
      (tellCounted_keepsOpen _ t _ _ _)).trans (hold _)

end Sys2Proof.Machine
end

section
/-! PROOFS. An inward event at rest (R12, R26 to R28, R45, R47, R187): the number, the context and the header of
the pass that opens, its first axle, and what a COMMIT of the same site time changes of it. -/

namespace Sys2Proof.Machine

open Sys2Proof

-- One proof after another: elaborated side by side they ask for more threads than check.sh allows.
set_option Elab.async false

/-! ### The number and the header (R26, R127, R129) -/

/-- R26: the next number is taken where no held pass has it. -/
theorem takeNumber_eq {st : PassStore} (h : st.find st.nextPass = none) : st.takeNumber = st.nextPass := by
  unfold PassStore.takeNumber
  cases st.passes.length with
  | zero => rfl
  | succ fuel => rw [PassStore.freeNumber, h]; rfl

/-- R136: nothing is reclaimed where there is room. -/
theorem makeRoom_eq {s : State} {room : PassStore → Bool} (h : room s.store = true) : s.makeRoom room = s := by
  unfold State.makeRoom
  cases s.store.passes.length with
  | zero => rfl
  | succ fuel => rw [State.reclaimUntil, if_pos h]

/-- R129: with a slot free the header joins the tail of the list. -/
theorem requestHeader_room {s : State} (p : HeldPass) (h : s.store.passes.length < 16) : s.requestHeader p =
    ({ s with store := { s.store with passes := s.store.passes ++ [p] } }, true) := by
  have hroom : hasSlot s.store = true := decide_eq_true h
  unfold State.requestHeader
  rw [makeRoom_eq hroom]
  exact if_pos hroom

/-! ### Forming the pass (R26) -/

section Form

variable {s : State} {t : TrackId} {ev : PairEvent} (hnumber : s.store.find s.store.nextPass = none)
  (hroom : s.store.passes.length < 16)
include hnumber hroom

/-- R26: a pass formed under the next number, its header recorded. -/
theorem formPass_eq : s.formPass t ev =
    let n := s.store.nextPass
    let d := directionFrom ev.pairEnd
    let u : State := { s with store := { s.store with
      nextPass := nextPassNumber n, passes := s.store.passes ++ [s.newHeader t n d ev.time] } }
    let v := u.setSection t { s.section t with
      ctx := some (s.newContext t n d ev.speed true), exitMarks := ⟨[], []⟩ }
    { v with alarms := s.alarms.passOpens t n }.notify (.passOpened n t d false) := by
  unfold State.formPass
  extract_lets number d _ numbered asked
  have htaken : number = s.store.nextPass := takeNumber_eq hnumber
  clear_value number
  subst htaken
  have hasked : asked = ({ numbered with store := { numbered.store with
      passes := numbered.store.passes ++ [numbered.newHeader t s.store.nextPass d ev.time] } }, true) :=
    requestHeader_room (s := numbered) _ hroom
  clear_value asked
  subst hasked
  rfl

/-- R26: the context of the pass. -/
theorem formPass_section : (s.formPass t ev).section t = { s.section t with
    ctx := some (s.newContext t s.store.nextPass (directionFrom ev.pairEnd) ev.speed true)
    exitMarks := ⟨[], []⟩ } := by
  rw [formPass_eq hnumber hroom]
  exact (notify_frame _ _).section_eq.trans (section_setSection _ t _)

/-- R26, R128: the header joins the list OPEN. -/
theorem formPass_opens : OpenAs (s.formPass t ev)
    (s.newHeader t s.store.nextPass (directionFrom ev.pairEnd) ev.time) := by
  have hpasses : (s.formPass t ev).store.passes =
      s.store.passes ++ [s.newHeader t s.store.nextPass (directionFrom ev.pairEnd) ev.time] := by
    rw [formPass_eq hnumber hroom]
    rfl
  refine ⟨⟨_, by rw [hpasses]; exact List.mem_append_right _ List.mem_cons_self, rfl⟩, fun p hp hn => ?_⟩
  rw [hpasses, List.mem_append, List.mem_singleton] at hp
  rcases hp with hp | rfl
  · exact absurd hn (PassStore.find_none.mp hnumber p hp)
  · rfl

end Form

/-! ### Opening the pass (R26 to R28, R33, R45, R47) -/

/-- What the opening of a pass on a track may change. -/
abbrev openParts (t : TrackId) : List Part :=
  [.control t, .zeroTimer t, .slot t, .pacer t, .scanners t, .context t, .store, .alarms, .notices .a,
    .notices .b, .view .a, .view .b]

/-- R26, R66, R70: a track as it leaves rest. -/
def State.leaveRest (s : State) (t : TrackId) : State :=
  if decide ((s.section t).state = .idle) then (s.keepLateClose t).leaveIdle t else s

theorem leaveRest_frame (s : State) (t : TrackId) :
    Frame [.control t, .zeroTimer t, .slot t] s (s.leaveRest t) := by
  unfold State.leaveRest
  split
  · exact .step (.one (keepLateClose_frame s t)) (leaveIdle_frame _ t)
  · exact .refl _ s

theorem leaveRest_section (s : State) (t : TrackId) : ((s.leaveRest t).section t).count = (s.section t).count ∧
    ((s.leaveRest t).section t).queue = (s.section t).queue := by
  unfold State.leaveRest
  split
  · have hkept : (((s.keepLateClose t).stopZeroTimer t).withdrawZero t).section t =
        (s.keepLateClose t).section t :=
      (withdrawZero_frame _ t).section_eq.trans (stopZeroTimer_frame _ t).section_eq
    have hkeep : (s.keepLateClose t).section t = { s.section t with lateClose :=
        (if timerDue (s.section t).closeDelay s.siteTime = true then some s.siteTime else none) } :=
      section_setSection s t _
    rw [State.leaveIdle]
    dsimp only
    rw [section_setSection, hkept, hkeep]
    exact ⟨rfl, rfl⟩
  · exact ⟨rfl, rfl⟩

/-- R26: the track with its pass formed, OCCUPIED, its shutters asked for. -/
def State.openFormed (s : State) (t : TrackId) (ev : PairEvent) : State :=
  let b := ((s.leaveRest t).formPass t ev).enterOccupied t
  if decide ((s.section t).state = .idle) then b.openShutters t else b

theorem openPass_eq (s : State) (t : TrackId) (ev : PairEvent) : s.openPass t ev =
    (((s.openFormed t ev).writeSpeed t ev.speed).startHold t).countIn t ev := rfl

theorem newContext_frame {F : List Part} {s u : State} {t : TrackId} (h : Frame F s u)
    (harea : Part.area t ∉ F := by simp) (hsite : Part.site ∉ F := by simp)
    (hambient : Part.ambient ∉ F := by simp) (n : Nat) (d : Direction) (v : Nat) (recorded : Bool) :
    u.newContext t n d v recorded = s.newContext t n d v recorded := by
  have hconfig : u.config.tracks.get t = s.config.tracks.get t := h (.area t) harea
  have hs : u.config.site = s.config.site := h .site hsite
  have ha : u.strain.ambient = s.strain.ambient := h .ambient hambient
  simp only [State.newContext, State.area, hconfig, hs, ha]

theorem newHeader_frame {F : List Part} {s u : State} {t : TrackId} (h : Frame F s u)
    (harea : Part.area t ∉ F := by simp) (hsite : Part.site ∉ F := by simp)
    (hambient : Part.ambient ∉ F := by simp) (hstation : Part.stationTime ∉ F := by simp)
    (n : Nat) (d : Direction) (time : SiteTime) : u.newHeader t n d time = s.newHeader t n d time := by
  have hconfig : u.config.tracks.get t = s.config.tracks.get t := h (.area t) harea
  have hs : u.config.site = s.config.site := h .site hsite
  have ha : u.strain.ambient = s.strain.ambient := h .ambient hambient
  have hst : u.stationTime = s.stationTime := h .stationTime hstation
  simp only [State.newHeader, hconfig, hs, ha, hst]

theorem openFormed_after (s : State) (t : TrackId) (ev : PairEvent) :
    Frame [.scanners t] (((s.leaveRest t).formPass t ev).enterOccupied t) (s.openFormed t ev) := by
  unfold State.openFormed
  dsimp only
  split
  · exact .one (openShutters_frame _ t)
  · exact .refl _ _

theorem openFormed_frame (s : State) (t : TrackId) (ev : PairEvent) : Frame (openParts t) s (s.openFormed t ev) :=
  .step (.step (.step (.one (leaveRest_frame s t)) (formPass_frame _ t ev)) (enterOccupied_frame _ t))
    (openFormed_after s t ev)

theorem openPass_openParts (s : State) (t : TrackId) (ev : PairEvent) :
    Frame (openParts t) s (s.openPass t ev) := by
  rw [openPass_eq]
  exact .step (.step (.step (openFormed_frame s t ev) (writeSpeed_frame _ t _)) (startHold_frame _ t))
    (countIn_frame _ t ev)

section Open

variable {s : State} {t : TrackId} (ev : PairEvent) (hnumber : s.store.find s.store.nextPass = none)
  (hroom : s.store.passes.length < 16)

/-- R45, R47: the pacer runs, the speed written to it. -/
theorem openPass_pacer : (s.openPass t ev).pacer t =
    ((s.pacer t).ensureRunning s.siteTime).write (incrementOf ev.speed (s.area t).paceSpacing) := by
  have pacer_eq : ∀ {F : List Part} {u v : State}, Frame F u v → Part.pacer t ∉ F → v.pacer t = u.pacer t :=
    fun h hF => h (.pacer t) hF
  have first : Frame [.control t, .zeroTimer t, .slot t, .store, .alarms, .notices .a, .notices .b, .view .a,
      .view .b] s ((s.leaveRest t).formPass t ev) :=
    .step (.one (leaveRest_frame s t)) (formPass_frame _ t ev)
  have hformed : (s.openFormed t ev).pacer t = (s.pacer t).ensureRunning s.siteTime := by
    have hstart : (((s.leaveRest t).formPass t ev).enterOccupied t).pacer t =
        (((s.leaveRest t).formPass t ev).pacer t).ensureRunning ((s.leaveRest t).formPass t ev).siteTime :=
      PerTrack.get_set _ t _
    rw [pacer_eq (openFormed_after s t ev) (by simp), hstart, pacer_eq first (by simp), first.siteTime_eq]
  have hwrite : ((s.openFormed t ev).writeSpeed t ev.speed).pacer t =
      ((s.openFormed t ev).pacer t).write (incrementOf ev.speed ((s.openFormed t ev).area t).paceSpacing) :=
    PerTrack.get_set _ t _
  rw [openPass_eq, pacer_eq (countIn_frame _ t ev) (by simp), pacer_eq (startHold_frame _ t) (by simp), hwrite,
    hformed, (openFormed_frame s t ev).area_eq]

/-- R45: the pacer of a track on which a pass opens runs, and a stopped one takes its increment at once. -/
theorem openPass_pacer_runs : ((s.openPass t ev).pacer t).running = true ∧
    ((s.pacer t).running = false →
      ((s.openPass t ev).pacer t).active = incrementOf ev.speed (s.area t).paceSpacing) := by
  rw [openPass_pacer, Pacer.write]
  unfold Pacer.ensureRunning
  cases hr : (s.pacer t).running with
  | true =>
    rw [if_pos rfl, hr]
    refine ⟨?_, fun h => nomatch h⟩
    split
    · rfl
    · rfl
  | false => exact ⟨rfl, fun _ => rfl⟩

include hnumber hroom

theorem openFormed_section : (s.openFormed t ev).section t = { (s.leaveRest t).section t with
    ctx := some (s.newContext t s.store.nextPass (directionFrom ev.pairEnd) ev.speed true)
    exitMarks := ⟨[], []⟩
    state := .occupied, approachTimer := none, closeDelay := none, clearTimer := none } := by
  have hstore : (s.leaveRest t).store = s.store := leaveRest_frame s t .store (by simp)
  have hformed := formPass_section (s := s.leaveRest t) (t := t) (ev := ev) (by rwa [hstore]) (by rwa [hstore])
  rw [hstore, newContext_frame (leaveRest_frame s t)] at hformed
  rw [(openFormed_after s t ev).section_eq, State.enterOccupied, (startPacer_frame _ t).section_eq,
    section_setSection, hformed]

/-- R26 to R28, R33: the section of a track on which a pass opens. -/
theorem openPass_section : ∃ storing, (s.openPass t ev).section t = { (s.leaveRest t).section t with
    ctx := some { (s.newContext t s.store.nextPass (directionFrom ev.pairEnd) ev.speed true).countedIn ev.speed with
      storing := storing }
    exitMarks := ⟨[], []⟩
    state := .occupied, approachTimer := none, closeDelay := none, clearTimer := none
    count := (s.section t).count + 1
    queue := (s.section t).queue ++ [AxleEntry.ofCountIn 1 ev]
    holdTimer := some ⟨s.siteTime, holdTime (s.area t).holdDistance ev.speed⟩ } := by
  have hformed := openFormed_section (t := t) ev hnumber hroom
  have hwritten : ((s.openFormed t ev).writeSpeed t ev.speed).section t = (s.openFormed t ev).section t :=
    (writeSpeed_frame _ t _).section_eq
  have hctx : ((s.openFormed t ev).writeSpeed t ev.speed).ctx t =
      some (s.newContext t s.store.nextPass (directionFrom ev.pairEnd) ev.speed true) := by
    rw [State.ctx, hwritten, hformed]
  have hheld := startHold_section hctx
  have hctx' : (((s.openFormed t ev).writeSpeed t ev.speed).startHold t).ctx t =
      some (s.newContext t s.store.nextPass (directionFrom ev.pairEnd) ev.speed true) := by
    rw [State.ctx, hheld]
    exact hctx
  have frame : Frame (openParts t) s (((s.openFormed t ev).writeSpeed t ev.speed).startHold t) :=
    .step (.step (openFormed_frame s t ev) (writeSpeed_frame _ t _)) (startHold_frame _ t)
  obtain ⟨storing, hcounted⟩ := countIn_section ev hctx'
  obtain ⟨hcount, hqueue⟩ := leaveRest_section s t
  refine ⟨storing, ?_⟩
  rw [State.startTimer, frame.siteTime_eq, frame.area_eq] at hcounted
  rw [openPass_eq, hcounted, hheld, hwritten, hformed]
  dsimp only
  rw [hcount, hqueue]
  rfl

/-- R26, R128: the header of the pass stays as the opening wrote it. -/
theorem openPass_opens : OpenAs (s.openPass t ev)
    (s.newHeader t s.store.nextPass (directionFrom ev.pairEnd) ev.time) := by
  have hstore : (s.leaveRest t).store = s.store := leaveRest_frame s t .store (by simp)
  have hformed := formPass_opens (s := s.leaveRest t) (t := t) (ev := ev) (by rwa [hstore]) (by rwa [hstore])
  rw [hstore, newHeader_frame (leaveRest_frame s t)] at hformed
  have after : Frame [.control t, .pacer t, .scanners t] ((s.leaveRest t).formPass t ev)
      (((s.openFormed t ev).writeSpeed t ev.speed).startHold t) :=
    .step (.step (.step (.one (enterOccupied_frame _ t)) (openFormed_after s t ev)) (writeSpeed_frame _ t _))
      (startHold_frame _ t)
  rw [openPass_eq]
  exact ((KeepsOpen.of_store (after .store (by simp))).trans (countIn_keepsOpen _ t ev)) _ rfl hformed

end Open

/-! ### The event (R12, R26) -/

/-- The state of a due rise of an inner sensor that completes its pair's wait on a track at rest (R12, R26). -/
structure OpensNext (s : State) (t : TrackId) (e : SectionEnd) (first stamp : SiteTime) : Prop where
  filter : (s.sensor t e .inner).filter = ⟨true, false, some stamp⟩
  due : (s.area t).debounceTime e .inner ≤ interval stamp s.siteTime
  held : (s.sensor t e .inner).held = false
  alone : (s.sensor t e .outer).filter.pendingSince = none
  pair : s.pair t e = ⟨seenState .outer first, []⟩
  inTime : interval first stamp ≤ (s.area t).pairSpacing e * 3600
  state : (s.section t).state = .idle ∨ (s.section t).state = .approach
  ctx : s.ctx t = none

/-- R12: the inward event that the rise completes. -/
def State.inwardEvent (s : State) (t : TrackId) (e : SectionEnd) (first stamp : SiteTime) : PairEvent :=
  pairedEvent ((s.area t).pairSpacing e) e .outer first stamp

/-- R26: an inward event at rest opens a pass. -/
theorem takeEvent_opens {s : State} {t : TrackId} {ev : PairEvent} (hin : ev.inward = true)
    (h : (s.section t).state = .idle ∨ (s.section t).state = .approach) : s.takeEvent t ev = s.openPass t ev := by
  rcases h with h | h <;> simp [State.takeEvent, h, hin]

theorem confirmDue_opens {s : State} {t : TrackId} {e : SectionEnd} {first stamp : SiteTime}
    (h : OpensNext s t e first stamp) : s.confirmDue t e .inner =
      (s.afterRise s.siteTime stamp t e .inner).openPass t (s.inwardEvent t e first stamp) := by
  have hdraining : (s.section t).state ≠ .draining := by
    rcases h.state with hs | hs <;> simp [hs]
  rw [confirmDue_rise h.filter h.due (by rw [h.pair]) h.alone h.held,
    sensorActivity_elsewhere (by simp [h.ctx]) (by simpa using hdraining),
    offerRise_second (x := .inner) (first := first) (by simp [h.pair, partner]) (by simpa using h.inTime)]
  have hmachine : ∀ u : State, u.pair t e = s.pair t e →
      u.setMachine t e .quiet = u.setPair t e ⟨.quiet, []⟩ := by
    intro u hu
    rw [State.setMachine, hu, h.pair]
  rw [hmachine _ (by simp), takeEvent_opens rfl (by simpa using h.state)]
  simp only [area_setSensor]
  rfl

theorem confirmDue_openParts {s : State} {t : TrackId} {e : SectionEnd} {first stamp : SiteTime}
    (h : OpensNext s t e first stamp) :
    Frame (openParts t) (s.afterRise s.siteTime stamp t e .inner) (s.confirmDue t e .inner) := by
  rw [confirmDue_opens h]
  exact openPass_openParts _ t _

/-- R187: where the present state opens the pass, what a COMMIT has kept is not asked. -/
theorem orAsBefore_opens {s : State} {t : TrackId} {run : State → State}
    (h : ((run s).section t).state.waits = false) : s.orAsBefore t run = run s := by
  unfold State.orAsBefore
  dsimp only
  split
  · rfl
  · rw [h]
    rfl

theorem exec_debounceConfirm_orAsBefore {now : SiteTime} {input : Fin 8} {s : State} {t : TrackId}
    {e : SectionEnd} {x : Role} (hin : sensorOfInput input = (t, e, x)) : exec (.debounceConfirm now input) s =
      .next ((s.atTime now).orAsBefore t fun u => u.confirmDue t e x) := by
  simp [exec, execDebounceConfirm, hin]

/-- A rise that completes a pair's wait at rest, as it stands at its site time. -/
theorem opensNext_of_completesWait {s : State} {now stamp first : SiteTime} {input : Fin 8} {t : TrackId}
    {e : SectionEnd} (h : CompletesWait s now stamp first input t e .inner)
    (hstate : (s.section t).state = .idle ∨ (s.section t).state = .approach) (hctx : s.ctx t = none) :
    OpensNext (s.atTime now) t e first stamp := by
  obtain ⟨-, hfilter, hdue, hheld, halone, hpair, hintime⟩ := h
  exact ⟨hfilter, hdue, hheld, halone, hpair, hintime, hstate, hctx⟩

/-- What a rise has left is what stood before it, but for the sensor's filter and interval and the pair. -/
theorem afterRise_frame (s : State) (now stamp : SiteTime) (t : TrackId) (e : SectionEnd) (x : Role) :
    Frame [.siteTime, .sensors t, .pairs t] s (s.afterRise now stamp t e x) :=
  .step (.step (.one (atTime_frame s now)) (setSensor_frame _ t e x _)) (setPair_frame _ t e _)

/-- What the opening of a pass leaves of the parts it does not change. -/
theorem Frame.opened_state {s u : State} {t : TrackId} (h : Frame (openParts t) s u) :
    u = { s with
      sections := u.sections, pacers := u.pacers, strain := u.strain, scanners := u.scanners,
      contexts := u.contexts, store := u.store, alarms := u.alarms, ports := u.ports } := by
  have htime : u.siteTime = s.siteTime := h .siteTime (by simp)
  have hstation : u.stationTime = s.stationTime := h .stationTime (by simp)
  have hsecond : u.secondStart = s.secondStart := h .secondStart (by simp)
  have hsensors : u.sensors = s.sensors := PerTrack.ext_get fun t => h (.sensors t) (by simp)
  have hpairs : u.pairs = s.pairs := PerTrack.ext_get fun t => h (.pairs t) (by simp)
  have hconfig : u.config = s.config := h.config_eq
  have hchoice : u.choice = s.choice := h .choice (by simp)
  have hpending : u.pending = s.pending := h .pending (by simp)
  cases u
  simp only [State.mk.injEq, true_and]
  exact ⟨htime, hstation, hsecond, hsensors, hpairs, hconfig, hchoice, hpending⟩

/-- R26 to R28, R33, R45, R47: a pass opened on a track from a state, its context, first axle and record. -/
structure PassOpened (s v : State) (t : TrackId) (e : SectionEnd) (first stamp : SiteTime) (c : PassContext)
    (a : AxleEntry) (p : HeldPass) : Prop where
  state : (v.section t).state = .occupied
  count : (v.section t).count = 1
  queue : (v.section t).queue = [a]
  approachTimer : (v.section t).approachTimer = none
  closeDelay : (v.section t).closeDelay = none
  holdTimer : (v.section t).holdTimer = some ⟨s.siteTime, holdTime (s.area t).holdDistance a.v⟩
  axle : a = .ofCountIn 1 (s.inwardEvent t e first stamp)
  ctx : v.ctx t = some c
  context : ∃ storing, c = { (s.newContext t s.store.nextPass (directionFrom e) a.v true).countedIn a.v with
    storing := storing }
  record : v.store.find c.number = some p
  opening : p.opening = (s.newHeader t s.store.nextPass (directionFrom e) stamp).opening
  running : (v.pacer t).running = true
  active : (s.pacer t).running = false → (v.pacer t).active = incrementOf a.v (s.area t).paceSpacing

theorem confirmDue_opened {s : State} {t : TrackId} {e : SectionEnd} {first stamp : SiteTime}
    (h : OpensNext s t e first stamp) (hcount : (s.section t).count = 0) (hqueue : (s.section t).queue = [])
    (hnumber : s.store.find s.store.nextPass = none) (hroom : s.store.passes.length < 16) :
    ∃ c a p, PassOpened s (s.confirmDue t e .inner) t e first stamp c a p := by
  have rise := afterRise_frame s s.siteTime stamp t e .inner
  have hstore : (s.afterRise s.siteTime stamp t e .inner).store = s.store := rise .store (by simp)
  have harea := rise.area_eq (t := t)
  have hsection := rise.section_eq (t := t)
  have hpacer : (s.afterRise s.siteTime stamp t e .inner).pacer t = s.pacer t := rise (.pacer t) (by simp)
  have hn : (s.afterRise s.siteTime stamp t e .inner).store.find
      (s.afterRise s.siteTime stamp t e .inner).store.nextPass = none := by rwa [hstore]
  have hr : (s.afterRise s.siteTime stamp t e .inner).store.passes.length < 16 := by rwa [hstore]
  obtain ⟨storing, hopened⟩ := openPass_section (t := t) (s.inwardEvent t e first stamp) hn hr
  obtain ⟨p, hrecord, hopening⟩ := (openPass_opens (t := t) (s.inwardEvent t e first stamp) hn hr).find
  obtain ⟨hrunning, hactive⟩ := openPass_pacer_runs (s := s.afterRise s.siteTime stamp t e .inner) (t := t)
    (s.inwardEvent t e first stamp)
  rw [hstore, newHeader_frame rise] at hopening hrecord
  rw [hstore, newContext_frame rise, hsection, harea, hcount, hqueue] at hopened
  rw [hpacer, harea] at hactive
  rw [confirmDue_opens h]
  exact ⟨_, _, p, congrArg SectionController.state hopened, congrArg SectionController.count hopened,
    congrArg SectionController.queue hopened, congrArg SectionController.approachTimer hopened,
    congrArg SectionController.closeDelay hopened, congrArg SectionController.holdTimer hopened, rfl,
    congrArg SectionController.ctx hopened, ⟨storing, rfl⟩, hrecord, hopening, hrunning, hactive⟩

/-- R26 to R28: an inward event at rest. -/
theorem inwardEvent_opens {now stamp first : SiteTime} {input : Fin 8} {s : State} {t : TrackId} {e : SectionEnd}
    (h : CompletesWait s now stamp first input t e .inner)
    (hstate : (s.section t).state = .idle ∨ (s.section t).state = .approach) (hctx : s.ctx t = none)
    (hcount : (s.section t).count = 0) (hqueue : (s.section t).queue = [])
    (hnumber : s.store.find s.store.nextPass = none) (hroom : s.store.passes.length < 16) :
    ∃ u c a p, exec (.debounceConfirm now input) s = .next u ∧
      Frame (openParts t) (s.afterRise now stamp t e .inner) u ∧
      PassOpened (s.atTime now) u t e first stamp c a p := by
  have hopens := opensNext_of_completesWait h hstate hctx
  obtain ⟨c, a, p, hopened⟩ := confirmDue_opened hopens hcount hqueue hnumber hroom
  have hwaits : (((s.atTime now).confirmDue t e .inner).section t).state.waits = false := by
    rw [hopened.state]
    rfl
  refine ⟨(s.atTime now).confirmDue t e .inner, c, a, p, ?_, confirmDue_openParts hopens, hopened⟩
  rw [exec_debounceConfirm_orAsBefore h.1, orAsBefore_opens hwaits]

/-! ### An inward event and a COMMIT of one site time (R187, log 39) -/

/-- R187, R191: words 0 to 2 are those of the other area. -/
theorem withSensorsOf_word (a b : TrackArea) (i : Nat) :
    (a.withSensorsOf b).word i = if i < 3 then b.word i else a.word i := by
  have hset : (a.withSensorsOf b).words.toList =
      ((a.words.toList.set 0 (b.word 0)).set 1 (b.word 1)).set 2 (b.word 2) := rfl
  have hlength : a.words.toList.length = 82 := by simp
  rw [TrackArea.word, hset, List.getD_eq_getElem?_getD]
  split
  next hi =>
    interval_cases i <;> simp
  next hi =>
    rw [List.getElem?_set_ne (by omega), List.getElem?_set_ne (by omega), List.getElem?_set_ne (by omega),
      ← List.getD_eq_getElem?_getD]
    rfl

section SensorsOf

variable (a b : TrackArea)

theorem withSensorsOf_field_low {i : Nat} (h : i < 3) (hi lo : Nat) :
    (a.withSensorsOf b).field i hi lo = b.field i hi lo := by
  rw [TrackArea.field, withSensorsOf_word, if_pos h]
  rfl

theorem withSensorsOf_field_high {i : Nat} (h : 3 ≤ i) (hi lo : Nat) :
    (a.withSensorsOf b).field i hi lo = a.field i hi lo := by
  rw [TrackArea.field, withSensorsOf_word, if_neg (Nat.not_lt.mpr h)]
  rfl

theorem withSensorsOf_pairSpacing (e : SectionEnd) : (a.withSensorsOf b).pairSpacing e = b.pairSpacing e := by
  cases e <;> simp [TrackArea.pairSpacing, TrackArea.sensorX, withSensorsOf_field_low]

theorem withSensorsOf_debounceTime (e : SectionEnd) (x : Role) :
    (a.withSensorsOf b).debounceTime e x = b.debounceTime e x := by
  have hcode : (a.withSensorsOf b).debounceCode e x = b.debounceCode e x := by
    cases e <;> cases x <;> simp [TrackArea.debounceCode, withSensorsOf_field_low]
  rw [TrackArea.debounceTime, TrackArea.debounce, hcode]
  rfl

theorem withSensorsOf_profile (d : Direction) : (a.withSensorsOf b).profile d = a.profile d := by
  have hoffset : 3 ≤ profileOffset d := by cases d <;> decide
  have hfield : ∀ k hi lo, (a.withSensorsOf b).field (profileOffset d + k) hi lo =
      a.field (profileOffset d + k) hi lo :=
    fun k hi lo => withSensorsOf_field_high a b (hoffset.trans (Nat.le_add_right _ _)) hi lo
  have hfirst : ∀ hi lo, (a.withSensorsOf b).field (profileOffset d) hi lo = a.field (profileOffset d) hi lo :=
    hfield 0
  simp only [TrackArea.profile, hfield, hfirst]

theorem withSensorsOf_paceSpacing : (a.withSensorsOf b).paceSpacing = a.paceSpacing :=
  withSensorsOf_field_high a b (by decide) _ _

theorem withSensorsOf_holdDistance : (a.withSensorsOf b).holdDistance = a.holdDistance :=
  withSensorsOf_field_high a b (by decide) _ _

end SensorsOf

/-! ### What stood before the COMMIT (R187) -/

section InputsBefore

variable (s : State) (t : TrackId) (x : Coinciding)

theorem sensor_inputsBefore (e : SectionEnd) (y : Role) : (s.inputsBefore t x).sensor t e y =
    { s.sensor t e y with filter := (x.filters.get e).get y } := by
  cases t <;> cases e <;> cases y <;> rfl

theorem sensor_inputsOf (u : State) (e : SectionEnd) (y : Role) : (s.inputsOf u t).sensor t e y =
    { s.sensor t e y with
      filter := (u.sensor t e y).filter, occupiedSince := (u.sensor t e y).occupiedSince } := by
  cases t <;> cases e <;> cases y <;> rfl

theorem filtersOf_get (y : PerEnd (PerRole Sensor)) (e : SectionEnd) (r : Role) :
    ((filtersOf y).get e).get r = ((y.get e).get r).filter := by
  cases e <;> cases r <;> rfl

theorem sensors_ext {s u : State} (h : ∀ t e y, s.sensor t e y = u.sensor t e y) : s.sensors = u.sensors := by
  have hroles : ∀ t e, (s.sensors.get t).get e = (u.sensors.get t).get e := by
    intro t e
    have ho := h t e .outer
    have hi := h t e .inner
    simp only [State.sensor, PerRole.get] at ho hi
    cases hs : (s.sensors.get t).get e
    cases hu : (u.sensors.get t).get e
    simp_all
  refine PerTrack.ext_get fun t => ?_
  have hp := hroles t .p
  have hq := hroles t .q
  cases hs : s.sensors.get t
  cases hu : u.sensors.get t
  simp_all [PerEnd.get]

end InputsBefore

/-- R187: where only what stood before a COMMIT opens the pass, it opens with the inputs as they are. -/
theorem orAsBefore_before {s : State} {t : TrackId} {run : State → State} {x : Coinciding}
    (hx : s.coinciding t = some x) (hwaits : ((run s).section t).state.waits = true)
    (hopens : ((run (s.inputsBefore t x)).section t).state.waits = false) :
    s.orAsBefore t run = (run (s.inputsBefore t x)).inputsOf (run s) t := by
  simp [State.orAsBefore, hx, hwaits, hopens]

theorem confirmDue_none {s : State} {t : TrackId} {e : SectionEnd} {x : Role}
    (h : (s.sensor t e x).filter.pendingSince = none) : s.confirmDue t e x = s := by
  simp [State.confirmDue, h]

theorem atTime_self {s : State} {now : SiteTime} (h : s.siteTime = now) : s.atTime now = s := by
  subst h
  rfl

/-- R187: a track after the first COMMIT of a site time that changes its area. -/
theorem committedFirst_leaves {s u : State} {now : SiteTime} {t : TrackId} (h : CommittedFirst s u now t) :
    u.siteTime = now ∧ u.store = s.store ∧ u.pacers = s.pacers ∧
      Promoted s u now t (s.config.tracks.get t).staged (nextGeneration s.config.generation) ∧
      ∃ approach, u.section t = { s.section t with
        coinciding := some ((s.atTime now).beforePromotion t), approach := approach } := by
  obtain ⟨hidle, hsettled, hvalid, hchanges, p, bytes, hcompletes, hexec⟩ := h
  obtain ⟨u', hu, same, frame, -⟩ := exec_commit_areas (now := now) hcompletes hvalid
  obtain rfl : u' = u := Host.Outcome.next.inj (hu.symm.trans hexec)
  have hr : ((s.atTime now).section t).state.atRest = true := by
    rw [atRest_iff]
    exact .inr (.inr hidle)
  have whole : Frame (.siteTime :: .transaction p :: .generation :: promoteParts) s u' :=
    .step (.step (.one (atTime_frame s now)) (commitConfig_frame _)) frame
  have htime : u'.siteTime = now :=
    Eq.trans (frame .siteTime (by simp)) (commitConfig_frame (s.atTime now) .siteTime (by simp))
  have hkept := prepared_section (s.atTime now) t
  rw [if_pos ⟨hchanges, hidle, coinciding_of_settled hsettled⟩] at hkept
  have hsection := commitConfig_section_promoted (s := s.atTime now) (t := t) hchanges hr (by
    rw [section_atTime, hidle]
    exact TrackState.noConfusion)
  rw [hkept] at hsection
  exact ⟨htime, whole .store (by simp), whole.pacers_eq (by simp),
    (commitConfig_promoted (s := s.atTime now) hchanges hr).keeps (same t), _, (same t).section.trans hsection⟩

/-- R4: the COMMIT has cancelled the pending rise. -/
theorem confirmDue_committedFirst {s u : State} {now : SiteTime} {t : TrackId}
    (hcommit : CommittedFirst s u now t) (e : SectionEnd) : u.confirmDue t e .inner = u := by
  obtain ⟨-, -, -, hpromoted, -⟩ := committedFirst_leaves hcommit
  obtain ⟨-, -, -, -, -, hsensors, -⟩ := hpromoted
  exact confirmDue_none (by rw [hsensors e .inner])

theorem coinciding_committedFirst {s u : State} {now : SiteTime} {t : TrackId}
    (hcommit : CommittedFirst s u now t) : u.coinciding t = some ((s.atTime now).beforePromotion t) := by
  obtain ⟨htime, -, -, -, approach, hsection⟩ := committedFirst_leaves hcommit
  have hwaits : (s.section t).state.waits = true := by rw [hcommit.1]; rfl
  simp only [State.coinciding, hsection, htime]
  rw [hwaits]
  simp [State.beforePromotion, State.atTime]

/-- A rise leaves the indications of the sensors. -/
theorem afterRise_indications (s : State) (now stamp : SiteTime) (t : TrackId) (e : SectionEnd) (x : Role)
    (e' : SectionEnd) (y : Role) :
    ((s.afterRise now stamp t e x).sensor t e' y).held = (s.sensor t e' y).held ∧
      ((s.afterRise now stamp t e x).sensor t e' y).suspect = (s.sensor t e' y).suspect := by
  cases t <;> cases e <;> cases x <;> cases e' <;> cases y <;> exact ⟨rfl, rfl⟩

/-- R187: the inputs, the pair machines and the configuration stay as the promotion has left them. -/
theorem inputsOf_keeps {u v : State} {t : TrackId} {x : Coinciding} {e : SectionEnd} {time stamp : SiteTime}
    (h : Frame (openParts t) ((u.inputsBefore t x).afterRise time stamp t e .inner) v) :
    (v.inputsOf u t).config = u.config ∧ (v.inputsOf u t).sensors = u.sensors ∧
      (v.inputsOf u t).pairs = u.pairs ∧
      (v.inputsOf u t).section (otherTrack t) = u.section (otherTrack t) := by
  have rise := afterRise_frame (u.inputsBefore t x) time stamp t e .inner
  have before := inputsBefore_frame u t x
  have inputs := inputsOf_frame v u t
  have whole : Frame (.siteTime :: .sensors t :: .pairs t :: .area t :: openParts t) u (v.inputsOf u t) :=
    .step (.step (.step (.one before) rise) h) inputs
  refine ⟨?config, sensors_ext fun o e' y => ?sensor, PerTrack.ext_get fun o => ?pair,
    whole.section_eq (by simp [(ne_otherTrack t).symm])⟩
  case config =>
    refine ConfigStore.ext (whole .generation (by simp)) (whole .site (by simp)) (PerTrack.ext_get fun o => ?_)
    by_cases ho : o = t
    · subst ho
      exact PerTrack.get_set _ o _
    · exact whole (.area o) (by simp [ho])
  case sensor =>
    by_cases ho : o = t
    · subst ho
      have hv : v.sensor o e' y = ((u.inputsBefore o x).afterRise time stamp o e .inner).sensor o e' y :=
        h.sensor_eq e' y
      obtain ⟨hheld, hsuspect⟩ := afterRise_indications (u.inputsBefore o x) time stamp o e .inner e' y
      rw [sensor_inputsOf, hv, Sensor.mk.injEq]
      exact ⟨rfl, rfl, hheld.trans (by rw [sensor_inputsBefore]), hsuspect.trans (by rw [sensor_inputsBefore])⟩
    · exact whole.sensor_eq e' y (by simp [ho])
  case pair =>
    by_cases ho : o = t
    · subst ho
      exact PerTrack.get_set _ o _
    · exact whole (.pairs o) (by simp [ho])

/-- R187: the state by which an event after the COMMIT is judged: the new image with the sensors of the one
before it, and the rest as the COMMIT found or left it. -/
structure StoodBefore (s u w : State) (now : SiteTime) (t : TrackId) : Prop where
  time : w.siteTime = now
  area : w.area t = (s.config.tracks.get t).staged.withSensorsOf (s.area t)
  generation : (w.config.tracks.get t).activeGeneration = nextGeneration s.config.generation
  site : w.config.site = u.config.site
  ambient : w.strain.ambient = u.strain.ambient
  store : w.store = s.store
  pacer : w.pacer t = s.pacer t

theorem inputsBefore_stoodBefore {s u : State} {now : SiteTime} {t : TrackId} (hcommit : CommittedFirst s u now t) :
    StoodBefore s u (u.inputsBefore t ((s.atTime now).beforePromotion t)) now t := by
  obtain ⟨htime, hstore, hpacers, ⟨harea, hgeneration, -⟩, -⟩ := committedFirst_leaves hcommit
  exact ⟨htime, (area_inputsBefore u t _).trans (by rw [harea]; rfl),
    (congrArg AreaStore.activeGeneration (PerTrack.get_set _ t _)).trans hgeneration, rfl, rfl, hstore,
    congrArg (fun x => PerTrack.get x t) hpacers⟩

section Tie

variable {s u : State} {now stamp first : SiteTime} {input : Fin 8} {t : TrackId} {e : SectionEnd}
  (h : CompletesWait s now stamp first input t e .inner) (hcommit : CommittedFirst s u now t)
include h hcommit

/-- R187: the rise that the COMMIT has cancelled is still due by what stood before it. -/
theorem opensNext_inputsBefore (hctx : s.ctx t = none) :
    OpensNext (u.inputsBefore t ((s.atTime now).beforePromotion t)) t e first stamp := by
  obtain ⟨htime, -, -, hpromoted, approach, hsection⟩ := committedFirst_leaves hcommit
  obtain ⟨-, hfilter, hdue, hheld, halone, hpair, hintime⟩ := h
  obtain ⟨-, -, -, -, -, hsensors, -⟩ := hpromoted
  have hfilters : ∀ y, ((u.inputsBefore t ((s.atTime now).beforePromotion t)).sensor t e y).filter =
      (s.sensor t e y).filter := by
    intro y
    rw [sensor_inputsBefore]
    exact filtersOf_get _ e y
  have harea : (u.inputsBefore t ((s.atTime now).beforePromotion t)).area t = (u.area t).withSensorsOf (s.area t) :=
    area_inputsBefore u t _
  refine ⟨(hfilters .inner).trans hfilter, ?_, ?_, ?_, ?_, ?_, .inl ?_, ?_⟩
  · rw [harea, withSensorsOf_debounceTime]
    exact htime ▸ hdue
  · rw [sensor_inputsBefore, hsensors e .inner]
    simp [hheld]
  · rw [hfilters]
    exact halone
  · rw [pair_inputsBefore]
    exact hpair
  · rw [harea, withSensorsOf_pairSpacing]
    exact hintime
  · rw [section_inputsBefore, hsection]
    exact hcommit.1
  · rw [ctx_inputsBefore, State.ctx, hsection]
    exact hctx

/-- R187: the pass that the event opens, by the image that the COMMIT promoted; the inputs stay as they are. -/
theorem inwardEvent_afterCommit (hctx : s.ctx t = none) (hcount : (s.section t).count = 0)
    (hqueue : (s.section t).queue = []) (hnumber : s.store.find s.store.nextPass = none)
    (hroom : s.store.passes.length < 16) :
    ∃ w v c a p, exec (.debounceConfirm now input) u = .next (v.inputsOf u t) ∧ StoodBefore s u w now t ∧
      PassOpened w v t e first stamp c a p ∧ (v.inputsOf u t).config = u.config ∧
      (v.inputsOf u t).sensors = u.sensors ∧ (v.inputsOf u t).pairs = u.pairs ∧
      (v.inputsOf u t).section (otherTrack t) = u.section (otherTrack t) := by
  obtain ⟨htime, -, -, -, approach, hsection⟩ := committedFirst_leaves hcommit
  have hopens := opensNext_inputsBefore h hcommit hctx
  have hstood := inputsBefore_stoodBefore hcommit
  rw [← hstood.store] at hnumber hroom
  obtain ⟨c, a, p, hopened⟩ := confirmDue_opened hopens (by rw [section_inputsBefore, hsection]; exact hcount)
    (by rw [section_inputsBefore, hsection]; exact hqueue) hnumber hroom
  have hself := confirmDue_committedFirst hcommit e
  have hwaits : ((u.confirmDue t e .inner).section t).state.waits = true := by
    rw [hself, hsection]
    exact congrArg TrackState.waits hcommit.1
  have hkeeps := inputsOf_keeps (confirmDue_openParts hopens)
  refine ⟨_, _, c, a, p, ?_, hstood, hopened, hkeeps⟩
  rw [exec_debounceConfirm_orAsBefore h.1, atTime_self htime,
    orAsBefore_before (run := fun u => u.confirmDue t e .inner) (coinciding_committedFirst hcommit) hwaits
      (by rw [hopened.state]; rfl), hself]

end Tie

/-! ### The statement -/

theorem directionFrom_eq (e : SectionEnd) : directionFrom e = (match e with
    | .p => .pq
    | .q => .qp) := by
  cases e <;> rfl

/-- Settles O20, by the opening of a pass from the state before the event, and by the state that a COMMIT of the
same site time has kept. -/
theorem inwardEventOpensAPass : Obligations.InwardEventOpensAPass := by
  refine ⟨fun now stamp first input s t e h hstate hctx hcount hqueue hnumber hroom => ?_,
    fun now stamp first input s u t e h hcommit hctx hcount hqueue hnumber hroom => ?_⟩
  · obtain ⟨u, c, a, p, hexec, frame, hopened⟩ :=
      inwardEvent_opens h hstate hctx hcount hqueue hnumber hroom
    obtain ⟨storing, hcontext⟩ := hopened.context
    have haxle := hopened.axle
    have hopening := hopened.opening
    have rise := afterRise_frame s now stamp t e .inner
    have hother := (ne_otherTrack t).symm
    have hscanners : u.scanners.get (otherTrack t) = s.scanners.get (otherTrack t) :=
      Eq.trans (frame (.scanners (otherTrack t)) (by simp [hother])) (rise (.scanners _) (by simp))
    have hdirection : c.direction = directionFrom e := by rw [hcontext]; rfl
    simp only [HeldPass.opening, Prod.mk.injEq] at hopening
    obtain ⟨htrack, hpdirection, hpstate, hopenSite, hopenStation, -, -⟩ := hopening
    refine ⟨u, c, a, p, hexec, frame.opened_state, hopened.state, hopened.count, hopened.queue,
      hopened.approachTimer, hopened.closeDelay, by rw [haxle]; rfl, by rw [haxle]; rfl, by rw [haxle]; rfl,
      by rw [haxle]; rfl, hopened.ctx, by rw [hcontext]; rfl, hdirection.trans (directionFrom_eq e),
      by rw [hcontext]; rfl, by rw [hcontext]; rfl, by rw [hcontext]; rfl, by rw [hcontext]; rfl,
      ?_, hopened.record, hpstate, htrack, hpdirection.trans hdirection.symm, hopenSite, hopenStation,
      hopened.running, ?_, ?_, ?_, fun n => congrArg (fun x => PerScanner.get x n) hscanners⟩
    · rw [hdirection, hcontext]
      rfl
    · exact (frame.section_eq (by simp [hother])).trans rise.section_eq
    · exact Eq.trans (frame (.pacer _) (by simp [hother])) (rise (.pacer _) (by simp))
    · exact Eq.trans (frame (.context _) (by simp [hother])) (rise (.context _) (by simp))
  · intro generation image
    obtain ⟨-, -, -, ⟨harea, -⟩, approach, hsection⟩ := committedFirst_leaves hcommit
    obtain ⟨w, v, c, a, p, hexec, hstood, hopened, hconfig, hsensors, hpairs, hothers⟩ :=
      inwardEvent_afterCommit h hcommit hctx hcount hqueue hnumber hroom
    obtain ⟨storing, hcontext⟩ := hopened.context
    have haxle := hopened.axle
    have hopening := hopened.opening
    have hactive := hopened.active
    have hhold := hopened.holdTimer
    simp only [HeldPass.opening, Prod.mk.injEq] at hopening
    obtain ⟨htrack, -, hpstate, -, -, hptrack, hpsite⟩ := hopening
    rw [hstood.pacer, hstood.area, withSensorsOf_paceSpacing] at hactive
    rw [hstood.time, hstood.area, withSensorsOf_holdDistance] at hhold
    have hspacing : (w.area t).pairSpacing e = (s.area t).pairSpacing e := by
      rw [hstood.area, withSensorsOf_pairSpacing]
    have hprofile : c.profile = (w.area t).profile c.direction := by rw [hcontext]; rfl
    have hsite : c.siteGeneration = w.config.site.activeGeneration := by rw [hcontext]; rfl
    refine ⟨harea, by rw [hsection]; exact hcommit.1, v.inputsOf u t, c, a, p, hexec, hopened.state,
      hopened.count, hopened.queue, by rw [haxle]; rfl, by rw [haxle]; rfl, by rw [← hspacing, haxle]; rfl,
      hopened.ctx,
      by rw [hcontext, ← hstood.store]; rfl, by rw [hcontext]; rfl, ?profile,
      by rw [hcontext]; exact hstood.generation, by rw [hsite, hstood.site],
      by rw [hcontext, ← hstood.ambient]; rfl, hopened.record, hpstate, htrack, hptrack.trans hstood.generation,
      hpsite.trans hsite.symm, hopened.running, hactive, hhold, hconfig, hsensors, hpairs, hothers⟩
    case profile =>
      rw [hprofile, hstood.area, withSensorsOf_profile]

end Sys2Proof.Machine
end

section
/-! PROOFS. The state after a full reset: the invariants that it meets, and the values that the spec gives. -/

namespace Sys2Proof.Machine

open Sys2Proof

/-! ### The invariants -/

/-- Settles O10. -/
theorem invariantsHoldAtReset : Obligations.InvariantsHoldAtReset := by
  unfold Obligations.InvariantsHoldAtReset
  decide

/-! ### The default images (R177 to R180) -/

/-- R179: the sensors, bays and scanners of the default image. -/
theorem default_sensor (e : SectionEnd) (x : Role) :
    TrackArea.default.sensorX e x = 0 ∧ TrackArea.default.debounce e x = some 100 := by
  cases e <;> cases x <;> exact ⟨rfl, rfl⟩

theorem default_bay (rail : Rail) (b : Fin 8) : TrackArea.default.bay rail b = ⟨false, 0, 0, 0, 65536, 0⟩ := by
  cases rail <;> fin_cases b <;> rfl

theorem default_scanner (n : ScannerName) :
    TrackArea.default.scannerX n = 0 ∧ TrackArea.default.gateHalf n = 200 := by
  cases n <;> exact ⟨rfl, rfl⟩

/-- R180: the defaults of a profile. -/
theorem default_profile (d : Direction) : TrackArea.default.profile d = {
    bandLower := 50, bandUpper := 1600, nMin := 6, minLines := 3, diffMinAxles := 8,
    impactWarning := 28000, impactAlarm := 35000, ratioWarning := 180, hotWheel := 2500,
    axleAlarm := 34300, imbalanceLower := 380, imbalanceUpper := 620, bearingWarm := 600,
    bearingHot := 900, bearingDiff := 500, bearingCross := 400 } := by
  cases d <;> rfl

/-- R178: a vehicle type of the default image. -/
theorem default_vehicleType {i : Nat} (h : i < 32) : SiteArea.default.vehicleType i =
    ⟨false, 1, 3, 2, List.replicate 7 (0, 0), 0, false, 0⟩ := by
  interval_cases i <;> rfl

/-- R178: a routing entry of the default image. -/
theorem default_routingEntry {i : Nat} (h : i < 16) : SiteArea.default.routingEntry i =
    ⟨false, none, 1, none, none, none, 0, .latch⟩ := by
  interval_cases i <;> rfl

theorem default_lineTimes (i : Fin 8) : SiteArea.default.pulseTime i = 1000000 ∧
    SiteArea.default.recoveryTime i = 1000000 := by
  fin_cases i <;> exact ⟨rfl, rfl⟩

/-! ### The values after a full reset -/

/-- R179, R180: what the statement asks of a track area that is the default image. -/
theorem reset_trackArea {t : TrackId} {a : TrackArea}
    (h : a ∈ [(State.reset.config.tracks.get t).staged, (State.reset.config.tracks.get t).active]) :
    a = .default := by
  cases t <;> simpa [State.reset, ConfigStore.reset, PerTrack.get] using h

theorem reset_siteArea {a : SiteArea} (h : a ∈ [State.reset.config.site.staged, State.reset.config.site.active]) :
    a = .default := by
  simpa [State.reset, ConfigStore.reset] using h

/-- R60, R73, R74: no bay has a working zero or is DRIFTED. -/
theorem reset_bay (t : TrackId) (rail : Rail) (b : Fin 8) :
    State.reset.zero t rail b = none ∧ State.reset.isDrifted t rail b = false := by
  cases t <;> cases rail <;> fin_cases b <;> exact ⟨rfl, rfl⟩

/-- Settles O12. -/
theorem resetLeavesTheSpecValues : Obligations.ResetLeavesTheSpecValues := by
  refine ⟨fun t => ?_, rfl, rfl, rfl, rfl, rfl, rfl, rfl, rfl, rfl, rfl, ?lines, rfl, rfl, ?site, ?ports, rfl, rfl,
    rfl⟩
  case lines => exact fun i => by fin_cases i <;> exact ⟨rfl, rfl⟩
  case ports => exact fun p => by cases p <;> exact ⟨rfl, rfl, rfl⟩
  case site =>
    intro a ha
    obtain rfl := reset_siteArea ha
    refine ⟨fun vt hvt => ?_, fun x hx => ?_, rfl, default_lineTimes, rfl, rfl, rfl⟩
    · obtain ⟨i, hi, rfl⟩ := List.mem_map.mp hvt
      rw [default_vehicleType (List.mem_range.mp hi)]
      exact ⟨rfl, rfl, rfl, rfl, rfl, rfl, rfl, rfl⟩
    · obtain ⟨i, hi, rfl⟩ := List.mem_map.mp hx
      exact default_routingEntry (List.mem_range.mp hi)
  have hsection : State.reset.section t = .reset := by cases t <;> rfl
  have hpacer : State.reset.pacer t = .reset := by cases t <;> rfl
  have hscanner : ∀ n, State.reset.scanner t n = .reset := fun n => by cases t <;> cases n <;> rfl
  have hconfig : State.reset.config.tracks.get t = ⟨.default, .default, 0, none⟩ := by cases t <;> rfl
  have hpair : ∀ e, State.reset.pair t e = ⟨.quiet, []⟩ := fun e => by cases t <;> cases e <;> rfl
  have hsensor : ∀ e x, State.reset.sensor t e x = .reset := fun e x => by
    cases t <;> cases e <;> cases x <;> rfl
  rw [hsection, hpacer]
  refine ⟨rfl, rfl, rfl, rfl, rfl, rfl, rfl, rfl, rfl, rfl, rfl, rfl, rfl, rfl, rfl, rfl,
    fun n => by rw [hscanner n]; exact ⟨rfl, rfl, rfl, rfl, rfl, rfl, rfl, rfl⟩, by cases t <;> rfl,
    by cases t <;> rfl, by rw [hconfig], by rw [hconfig], fun a ha => ?areas, reset_bay t, by cases t <;> rfl,
    by cases t <;> rfl, fun e => ⟨by rw [hpair e], fun x => by rw [hsensor e x]; exact ⟨rfl, rfl⟩⟩⟩
  case areas =>
    obtain rfl := reset_trackArea ha
    exact ⟨default_sensor, rfl, default_bay, default_scanner, rfl, rfl, rfl, rfl, rfl, rfl, rfl, rfl, rfl, rfl, rfl,
      default_profile⟩

end Sys2Proof.Machine
end

section
/-! PROOFS. What recording a pass can do to the pass store and the alarm list (R127 to R136, R144, R145), said
once: every operation on the axles and vehicles of a track's pass is a run of the few writes below, each of which
names the pass it touches. -/

namespace Sys2Proof.Machine

open Sys2Proof

/-! ### What a write leaves of a held pass -/

/-- An axle record but for its vehicle and its spacing. -/
def AxleRecord.results (a : AxleRecord) : AxleRecord := { a with vehicle := none, spacing := none }

/-- A held pass but for what noting alarms and vehicles changes. -/
def HeldPass.kept (p : HeldPass) : HeldPass := { p with
  alarmCount := 0
  flags := { PassFlags.clear with countMismatch := p.flags.countMismatch }
  axles := p.axles.map AxleRecord.results
  vehicles := []
  axleChunks := 0
  vehicleChunks := 0 }

/-- A held pass but for its records, too. -/
def HeldPass.header (p : HeldPass) : HeldPass := { p.kept with axles := [] }

/-- R136: a reclaim may pick the pass. -/
def HeldPass.releasable (p : HeldPass) : Bool := p.fullyReleased || p.partlyReleased

theorem header_of_kept {p q : HeldPass} (h : q.kept = p.kept) : q.header = p.header :=
  congrArg (fun x : HeldPass => { x with axles := [] }) h

theorem releasable_of_header {p q : HeldPass} (h : q.header = p.header) : q.releasable = p.releasable := by
  have hstate : q.state = p.state := (congrArg HeldPass.state h :)
  have hretention : q.retention = p.retention := (congrArg HeldPass.retention h :)
  have hrelease : q.release = p.release := (congrArg HeldPass.release h :)
  simp only [HeldPass.releasable, HeldPass.fullyReleased, HeldPass.partlyReleased, hstate, hretention, hrelease]

theorem releasable_of_open {p : HeldPass} (h : p.state ≠ .closed) : p.releasable = false := by
  simp [HeldPass.releasable, HeldPass.fullyReleased, HeldPass.partlyReleased, h]

/-- R130, R131, R136: what an operation may do beside noting alarms, flags and vehicles: write results into axle
records, append axle records, reclaim passes. -/
inductive Kind where
  | result | append | reclaim
  deriving DecidableEq

/-- A change of a held pass that notes alarms, flags or vehicles. -/
structure Notes (f : HeldPass → HeldPass) : Prop where
  kept : ∀ p, (f p).kept = p.kept
  axleChunks : ∀ p, (f p).axleChunks = p.axleChunks
  vehicleChunks : ∀ p, (f p).vehicleChunks = p.vehicleChunks

/-- One write for a pass of track `t`, of a number in `K`, of the kinds in `F`. -/
inductive Write (t : TrackId) (K : Nat → Prop) (F : List Kind) : State → State → Prop where
  /-- The store, the alarm unit and the ports' views stay. -/
  | still {s u : State} (hstore : u.store = s.store) (halarms : u.alarms = s.alarms)
      (hviews : ∀ p, (u.port p).view = (s.port p).view) : Write t K F s u
  /-- An alarm is raised. -/
  | raise (s : State) (a : Alarm) (ht : a.track = t) (hk : K a.pass) : Write t K F s (s.raise a)
  /-- Something is noted of the pass. -/
  | note (s : State) (k : Nat) (f : HeldPass → HeldPass) (hk : K k) (hf : Notes f) :
      Write t K F s (s.updatePass t k f)
  /-- A result is written into an axle record. -/
  | result (s : State) (k i : Nat) (f : AxleRecord → AxleRecord) (hk : K k) (hF : Kind.result ∈ F)
      (hf : ∀ a, (f a).index = a.index) : Write t K F s (s.updateAxle t k i f)
  /-- An axle record is appended. -/
  | append (s : State) (k : Nat) (e : AxleEntry) (hk : K k) (hF : Kind.append ∈ F) :
      Write t K F s (s.writeAxle t k e)
  /-- An axle chunk is given. -/
  | axleChunk (s : State) (k : Nat) (hk : K k) (hfree : 0 < s.store.freeAxleChunks)
      (held : (s.store.ofTrack t k).isSome = true) : Write t K F s (s.takeAxleChunk t k)
  /-- A vehicle chunk is given. -/
  | vehicleChunk (s : State) (k : Nat) (hk : K k) (hfree : 0 < s.store.freeVehicleChunks)
      (held : (s.store.ofTrack t k).isSome = true) : Write t K F s (s.takeVehicleChunk t k)
  /-- A pass is reclaimed. -/
  | reclaim (s : State) (p : HeldPass) (tier2 : Bool) (hp : p ∈ s.store.passes) (hr : p.releasable = true)
      (hF : Kind.reclaim ∈ F) : Write t K F s (s.reclaim p tier2)

/-- Any run of writes. -/
def Writes (t : TrackId) (K : Nat → Prop) (F : List Kind) : State → State → Prop :=
  Relation.ReflTransGen (Write t K F)

section Runs

variable {t : TrackId} {K L : Nat → Prop} {F G : List Kind} {s u v : State}

theorem Writes.refl (t : TrackId) (K : Nat → Prop) (F : List Kind) (s : State) : Writes t K F s s :=
  Relation.ReflTransGen.refl

theorem Writes.trans (h : Writes t K F s u) (k : Writes t K F u v) : Writes t K F s v :=
  Relation.ReflTransGen.trans h k

theorem Writes.one (h : Write t K F s u) : Writes t K F s u := Relation.ReflTransGen.single h

theorem Write.mono (hK : ∀ n, K n → L n) (hF : F ⊆ G) (h : Write t K F s u) : Write t L G s u := by
  cases h with
  | still hstore halarms hviews => exact .still hstore halarms hviews
  | raise a ht hk => exact .raise s a ht (hK _ hk)
  | note k f hk hf => exact .note s k f (hK k hk) hf
  | result k i f hk h1 hf => exact .result s k i f (hK k hk) (hF h1) hf
  | append k e hk h1 => exact .append s k e (hK k hk) (hF h1)
  | axleChunk k hk hfree held => exact .axleChunk s k (hK k hk) hfree held
  | vehicleChunk k hk hfree held => exact .vehicleChunk s k (hK k hk) hfree held
  | reclaim p tier2 hp hr h1 => exact .reclaim s p tier2 hp hr (hF h1)

theorem Writes.mono (h : Writes t K F s u) (hK : ∀ n, K n → L n) (hF : F ⊆ G) : Writes t L G s u :=
  Relation.ReflTransGen.mono (fun _ _ => Write.mono hK hF) _ _ h

theorem Writes.allow (h : Writes t K F s u) (hF : F ⊆ G := by simp) : Writes t K G s u :=
  h.mono (fun _ k => k) hF

theorem Writes.of_frame {P : List Part} (h : Frame P s u) (hs : Part.store ∉ P := by simp)
    (ha : Part.alarms ∉ P := by simp) (hviews : ∀ p, Part.view p ∉ P := by simp) : Writes t K F s u :=
  .one (.still (h .store hs) (h .alarms ha) fun p => h (.view p) (hviews p))

end Runs

/-! ### What a run of writes keeps -/

/-- What the writes of kinds `F` on track `t` may make of the held pass of a track and number. -/
structure Written (t : TrackId) (K : Nat → Prop) (F : List Kind) (o : TrackId) (n : Nat) (p q : HeldPass) :
    Prop where
  header : q.header = p.header
  kept : Kind.result ∉ F → Kind.append ∉ F → q.kept = p.kept
  axles : Kind.append ∉ F → q.axles.map (fun a => a.index) = p.axles.map fun a => a.index
  same : o ≠ t ∨ ¬K n → q = p

section Kept

variable {t : TrackId} {K : Nat → Prop} {F : List Kind} {o : TrackId} {n : Nat}

theorem Written.refl (p : HeldPass) : Written t K F o n p p := ⟨rfl, fun _ _ => rfl, fun _ => rfl, fun _ => rfl⟩

theorem Written.trans {p q r : HeldPass} (h : Written t K F o n p q) (k : Written t K F o n q r) :
    Written t K F o n p r :=
  ⟨k.header.trans h.header, fun h1 h2 => (k.kept h1 h2).trans (h.kept h1 h2),
    fun h1 => (k.axles h1).trans (h.axles h1), fun h1 => (k.same h1).trans (h.same h1)⟩

theorem index_results (l : List AxleRecord) :
    (l.map AxleRecord.results).map (fun a => a.index) = l.map fun a => a.index := by
  rw [List.map_map]
  rfl

/-- A pass of which something is noted. -/
theorem Written.of_kept {p q : HeldPass} (h : q.kept = p.kept) (hsame : o ≠ t ∨ ¬K n → q = p) :
    Written t K F o n p q :=
  ⟨header_of_kept h, fun _ _ => h, fun _ => by
    rw [← index_results q.axles, ← index_results p.axles]
    exact congrArg (fun x : HeldPass => x.axles.map fun a => a.index) h, hsame⟩

end Kept

theorem ofTrack_updateOfTrack {st : PassStore} {f : HeldPass → HeldPass} (hn : ∀ p, (f p).number = p.number)
    (ht : ∀ p, (f p).track = p.track) (t o : TrackId) (k n : Nat) :
    (st.updateOfTrack t k f).ofTrack o n =
      (st.ofTrack o n).map fun p => if p.number = k ∧ p.track = t then f p else p := by
  rw [PassStore.ofTrack, PassStore.updateOfTrack, PassStore.ofTrack, List.find?_map]
  congr 1
  refine congrArg (fun q => List.find? q st.passes) (funext fun p => ?_)
  rw [Function.comp_apply]
  split
  · rw [hn, ht]
  · rfl

/-- R127, R136: what a reclaim leaves of the held passes. -/
theorem ofTrack_drop {st : PassStore} {p : HeldPass} (o : TrackId) (n : Nat) :
    (st.drop p).ofTrack o n = if n = p.number then none else st.ofTrack o n := by
  rw [PassStore.ofTrack, PassStore.drop, List.find?_filter]
  split
  · next h =>
    refine List.find?_eq_none.mpr fun x _ => ?_
    simp only [Bool.and_eq_true, decide_eq_true_eq]
    rintro ⟨h1, h2, -⟩
    exact h1 (h2.trans h)
  · next h =>
    refine congrArg (fun q => List.find? q st.passes) (funext fun x => ?_)
    by_cases hx : x.number = n
    · simp [hx, h]
    · simp [hx]

/-- R127: no two held passes have one number. -/
theorem eq_of_number {st : PassStore} (h : st.poolsOk = true) {p q : HeldPass} (hp : p ∈ st.passes)
    (hq : q ∈ st.passes) (hn : p.number = q.number) : p = q :=
  List.inj_on_of_nodup_map ((PassStore.poolsOk_iff st).mp h).2.1 hp hq hn

theorem find_iff_mem {st : PassStore} (h : st.poolsOk = true) {n : Nat} {p : HeldPass} :
    st.find n = some p ↔ p ∈ st.passes ∧ p.number = n := by
  refine ⟨PassStore.find_some, fun ⟨hp, hn⟩ => ?_⟩
  cases hf : st.find n with
  | none => exact absurd hn (PassStore.find_none.mp hf p hp)
  | some q =>
    obtain ⟨hq, hqn⟩ := PassStore.find_some hf
    rw [eq_of_number h hq hp (hqn.trans hn.symm)]

theorem ofTrack_iff_mem {st : PassStore} (h : st.poolsOk = true) {o : TrackId} {n : Nat} {p : HeldPass} :
    st.ofTrack o n = some p ↔ p ∈ st.passes ∧ p.number = n ∧ p.track = o :=
  ⟨PassStore.ofTrack_some, fun ⟨hp, hn, ht⟩ =>
    PassStore.ofTrack_of_find ((find_iff_mem h).mpr ⟨hp, hn⟩) ht ((PassStore.poolsOk_iff st).mp h).2.1⟩

theorem ofTrack_iff_find {st : PassStore} (h : st.poolsOk = true) {o : TrackId} {n : Nat} {p : HeldPass} :
    st.ofTrack o n = some p ↔ st.find n = some p ∧ p.track = o := by
  rw [ofTrack_iff_mem h, find_iff_mem h, and_assoc]

/-- R144, R145: of two states of the alarm unit, the second keeps the numbers, LIST_FULL and the unacknowledged
records of the first. -/
structure AlarmUnit.Grows (x y : AlarmUnit) : Prop where
  next : x.next ≤ y.next
  listFull : x.listFull = true → y.listFull = true
  listed : ∀ r ∈ x.list, r.acknowledged = none → r ∈ y.list

theorem AlarmUnit.Grows.of_eq {x y : AlarmUnit} (hlist : y.list = x.list) (hnext : y.next = x.next)
    (hfull : y.listFull = x.listFull) : x.Grows y :=
  ⟨hnext.ge, fun h => hfull.trans h, fun _ hr _ => hlist.symm ▸ hr⟩

theorem AlarmUnit.Grows.trans {x y z : AlarmUnit} (h : x.Grows y) (k : y.Grows z) : x.Grows z :=
  ⟨h.next.trans k.next, k.listFull ∘ h.listFull, fun r hr ha => k.listed r (h.listed r hr ha) ha⟩

/-! ### One write -/

section Write

variable {t : TrackId} {K : Nat → Prop} {F : List Kind} {s u : State}

theorem Write.poolsOk (h : Write t K F s u) (hs : s.store.poolsOk = true) : u.store.poolsOk = true := by
  have moves {v : State} : Moves s v → v.store.poolsOk = true := fun hmoves =>
    Moves.keeps (fun _ _ h => h.poolsOk) hmoves hs
  cases h with
  | still hstore => rwa [hstore]
  | raise a => exact (Move.raise s a).poolsOk hs
  | note k f hk hf =>
    exact PassStore.updateOfTrack_poolsOk (fun p => (congrArg HeldPass.number (hf.kept p) :)) hf.axleChunks
      hf.vehicleChunks hs
  | result k i f => exact moves (updateAxle_moves s t k i f)
  | append k e => exact moves (writeAxle_moves s t k e)
  | axleChunk k hk hfree held => exact takeAxleChunk_poolsOk t k hfree held hs
  | vehicleChunk k hk hfree held => exact takeVehicleChunk_poolsOk t k hfree held hs
  | reclaim p tier2 hp => exact PassStore.drop_poolsOk hp hs

/-- A change of one pass of the track, as it is seen from any track and number. -/
theorem updated_cases {st : PassStore} {f : HeldPass → HeldPass} (hn : ∀ p, (f p).number = p.number)
    (ht : ∀ p, (f p).track = p.track) {k : Nat} (hk : K k) (o : TrackId) (n : Nat)
    (hf : ∀ p, (o ≠ t ∨ ¬K n → False) → Written t K F o n p (f p)) :
    ((st.updateOfTrack t k f).ofTrack o n = none ∧ st.ofTrack o n = none) ∨
      ∃ p q, st.ofTrack o n = some p ∧ (st.updateOfTrack t k f).ofTrack o n = some q ∧ Written t K F o n p q := by
  rw [ofTrack_updateOfTrack hn ht]
  cases hp : st.ofTrack o n with
  | none => exact .inl ⟨rfl, rfl⟩
  | some p =>
    obtain ⟨-, hpn, hpt⟩ := PassStore.ofTrack_some hp
    refine .inr ⟨p, _, rfl, rfl, ?_⟩
    dsimp only
    split
    · next h =>
      obtain ⟨h1, h2⟩ := h
      exact hf p fun h => h.elim (fun h => h (hpt.symm.trans h2)) fun h => h (by rwa [← hpn, h1])
    · exact .refl p

/-- R127 to R136: one write, as it is seen from any track and number: no pass is held before or after, or the pass
is written, or it is reclaimed. -/
theorem Write.ofTrack (h : Write t K F s u) (hs : s.store.poolsOk = true) (o : TrackId) (n : Nat) :
    (u.store.ofTrack o n = none ∧ s.store.ofTrack o n = none) ∨
      (∃ p q, s.store.ofTrack o n = some p ∧ u.store.ofTrack o n = some q ∧ Written t K F o n p q) ∨
      Kind.reclaim ∈ F ∧ u.store.ofTrack o n = none ∧
        ∃ p, s.store.ofTrack o n = some p ∧ p.releasable = true := by
  have still : u.store.ofTrack o n = s.store.ofTrack o n →
      (u.store.ofTrack o n = none ∧ s.store.ofTrack o n = none) ∨
        ∃ p q, s.store.ofTrack o n = some p ∧ u.store.ofTrack o n = some q ∧ Written t K F o n p q := by
    intro heq
    rw [heq]
    cases s.store.ofTrack o n with
    | none => exact .inl ⟨rfl, rfl⟩
    | some p => exact .inr ⟨p, p, rfl, rfl, .refl p⟩
  cases h with
  | still hstore => exact or_assoc.mp (.inl (still (by rw [hstore])))
  | raise a ht hk =>
    rw [raise_store, ht]
    exact or_assoc.mp (.inl (updated_cases (f := fun p => { p with alarmCount := p.alarmCount + 1 })
      (fun _ => rfl) (fun _ => rfl) hk o n fun p h =>
      .of_kept rfl fun h' => (h h').elim))
  | note k f hk hf =>
    exact or_assoc.mp (.inl (updated_cases (f := f) (fun p => (congrArg HeldPass.number (hf.kept p) :))
      (fun p => (congrArg HeldPass.track (hf.kept p) :)) hk o n fun p h =>
      .of_kept (hf.kept p) fun h' => (h h').elim))
  | result k i f hk hF hf =>
    refine or_assoc.mp (.inl (updated_cases (f := fun p =>
      { p with axles := p.axles.map fun a => if a.index = i then f a else a }) (fun _ => rfl) (fun _ => rfl) hk o n
      fun p h => ⟨rfl, fun h1 => absurd hF h1, fun _ => ?_, fun h' => (h h').elim⟩))
    rw [List.map_map]
    refine List.map_congr_left fun a _ => ?_
    simp only [Function.comp_apply]
    split
    · exact hf a
    · rfl
  | append k e hk hF =>
    exact or_assoc.mp (.inl (updated_cases (f := fun p => { p with axles := p.axles ++ [.fresh e] })
      (fun _ => rfl) (fun _ => rfl) hk o n fun p h =>
        ⟨rfl, fun _ h1 => absurd hF h1, fun h1 => absurd hF h1, fun h' => (h h').elim⟩))
  | axleChunk k hk =>
    exact or_assoc.mp (.inl (updated_cases (st := s.store) (f := fun p => { p with axleChunks := p.axleChunks + 1 })
      (fun _ => rfl) (fun _ => rfl) hk o n fun p h => .of_kept rfl fun h' => (h h').elim))
  | vehicleChunk k hk =>
    exact or_assoc.mp (.inl (updated_cases (st := s.store)
      (f := fun p => { p with vehicleChunks := p.vehicleChunks + 1 })
      (fun _ => rfl) (fun _ => rfl) hk o n fun p h => .of_kept rfl fun h' => (h h').elim))
  | reclaim p tier2 hp hr hF =>
    have hdrop : (s.reclaim p tier2).store.ofTrack o n = if n = p.number then none else s.store.ofTrack o n :=
      ofTrack_drop o n
    split at hdrop
    · next hn =>
      cases hq : s.store.ofTrack o n with
      | none => exact .inl ⟨hdrop, rfl⟩
      | some q =>
        obtain ⟨hq', hqn, -⟩ := PassStore.ofTrack_some hq
        obtain rfl := eq_of_number hs hq' hp (hqn.trans hn)
        exact .inr (.inr ⟨hF, hdrop, q, rfl, hr⟩)
    · exact or_assoc.mp (.inl (still hdrop))

/-- A change of one pass of the track, pass by pass. -/
theorem updated_passes (st : PassStore) {f : HeldPass → HeldPass} (hf : ∀ p, (f p).header = p.header) {k : Nat}
    (hk : K k) : ∃ g : HeldPass → HeldPass, (st.updateOfTrack t k f).passes = st.passes.map g ∧
      ∀ p, (g p).header = p.header ∧ (¬K p.number → g p = p) := by
  refine ⟨fun p => if p.number = k ∧ p.track = t then f p else p, rfl, fun p => ⟨?_, fun hp => ?_⟩⟩
  · dsimp only
    split
    · exact hf p
    · rfl
  · exact if_neg (c := p.number = k ∧ p.track = t) fun h => hp (h.1 ▸ hk)

/-- R127 to R136: one write that reclaims nothing keeps the list of passes but for what it writes into them. -/
theorem Write.passes (h : Write t K F s u) (hF : Kind.reclaim ∉ F) : ∃ g : HeldPass → HeldPass,
    u.store.passes = s.store.passes.map g ∧ ∀ p, (g p).header = p.header ∧ (¬K p.number → g p = p) := by
  cases h with
  | still hstore => exact ⟨id, by rw [hstore, List.map_id], fun _ => ⟨rfl, fun _ => rfl⟩⟩
  | raise a ht hk =>
    rw [raise_store, ht]
    exact updated_passes _ (f := fun p => { p with alarmCount := p.alarmCount + 1 }) (fun _ => rfl) hk
  | note k f hk hf => exact updated_passes _ (fun p => header_of_kept (hf.kept p)) hk
  | result k i f hk => exact updated_passes _ (f := fun p =>
      { p with axles := p.axles.map fun a => if a.index = i then f a else a }) (fun _ => rfl) hk
  | append k e hk => exact updated_passes _ (f := fun p => { p with axles := p.axles ++ [.fresh e] }) (fun _ => rfl) hk
  | axleChunk k hk =>
    exact updated_passes _ (f := fun p => { p with axleChunks := p.axleChunks + 1 }) (fun _ => rfl) hk
  | vehicleChunk k hk =>
    exact updated_passes _ (f := fun p => { p with vehicleChunks := p.vehicleChunks + 1 }) (fun _ => rfl) hk
  | reclaim p tier2 hp hr h => exact absurd h hF

/-- R139: only a reclaim makes a view stale. -/
theorem Write.views (h : Write t K F s u) (hF : Kind.reclaim ∉ F) (p : Port) : (u.port p).view = (s.port p).view := by
  cases h with
  | still _ _ hviews => exact hviews p
  | raise a => exact raise_frame s a (.view p) (by simp)
  | reclaim q tier2 hp hr h => exact absurd h hF
  | note => rfl
  | result => rfl
  | append => rfl
  | axleChunk => rfl
  | vehicleChunk => rfl

/-- R144, R145: one write takes no number back, does not clear LIST_FULL, and leaves the unacknowledged records in
the list. -/
theorem Write.alarms (h : Write t K F s u) : s.alarms.Grows u.alarms := by
  cases h with
  | still _ halarms => rw [halarms]; exact .of_eq rfl rfl rfl
  | raise a =>
    refine ⟨?_, fun hfull => by rw [raise_listFull, hfull, Bool.true_or], fun r hr ha => mem_raise hr ha⟩
    rcases raise_alarms s a with ⟨-, -, hnext⟩ | ⟨-, -, hnext⟩ <;> omega
  | note => exact .of_eq rfl rfl rfl
  | result => exact .of_eq rfl rfl rfl
  | append => exact .of_eq rfl rfl rfl
  | axleChunk => exact .of_eq rfl rfl rfl
  | vehicleChunk => exact .of_eq rfl rfl rfl
  | reclaim => exact .of_eq rfl rfl rfl

end Write

/-! ### Any run of writes -/

section Writes

variable {t : TrackId} {K : Nat → Prop} {F : List Kind} {s u : State}

theorem Writes.poolsOk (h : Writes t K F s u) (hs : s.store.poolsOk = true) : u.store.poolsOk = true := by
  induction h with
  | refl => exact hs
  | tail _ hw ih => exact hw.poolsOk ih

/-- A pass that is held after the writes was held before them. -/
theorem Writes.was_held (h : Writes t K F s u) (hs : s.store.poolsOk = true) {o : TrackId} {n : Nat}
    {q : HeldPass} (hq : u.store.ofTrack o n = some q) :
    ∃ p, s.store.ofTrack o n = some p ∧ Written t K F o n p q := by
  induction h generalizing q with
  | refl => exact ⟨q, hq, .refl q⟩
  | tail hrun hw ih =>
    rcases hw.ofTrack (Writes.poolsOk hrun hs) o n with ⟨hnone, -⟩ | ⟨p, q', hp, hq', hpq⟩ | ⟨-, hnone, -⟩
    · rw [hnone] at hq
      nomatch hq
    · obtain rfl := Option.some.inj (hq.symm.trans hq')
      obtain ⟨p0, hp0, h0⟩ := ih hp
      exact ⟨p0, hp0, h0.trans hpq⟩
    · rw [hnone] at hq
      nomatch hq

/-- A pass that no reclaim picks stays held. -/
theorem Writes.stays_held (h : Writes t K F s u) (hs : s.store.poolsOk = true) {o : TrackId} {n : Nat}
    {p : HeldPass} (hp : s.store.ofTrack o n = some p) (hr : Kind.reclaim ∉ F ∨ p.releasable = false) :
    ∃ q, u.store.ofTrack o n = some q ∧ Written t K F o n p q := by
  induction h with
  | refl => exact ⟨p, hp, .refl p⟩
  | tail hrun hw ih =>
    obtain ⟨q, hq, hpq⟩ := ih
    rcases hw.ofTrack (Writes.poolsOk hrun hs) o n with ⟨-, hnone⟩ | ⟨q', r, hq', hr', hqr⟩ | ⟨hF, -, q', hq', hrel⟩
    · rw [hnone] at hq
      nomatch hq
    · obtain rfl := Option.some.inj (hq.symm.trans hq')
      exact ⟨r, hr', hpq.trans hqr⟩
    · obtain rfl := Option.some.inj (hq.symm.trans hq')
      rw [releasable_of_header hpq.header] at hrel
      rcases hr with hr | hr
      · exact absurd hF hr
      · simp [hr] at hrel

/-- Writes that reclaim nothing keep the list of passes but for what they write into them. -/
theorem Writes.passes (h : Writes t K F s u) (hF : Kind.reclaim ∉ F) : ∃ g : HeldPass → HeldPass,
    u.store.passes = s.store.passes.map g ∧ ∀ p, (g p).header = p.header ∧ (¬K p.number → g p = p) := by
  induction h with
  | refl => exact ⟨id, (List.map_id _).symm, fun _ => ⟨rfl, fun _ => rfl⟩⟩
  | tail _ hw ih =>
    obtain ⟨g, hg, hkeeps⟩ := ih
    obtain ⟨f, hf, hkeeps'⟩ := hw.passes hF
    refine ⟨f ∘ g, by rw [hf, hg, List.map_map], fun p => ⟨(hkeeps' _).1.trans (hkeeps p).1, fun hp => ?_⟩⟩
    have hgp := (hkeeps p).2 hp
    rw [Function.comp_apply, hgp]
    exact (hkeeps' p).2 hp

theorem Writes.views (h : Writes t K F s u) (hF : Kind.reclaim ∉ F) (p : Port) :
    (u.port p).view = (s.port p).view := by
  induction h with
  | refl => rfl
  | tail _ hw ih => exact (hw.views hF p).trans ih

theorem Writes.alarms (h : Writes t K F s u) : s.alarms.Grows u.alarms := by
  induction h with
  | refl => exact .of_eq rfl rfl rfl
  | tail _ hw ih => exact ih.trans hw.alarms

end Writes

end Sys2Proof.Machine
end

section
/-! PROOFS. The operations on the axles and vehicles of a track's pass as runs of writes: the pass store's requests
(R130, R132, R136), the vehicle recognition unit (R115 to R124), finishing, abandoning and counting in (R28, R31,
R32). -/

namespace Sys2Proof.Machine

open Sys2Proof

/-! ### The alarms of an axle -/

theorem mem_loadAlarms {b : AlarmBase} {p : Profile} {w : PerRail WheelResult} {a : Alarm}
    (h : a ∈ loadAlarms b p w) : a.track = b.track ∧ a.pass = b.pass := by
  have impact (side : Side) (w : WheelResult) (h : a ∈ impactCheck b p side w) :
      a.track = b.track ∧ a.pass = b.pass := by
    grind [impactCheck, AlarmBase.alarm]
  have ratio (side : Side) (w : WheelResult) (h : a ∈ ratioCheck b p side w) :
      a.track = b.track ∧ a.pass = b.pass := by
    grind [ratioCheck, AlarmBase.alarm]
  have load (x : Option Nat) (h : a ∈ overloadCheck b p x) : a.track = b.track ∧ a.pass = b.pass := by
    cases x <;> grind [overloadCheck, AlarmBase.alarm]
  have balance (x : Option Nat) (h : a ∈ imbalanceCheck b p x) : a.track = b.track ∧ a.pass = b.pass := by
    cases x <;> grind [imbalanceCheck, AlarmBase.alarm]
  simp only [loadAlarms, List.mem_append] at h
  obtain ((((h | h) | h) | h) | h) | h := h
  exacts [impact _ _ h, ratio _ _ h, impact _ _ h, ratio _ _ h, load _ h, balance _ h]

theorem mem_thermalAlarms {b : AlarmBase} {p : Profile} {sums : PerRail RiseSum} {x : PerScanner ThermalResult}
    {a : Alarm} (h : a ∈ thermalAlarms b p sums x) : a.track = b.track ∧ a.pass = b.pass := by
  have level (side : Side) (rise : Option Int) (h : a ∈ bearingLevelCheck b p side rise) :
      a.track = b.track ∧ a.pass = b.pass := by
    cases rise <;> grind [bearingLevelCheck, AlarmBase.alarm]
  have diff (side : Side) (sum : RiseSum) (rise : Option Int) (h : a ∈ bearingDiffCheck b p side sum rise) :
      a.track = b.track ∧ a.pass = b.pass := by
    cases rise <;> grind [bearingDiffCheck, AlarmBase.alarm]
  have cross (l r : Option Int) (h : a ∈ bearingCrossCheck b p l r) : a.track = b.track ∧ a.pass = b.pass := by
    cases l <;> cases r <;> grind [bearingCrossCheck, AlarmBase.alarm]
  have wheel (side : Side) (rise : Option Int) (h : a ∈ wheelHotCheck b p side rise) :
      a.track = b.track ∧ a.pass = b.pass := by
    cases rise <;> grind [wheelHotCheck, AlarmBase.alarm]
  simp only [thermalAlarms, List.mem_append] at h
  obtain (((((h | h) | h) | h) | h) | h) | h := h
  exacts [level _ _ h, diff _ _ _ h, level _ _ h, diff _ _ _ h, cross _ _ h, wheel _ _ h, wheel _ _ h]

theorem mem_axleAlarms {s : State} {b : AlarmBase} {c : PassContext} {w : PerRail WheelResult}
    {x : PerScanner ThermalResult} {a : Alarm} (h : a ∈ (s.axleAlarms b c w x).1) :
    a.track = b.track ∧ a.pass = b.pass := by
  rcases List.mem_append.mp ((interleave_perm _ _ _ _ _).mem_iff.mp h) with h | h
  · exact mem_loadAlarms h
  · exact mem_thermalAlarms h

/-! ### Reclaims and requests -/

section Operations

variable {t : TrackId} {K : Nat → Prop} {F : List Kind}

theorem releasable_of_pick {st : PassStore} {p : HeldPass} {tier2 : Bool} (h : st.pick = some (p, tier2)) :
    p.releasable = true := by
  unfold PassStore.pick at h
  split at h
  · next q hq =>
    obtain rfl : q = p := congrArg Prod.fst (Option.some.inj h)
    simp [HeldPass.releasable, List.find?_some hq]
  · split at h
    · next q hq =>
      obtain rfl : q = p := congrArg Prod.fst (Option.some.inj h)
      simp [HeldPass.releasable, List.find?_some hq]
    · nomatch h

theorem reclaimUntil_writes (t : TrackId) (K : Nat → Prop) (room : PassStore → Bool) (fuel : Nat) (s : State) :
    Writes t K [.reclaim] s (State.reclaimUntil room fuel s) := by
  induction fuel generalizing s with
  | zero => exact .refl t K _ s
  | succ fuel ih =>
    unfold State.reclaimUntil
    split
    · exact .refl t K _ s
    · split
      · exact .refl t K _ s
      · next p tier2 hpick =>
        exact .trans (.one (.reclaim s p tier2 (PassStore.pick_some hpick).1 (releasable_of_pick hpick) (by simp)))
          (ih _)

theorem makeRoom_writes (t : TrackId) (K : Nat → Prop) (s : State) (room : PassStore → Bool) :
    Writes t K [.reclaim] s (s.makeRoom room) :=
  reclaimUntil_writes t K room _ s

theorem notes_flags (f : PassFlags → PassFlags) (h : ∀ x, (f x).countMismatch = x.countMismatch) :
    Notes fun p => { p with flags := f p.flags } :=
  ⟨fun p => by simp only [HeldPass.kept, h], fun _ => rfl, fun _ => rfl⟩

theorem flagPass_writes (s : State) {n : Nat} (hn : K n) (f : PassFlags → PassFlags)
    (h : ∀ x, (f x).countMismatch = x.countMismatch := by intro _; rfl) : Writes t K F s (s.flagPass t n f) :=
  .one (.note s n _ hn (notes_flags f h))

theorem stopStoring_writes (s : State) {c : PassContext} (hc : K c.number) (pool : Bool) :
    Writes t K F s (s.stopStoring t c pool) :=
  (flagPass_writes s hc _).trans (.of_frame (setCtx_frame _ t _))

theorem writeAxle_writes (s : State) {n : Nat} (hn : K n) (e : AxleEntry) :
    Writes t K [.append, .reclaim] s (s.writeAxle t n e) :=
  .one (.append s n e hn (by simp))

/-- R130, R136: with an axle chunk free, a request for a record reclaims nothing. -/
theorem requestAxle_writes_free {s : State} (hfree : hasAxleChunk s.store = true) {c : PassContext} (hc : K c.number)
    (e : AxleEntry) : Writes t K [.append] s (s.requestAxle t c e).1 := by
  have written (s : State) : Writes t K [.append] s (s.writeAxle t c.number e) := .one (.append s _ e hc (by simp))
  unfold State.requestAxle
  dsimp only
  rw [makeRoom_eq hfree]
  split
  · exact stopStoring_writes s hc false
  · split
    · split
      · next h =>
        rw [Bool.and_eq_true, hasAxleChunk, decide_eq_true_eq] at h
        exact (Writes.one (.axleChunk _ _ hc h.1 h.2)).trans (written _)
      · exact stopStoring_writes s hc true
    · exact written s

theorem requestAxle_writes (s : State) {c : PassContext} (hc : K c.number) (e : AxleEntry) :
    Writes t K [.append, .reclaim] s (s.requestAxle t c e).1 := by
  unfold State.requestAxle
  dsimp only
  have hroom : Writes t K [.append, .reclaim] s (s.makeRoom hasAxleChunk) := (makeRoom_writes t K s _).allow
  split
  · exact stopStoring_writes s hc false
  · split
    · split
      · next h =>
        rw [Bool.and_eq_true, hasAxleChunk, decide_eq_true_eq] at h
        exact (hroom.trans (.one (.axleChunk _ _ hc h.1 h.2))).trans (writeAxle_writes _ hc e)
      · exact hroom.trans (stopStoring_writes _ hc true)
    · exact writeAxle_writes s hc e

theorem requestVehicle_writes (s : State) {n : Nat} (hn : K n) :
    Writes t K [.reclaim] s (s.requestVehicle t n).1 := by
  have hroom := makeRoom_writes t K s hasVehicleChunk
  unfold State.requestVehicle
  split
  · exact .refl t K _ s
  · dsimp only
    split
    · split
      · next h =>
        rw [Bool.and_eq_true, hasVehicleChunk, decide_eq_true_eq] at h
        exact hroom.trans (.one (.vehicleChunk _ _ hn h.1 h.2))
      · exact hroom
    · exact .refl t K _ s

/-- R132, R136: with a vehicle chunk free, a request for a record reclaims nothing. -/
theorem requestVehicle_writes_free {s : State} (hfree : hasVehicleChunk s.store = true) {n : Nat} (hn : K n) :
    Writes t K F s (s.requestVehicle t n).1 := by
  unfold State.requestVehicle
  rw [makeRoom_eq hfree]
  split
  · exact .refl t K F s
  · dsimp only
    split
    · split
      · next h =>
        rw [Bool.and_eq_true, hasVehicleChunk, decide_eq_true_eq] at h
        exact .one (.vehicleChunk _ _ hn h.1 h.2)
      · exact .refl t K F s
    · exact .refl t K F s

/-! ### Alarms, vehicles and the matching context -/

theorem raiseAll_writes (s : State) (as : List Alarm) (h : ∀ a ∈ as, a.track = t ∧ K a.pass) :
    Writes t K F s (s.raiseAll as) := by
  induction as generalizing s with
  | nil => exact .refl t K F s
  | cons a as ih =>
    obtain ⟨ht, hk⟩ := h a (by simp)
    exact .trans (.one (.raise s a ht hk)) (ih _ fun x hx => h x (by simp [hx]))

theorem updateVehicle_writes (s : State) {n : Nat} (hn : K n) (i : Nat) (f : VehicleRecord → VehicleRecord) :
    Writes t K F s (s.updateVehicle t n i f) :=
  .one (.note s n _ hn ⟨fun _ => rfl, fun _ => rfl, fun _ => rfl⟩)

theorem completeVehicle_writes (s : State) {n : Nat} (hn : K n) (i : Nat) :
    Writes t K F s (s.completeVehicle t n i) := by
  unfold State.completeVehicle
  split
  · dsimp only
    split
    · exact updateVehicle_writes s hn _ _
    · exact (updateVehicle_writes s hn _ _).trans (.one (.raise _ _ rfl hn))
  · exact .refl t K F s

theorem notes_vehicle (v : VehicleRecord) : Notes fun p => { p with
    vehicles := p.vehicles ++ [v]
    axles := p.axles.map fun a =>
      if v.firstAxle ≤ a.index ∧ a.index < v.firstAxle + v.axles then { a with vehicle := some v.index } else a } := by
  refine ⟨fun p => ?_, fun _ => rfl, fun _ => rfl⟩
  simp only [HeldPass.kept, List.map_map]
  refine congrArg (fun l => ({ p.kept with axles := l } : HeldPass)) (List.map_congr_left fun a _ => ?_)
  simp only [Function.comp_apply]
  split <;> rfl

/-- The track's matching context, where it has one, is of a pass with a number in `K`. -/
def ContextIn (K : Nat → Prop) (t : TrackId) (s : State) : Prop := ∀ m, s.context t = some m → K m.pass

theorem ContextIn.through {s u : State} {P : List Part} (h : ContextIn K t s) (hf : Frame P s u)
    (hP : Part.context t ∉ P := by simp) : ContextIn K t u := fun m hm => h m ((hf (.context t) hP).symm.trans hm)

theorem contextIn_setContext {s : State} {m : MatchContext} (h : K m.pass) : ContextIn K t (s.setContext t (some m)) := by
  intro m' hm'
  obtain rfl : m = m' := by simpa using hm'
  exact h

/-- R121, R122: making a vehicle after the store is asked for its record, and the context that it leaves. -/
theorem makeVehicle_writes_asked {s : State} {m : MatchContext} (hm : K m.pass) (shape : VehicleShape)
    (asked : Writes t K F s (s.requestVehicle t m.pass).1) :
    Writes t K F s (s.makeVehicle t m shape) ∧ ContextIn K t (s.makeVehicle t m shape) := by
  unfold State.makeVehicle
  dsimp only
  split
  · have made := (asked.trans (.one (.note _ _ _ hm (notes_vehicle (m.newVehicle shape))))).trans
      (.of_frame (setContext_frame _ t (some (m.advance shape.axles))))
    split
    · exact ⟨made.trans (completeVehicle_writes _ hm _),
        (contextIn_setContext (m := m.advance shape.axles) hm).through (completeVehicle_frame _ t _ _)⟩
    · exact ⟨made, contextIn_setContext (m := m.advance shape.axles) hm⟩
  · exact ⟨(asked.trans (flagPass_writes _ hm _)).trans (.of_frame (setContext_frame _ t _)),
      contextIn_setContext (m := m.stop) hm⟩

theorem makeVehicle_writes (s : State) {m : MatchContext} (hm : K m.pass) (shape : VehicleShape) :
    Writes t K [.reclaim] s (s.makeVehicle t m shape) ∧ ContextIn K t (s.makeVehicle t m shape) :=
  makeVehicle_writes_asked hm shape (requestVehicle_writes s hm)

/-- R118, R132: one attempt with a vehicle chunk free reclaims nothing. -/
theorem attempts_one_writes (look : List WaitingAxle → List VehicleType → Decision) {s : State}
    (hfree : hasVehicleChunk s.store = true) (h : ContextIn K t s) : Writes t K F s (State.attempts look t 1 s) := by
  unfold State.attempts
  split
  · exact .refl t K F s
  · next m hm =>
    have made (shape : VehicleShape) : Writes t K F s (s.makeVehicle t m shape) :=
      (makeVehicle_writes_asked (h m hm) shape (requestVehicle_writes_free hfree (h m hm))).1
    split
    · split
      · exact .refl t K F s
      · exact made _
      · exact made _
    · exact .refl t K F s

theorem attempts_writes (look : List WaitingAxle → List VehicleType → Decision) (fuel : Nat) {s : State}
    (h : ContextIn K t s) :
    Writes t K [.reclaim] s (State.attempts look t fuel s) ∧ ContextIn K t (State.attempts look t fuel s) := by
  induction fuel generalizing s with
  | zero => exact ⟨.refl t K _ s, h⟩
  | succ fuel ih =>
    have made (m : MatchContext) (shape : VehicleShape) (hm : s.context t = some m) :
        Writes t K [.reclaim] s (State.attempts look t fuel (s.makeVehicle t m shape)) ∧
          ContextIn K t (State.attempts look t fuel (s.makeVehicle t m shape)) := by
      obtain ⟨hw, hc⟩ := makeVehicle_writes s (h m hm) shape
      exact ⟨hw.trans (ih hc).1, (ih hc).2⟩
    unfold State.attempts
    split
    · exact ⟨.refl t K _ s, h⟩
    · next m hm =>
      split
      · split
        · exact ⟨.refl t K _ s, h⟩
        · exact made m _ hm
        · exact made m _ hm
      · exact ⟨.refl t K _ s, h⟩

/-- R120: the closing match. -/
theorem closingMatch_writes {s : State} (h : ContextIn K t s) : Writes t K [.reclaim] s (s.closingMatch t) := by
  unfold State.closingMatch
  split
  · exact .refl t K _ s
  · exact (attempts_writes _ _ h).1.trans (.of_frame (setContext_frame _ t _))

/-- R117: the spacing of an axle, written into its record. -/
theorem spacing_writes (s : State) {n : Nat} (hn : K n) (i : Nat) (x : Option Nat) :
    Writes t K F s (s.updateAxle t n i fun a => { a with spacing := x }) := by
  refine .one (.note s n _ hn ⟨fun p => ?_, fun _ => rfl, fun _ => rfl⟩)
  simp only [HeldPass.kept, List.map_map]
  refine congrArg (fun l => ({ p.kept with axles := l } : HeldPass)) (List.map_congr_left fun a _ => ?_)
  simp only [Function.comp_apply]
  split <;> rfl

/-- R113, R115: with a vehicle chunk free, telling of the first axle of a pass reclaims nothing. -/
theorem tellCounted_writes_first {s : State} (hfree : hasVehicleChunk s.store = true) {pass : Nat} (hp : K pass)
    {e : AxleEntry} (he : e.index = 1) (stored : Bool) : Writes t K F s (s.tellCounted t pass e stored) := by
  unfold State.tellCounted
  simp only [he, if_true]
  split
  · exact ((spacing_writes s hp _ _).trans (.of_frame (setContext_frame _ t _))).trans
      (attempts_one_writes _ hfree (contextIn_setContext (m := ((MatchContext.form pass e.entryTime).toldOf
        e.entryTime).join e none) hp))
  · exact .of_frame (setContext_frame s t _)

/-- R114, R115: telling of an axle that is counted in. -/
theorem tellCounted_writes {s : State} {pass : Nat} (hp : K pass) (h : ContextIn K t s) (e : AxleEntry)
    (stored : Bool) : Writes t K [.reclaim] s (s.tellCounted t pass e stored) := by
  have spaced (x : Option Nat) : Writes t K [.reclaim] s (s.updateAxle t pass e.index fun a => { a with spacing := x }) :=
    spacing_writes s hp _ x
  unfold State.tellCounted
  dsimp only
  split
  · exact .refl t K _ s
  · next m hm =>
    have hpass : K m.pass := by
      split at hm
      · obtain rfl := Option.some.inj hm
        exact hp
      · exact h m hm
    split
    · split
      · exact ((spaced _).trans (.of_frame (setContext_frame _ t _))).trans
          (attempts_writes _ _ (contextIn_setContext (m := (m.toldOf e.entryTime).join e _) hpass)).1
      · exact (spaced _).trans (.of_frame (setContext_frame _ t _))
    · exact .of_frame (setContext_frame s t _)

/-- R123: telling of an axle that has ended, and the context that it leaves. -/
theorem tellEnded_writes {s : State} {pass : Nat} (hp : K pass) (i : Nat) (o : AxleOutcome) (l : Level) :
    Writes t K F s (s.tellEnded t pass i o l) ∧
      (ContextIn K t s → ContextIn K t (s.tellEnded t pass i o l)) := by
  unfold State.tellEnded
  split
  · exact ⟨.refl t K F s, id⟩
  · next m hm =>
    dsimp only
    generalize hm' : ({ m with finishMark := i, waiting := m.waiting.map fun a => a.reported i o l } : MatchContext) = m'
    have told : Writes t K F s (s.setContext t (some m')) := .of_frame (setContext_frame s t _)
    have stays (h : ContextIn K t s) : ContextIn K t (s.setContext t (some m')) :=
      contextIn_setContext (by rw [← hm']; exact h m hm)
    split
    · exact ⟨told, stays⟩
    · have noted (v : Nat) (f : VehicleRecord → VehicleRecord) := told.trans (updateVehicle_writes _ hp v f)
      have kept (v : Nat) (f : VehicleRecord → VehicleRecord) (h : ContextIn K t s) :=
        (stays h).through (updateVehicle_frame _ t pass v f)
      split
      · exact ⟨noted _ _, kept _ _⟩
      · split
        · exact ⟨(noted _ _).trans (completeVehicle_writes _ hp _), fun h =>
            (kept _ _ h).through (completeVehicle_frame _ t _ _)⟩
        · exact ⟨noted _ _, kept _ _⟩

/-! ### Finishing and abandoning -/

theorem updateAxle_writes (s : State) {n : Nat} (hn : K n) (i : Nat) (f : AxleRecord → AxleRecord)
    (hf : ∀ a, (f a).index = a.index := by intro _; rfl) : Writes t K [.result] s (s.updateAxle t n i f) :=
  .one (.result s n i f hn (by simp) hf)

theorem finish_writes (s : State) {c : PassContext} (hc : K c.number) (e : AxleEntry) (drift : Option Int)
    (uncertain forced : Bool) :
    Writes t K [.result] s (s.finish t c e drift uncertain forced) ∧
      (ContextIn K t s → ContextIn K t (s.finish t c e drift uncertain forced)) := by
  unfold State.finish
  extract_lets e' wheels thermal base alarms a b x y
  have ha : Writes t K [.result] s a := updateAxle_writes s hc _ _
  have hb : Writes t K [.result] a b := by
    refine .trans (.of_frame (withChoice_frame a alarms.2)) (raiseAll_writes _ _ fun r hr => ?_)
    obtain ⟨ht, hp⟩ := mem_axleAlarms hr
    exact ⟨ht, by rw [hp]; exact hc⟩
  have hx : Writes t K [.result] b x := .of_frame (setCtx_frame b t _)
  have hy : Writes t K [.result] x y := updateAxle_writes x hc _ _
  obtain ⟨hz, stays⟩ := tellEnded_writes (F := [Kind.result]) (s := y) (t := t) hc e'.index .finished
    (worstLevel alarms.1)
  refine ⟨(((ha.trans hb).trans hx).trans hy).trans hz, fun h => stays ?_⟩
  exact ((((h.through (updateAxle_frame s t _ _ _)).through (withChoice_frame a alarms.2)).through
    (raiseAll_frame _ _)).through (setCtx_frame b t _)).through (updateAxle_frame x t _ _ _)

/-- The track's open pass, where it has one, has a number in `K`. -/
def PassIn (K : Nat → Prop) (t : TrackId) (s : State) : Prop := ∀ c, s.ctx t = some c → K c.number

theorem PassIn.of_section {s u : State} (h : PassIn K t s)
    (hc : (u.ctx t).map (fun c => c.number) = (s.ctx t).map fun c => c.number) : PassIn K t u := by
  intro c hc'
  rw [hc', Option.map_some] at hc
  obtain ⟨c', hc'', hn⟩ := Option.map_eq_some_iff.mp hc.symm
  rw [← hn]
  exact h c' hc''

theorem finishForced_writes {s : State} (h : PassIn K t s) (es : List AxleEntry) :
    Writes t K [.result] s (s.finishForced t es) ∧ (ContextIn K t s → ContextIn K t (s.finishForced t es)) := by
  induction es generalizing s with
  | nil => exact ⟨.refl t K _ s, id⟩
  | cons e rest ih =>
    unfold State.finishForced
    split
    · exact ⟨.refl t K _ s, id⟩
    · next c hc =>
      have queued := setSection_frame s t { s.section t with queue := rest }
      obtain ⟨hw, hx⟩ := finish_writes (K := K) (t := t) (s.setSection t { s.section t with queue := rest })
        (h c hc) e none false true
      obtain ⟨thermal, hsec⟩ := finish_section (s.setSection t { s.section t with queue := rest }) t c e none false true
      have hin : PassIn K t ((s.setSection t { s.section t with queue := rest }).finish t c e none false true) := by
        refine h.of_section ?_
        rw [State.ctx, hsec, hc]
        rfl
      exact ⟨(Writes.trans (.of_frame queued) hw).trans (ih hin).1, fun h => (ih hin).2 (hx (h.through queued))⟩

theorem abandonEntry_writes (s : State) {pass : Nat} (hp : K pass) (e : AxleEntry) :
    Writes t K [.result] s (s.abandonEntry t pass e) ∧
      (ContextIn K t s → ContextIn K t (s.abandonEntry t pass e)) := by
  unfold State.abandonEntry
  obtain ⟨hw, hx⟩ := tellEnded_writes (K := K) (F := [Kind.result]) (t := t)
    (s := s.updateAxle t pass e.index fun a => { a with status := .abandoned }) hp e.index .abandoned .none
  exact ⟨(updateAxle_writes s hp _ _).trans hw,
    fun h => hx (h.through (updateAxle_frame s t _ _ _))⟩

theorem abandonEach_writes {s : State} (h : PassIn K t s) (es : List AxleEntry) :
    Writes t K [.result] s (s.abandonEach t es) ∧ (ContextIn K t s → ContextIn K t (s.abandonEach t es)) := by
  induction es generalizing s with
  | nil => exact ⟨.refl t K _ s, id⟩
  | cons e rest ih =>
    unfold State.abandonEach
    split
    · exact ⟨.refl t K _ s, id⟩
    · next c hc =>
      have queued := setSection_frame s t { s.section t with queue := rest }
      obtain ⟨hw, hx⟩ := abandonEntry_writes (K := K) (t := t) (s.setSection t { s.section t with queue := rest })
        (h c hc) e
      have hin : PassIn K t ((s.setSection t { s.section t with queue := rest }).abandonEntry t c.number e) := by
        refine h.of_section ?_
        rw [(abandonEntry_frame _ t _ _).ctx_eq, State.ctx, section_setSection]
        rfl
      exact ⟨(Writes.trans (.of_frame queued) hw).trans (ih hin).1, fun h => (ih hin).2 (hx (h.through queued))⟩

/-! ### Counting in -/

/-- R28: an axle that is counted in. -/
theorem countIn_writes {s : State} (h : PassIn K t s) (hx : ContextIn K t s) (ev : PairEvent) :
    Writes t K [.append, .reclaim] s (s.countIn t ev) := by
  unfold State.countIn
  split
  · exact .refl t K _ s
  · next c hc =>
    have hn : K (c.countedIn ev.speed).number := h c hc
    have joined : Writes t K [.append, .reclaim] s
        (s.joinQueue t (c.countedIn ev.speed) (.ofCountIn (c.countedIn ev.speed).entryCount ev)) :=
      .of_frame (joinQueue_frame s t _ _)
    have asked (s : State) (c : PassContext) (e : AxleEntry) (hc : K c.number) :
        Writes t K [.append, .reclaim] s (s.askRecord t c e).1 := by
      unfold State.askRecord
      split
      · exact requestAxle_writes s hc e
      · exact .refl t K _ s
    have hx' := (hx.through (joinQueue_frame s t (c.countedIn ev.speed)
      (.ofCountIn (c.countedIn ev.speed).entryCount ev))).through (askRecord_frame _ t (c.countedIn ev.speed)
      (.ofCountIn (c.countedIn ev.speed).entryCount ev))
    exact ((joined.trans (asked _ _ _ hn)).trans (tellCounted_writes hn hx' _ _).allow).trans
      (.of_frame (startHold_frame _ t))

end Operations

end Sys2Proof.Machine
end

section
/-! PROOFS. What each operation of the section controller leaves of its track's section (R26 to R42). -/

namespace Sys2Proof.Machine

open Sys2Proof

section Operations

variable {s : State} {t : TrackId} {c : PassContext}

/-! ### Finishing and abandoning the queue (R31, R32) -/

theorem finishForced_section (h : s.ctx t = some c) {es : List AxleEntry} (hq : (s.section t).queue = es) :
    ∃ rises, (s.finishForced t es).section t =
      { s.section t with ctx := some { c with rises := rises }, queue := [] } := by
  induction es generalizing s c with
  | nil =>
    refine ⟨c.rises, ?_⟩
    rw [State.finishForced, ← hq]
    exact congrArg (fun x : Option PassContext => { s.section t with ctx := x }) h
  | cons e rest ih =>
    rw [State.finishForced, h]
    dsimp only
    obtain ⟨thermal, hsec⟩ := finish_section (s.setSection t { s.section t with queue := rest }) t c e none false true
    rw [section_setSection] at hsec
    obtain ⟨rises, hrest⟩ := ih (congrArg SectionController.ctx hsec) (congrArg SectionController.queue hsec)
    exact ⟨rises, by rw [hrest, hsec]; rfl⟩

theorem abandonEach_empties (h : s.ctx t = some c) {es : List AxleEntry} (hq : (s.section t).queue = es) :
    (s.abandonEach t es).section t = { s.section t with queue := [] } := by
  induction es generalizing s with
  | nil => rw [State.abandonEach, ← hq]
  | cons e rest ih =>
    rw [State.abandonEach, h]
    dsimp only
    have hsec : ((s.setSection t { s.section t with queue := rest }).abandonEntry t c.number e).section t =
        { s.section t with queue := rest } := by
      rw [(abandonEntry_frame _ t _ _).section_eq, section_setSection]
    have hctx : ((s.setSection t { s.section t with queue := rest }).abandonEntry t c.number e).ctx t = some c :=
      (congrArg SectionController.ctx hsec).trans h
    rw [ih hctx (congrArg SectionController.queue hsec), hsec]

/-- R31: a forced close of the queue. -/
theorem forcedClose_section (h : s.ctx t = some c) : ∃ rises, (s.forcedClose t).section t =
    { s.section t with ctx := some { c with rises := rises }, queue := [] } := finishForced_section h rfl

theorem abandonAll_none (h : s.ctx t = none) : s.abandonAll t = s := by
  rw [State.abandonAll]
  cases (s.section t).queue with
  | nil => rfl
  | cons e rest => rw [State.abandonEach, h]

theorem closePass_none (reason : EndReason) (h : s.ctx t = none) : s.closePass t reason = s := by
  rw [State.closePass, h]

theorem abandonPass_none (reason : EndReason) (h : s.ctx t = none) : s.abandonPass t reason = s := by
  rw [State.abandonPass, abandonAll_none h, closePass_none reason h]

/-- R32, R40: a pass that is abandoned. -/
theorem abandonPass_open (reason : EndReason) (h : s.ctx t = some c) : (s.abandonPass t reason).section t =
    { s.section t with queue := [], ctx := none, exitMarks := ⟨[], []⟩ } := by
  have hall : (s.abandonAll t).section t = { s.section t with queue := [] } := abandonEach_empties h rfl
  have hctx : (s.abandonAll t).ctx t = some c := (congrArg SectionController.ctx hall).trans h
  rw [State.abandonPass, closePass_section reason hctx, hall]

/-! ### Closing, draining and coming to rest (R25, R36, R37, R41) -/

theorem drain_section (s : State) (t : TrackId) (n : Nat) : (s.drain t n).section t = { s.section t with
    state := .draining, count := n, approachTimer := none, holdTimer := none, clearTimer := none
    quietTimer := s.startTimer (s.area t).clearTime, closeDelay := none } := by
  rw [State.drain, (stopPacer_frame _ t).section_eq, section_setSection]

/-- R36, R37: a track forced out. -/
theorem forceOut_section (reason : EndReason) (n : Nat) (h : s.ctx t = some c) :
    (s.forceOut t reason n).section t = { s.section t with
      state := .draining, count := n, approachTimer := none, holdTimer := none, clearTimer := none
      quietTimer := s.startTimer (s.area t).clearTime, closeDelay := none
      queue := [], ctx := none, exitMarks := ⟨[], []⟩ } := by
  obtain ⟨rises, hforced⟩ := forcedClose_section h
  have hclosed := closePass_section (s := s.forcedClose t) reason (congrArg SectionController.ctx hforced)
  have frame : Frame (passParts t) s ((s.forcedClose t).closePass t reason) :=
    .step (.one (forcedClose_frame s t)) (closePass_frame _ t reason)
  rw [State.forceOut, (promoteSiteIfReady_frame _).section_eq, drain_section, hclosed, hforced, State.startTimer,
    frame.siteTime_eq, frame.area_eq]
  rfl

theorem rest_section_of (s : State) (t : TrackId) (withDelay : Bool) : (s.rest t withDelay).section t =
    (s.section t).toIdle (if withDelay then s.startTimer (s.area t).closeDelay else none) := by
  rw [State.rest, (stopPacer_frame _ t).section_eq, (startZeroTimer_frame _ t).section_eq]
  exact section_setSection s t _

theorem leaveIdle_section (s : State) (t : TrackId) :
    (s.leaveIdle t).section t = { s.section t with closeDelay := none } := by
  rw [State.leaveIdle]
  dsimp only
  rw [section_setSection, (withdrawZero_frame _ t).section_eq, (stopZeroTimer_frame _ t).section_eq]

theorem enterOccupied_section (s : State) (t : TrackId) : (s.enterOccupied t).section t = { s.section t with
    state := .occupied, approachTimer := none, closeDelay := none, clearTimer := none } := by
  rw [State.enterOccupied, (startPacer_frame _ t).section_eq, section_setSection]

/-! ### Taking events (R27, R28, R33) -/

/-- R27: the section after the event's speed is taken. -/
theorem takeSpeed_section (ev : PairEvent) (h : s.ctx t = some c) : (s.takeSpeed t ev).section t =
    { s.section t with ctx := some { c with heldSpeed := if ev.paired then ev.speed else c.heldSpeed } } := by
  rw [State.takeSpeed, h]
  dsimp only
  split
  · rw [(writeSpeed_frame _ t _).section_eq]
    exact section_setSection s t _
  · exact congrArg (fun x : Option PassContext => { s.section t with ctx := x }) h

/-- R33: the section of a track that resumes. -/
theorem resume_section (h : s.ctx t = some c) : (s.resume t).section t = { s.section t with
    state := .occupied, approachTimer := none, closeDelay := none, clearTimer := none
    holdTimer := s.startTimer (holdTime (s.area t).holdDistance c.heldSpeed) } := by
  have frame := enterOccupied_frame s t
  have hsec := enterOccupied_section s t
  have hctx : (s.enterOccupied t).ctx t = some c := (congrArg SectionController.ctx hsec).trans h
  rw [State.resume, startHold_section hctx, hsec, State.startTimer, frame.siteTime_eq, frame.area_eq]
  rfl

/-- R34: the section of a CLEARING track that ignores a count-out. -/
theorem lateCountOut_section (ev : PairEvent) (h : s.ctx t = some c) : (s.lateCountOut t c ev).section t =
    { s.section t with ctx := some { c with
        exitCount := if ev.pairEnd = exitEnd c.direction then c.exitCount + 1 else c.exitCount } } := by
  rw [State.lateCountOut]
  split
  · exact section_setSection s t _
  · exact congrArg (fun x : Option PassContext => { s.section t with ctx := x }) h

/-- R39: the section after an underflow. -/
theorem underflow_section (s : State) (t : TrackId) :
    (s.underflow t).section t = { s.section t with underflow := true } := by
  rw [State.underflow]
  split
  · next h => rw [← h]
  · rw [(notify_frame _ _).section_eq, section_setSection]

/-! ### Opening a pass (R26) -/

/-- R26: the section of a track on which a pass is formed, recorded or not. -/
theorem formPass_section_of (s : State) (t : TrackId) (ev : PairEvent) : ∃ c : PassContext,
    c.number = s.store.takeNumber ∧ (s.formPass t ev).section t =
      { s.section t with ctx := some c, exitMarks := ⟨[], []⟩ } := by
  unfold State.formPass
  extract_lets number d _ numbered asked held _ formed told
  have hheld : held.section t = s.section t := (requestHeader_frame numbered _).section_eq
  refine ⟨held.newContext t number d ev.speed asked.2, rfl, ?_⟩
  exact (notify_frame told _).section_eq.trans ((section_setSection held t _).trans (congrArg
    (fun x : SectionController => { x with
      ctx := some (held.newContext t number d ev.speed asked.2), exitMarks := ⟨[], []⟩ }) hheld))

/-- R26: a track that leaves rest. -/
theorem leaveRest_section_of (s : State) (t : TrackId) : ∃ delay late, (s.leaveRest t).section t =
    { s.section t with closeDelay := delay, lateClose := late } := by
  rw [State.leaveRest]
  split
  · refine ⟨none, ((s.keepLateClose t).section t).lateClose, ?_⟩
    rw [leaveIdle_section, State.keepLateClose, section_setSection]
  · exact ⟨_, _, rfl⟩

/-- R26 to R28: the section of a track on which a pass opens, recorded or not. -/
theorem openPass_section_of (s : State) (t : TrackId) (ev : PairEvent) : ∃ (c : PassContext) (late : Option SiteTime),
    c.number = s.store.takeNumber ∧ (s.openPass t ev).section t = { s.section t with
      state := .occupied, ctx := some c, exitMarks := ⟨[], []⟩
      approachTimer := none, closeDelay := none, clearTimer := none, lateClose := late
      count := (s.section t).count + 1, queue := (s.section t).queue ++ [AxleEntry.ofCountIn c.entryCount ev]
      holdTimer := ((s.openPass t ev).section t).holdTimer } := by
  obtain ⟨delay, late, hleft⟩ := leaveRest_section_of s t
  obtain ⟨c, hn, hformed⟩ := formPass_section_of (s.leaveRest t) t ev
  have hstore : (s.leaveRest t).store = s.store := leaveRest_frame s t .store (by simp)
  have hopened : (s.openFormed t ev).section t = { s.section t with
      state := .occupied, ctx := some c, exitMarks := ⟨[], []⟩
      approachTimer := none, closeDelay := none, clearTimer := none, lateClose := late } := by
    rw [(openFormed_after s t ev).section_eq, enterOccupied_section, hformed, hleft]
  have hwritten : ((s.openFormed t ev).writeSpeed t ev.speed).section t = _ :=
    ((writeSpeed_frame _ t _).section_eq).trans hopened
  have hctx := congrArg SectionController.ctx hwritten
  have hheld := startHold_section hctx
  obtain ⟨storing, hcounted⟩ := countIn_section ev ((congrArg SectionController.ctx hheld).trans hctx)
  rw [← openPass_eq] at hcounted
  refine ⟨{ c.countedIn ev.speed with storing := storing }, late, hn.trans (by rw [hstore]), ?_⟩
  rw [hcounted, hheld, hwritten]
  rfl

/-! ### Counting out (R29) -/

/-- R29: the state in which an entry has left the head of the queue. -/
def State.headGone (s : State) (t : TrackId) (c : PassContext) : State :=
  s.setSection t { s.section t with
    ctx := some { c with exitCount := c.exitCount + 1 }, count := (s.section t).count - 1
    queue := (s.section t).queue.drop 1 }

/-- R29: the state in which the head of the queue is finished, if there is one. -/
def State.headOut (s : State) (t : TrackId) (c : PassContext) (ev : PairEvent) : State :=
  match (s.section t).queue with
  | [] => s.headGone t c
  | e :: _ =>
    let drift := s.driftAt t { c with exitCount := c.exitCount + 1 } e ev.firstSensor ev.firstStamp
    (s.headGone t c).finish t { c with exitCount := c.exitCount + 1 } (e.countedOut ev) drift
      (exceedsDrift (s.area t) drift) false

theorem countOut_eq (ev : PairEvent) (h : s.ctx t = some c) : s.countOut t ev =
    if (s.section t).count - 1 = 0 then (s.headOut t c ev).enterClearing t else (s.headOut t c ev).startHold t := by
  rw [State.countOut, h]
  rfl

theorem headOut_frame (s : State) (t : TrackId) (c : PassContext) (ev : PairEvent) :
    Frame (finishParts t) s (s.headOut t c ev) := by
  unfold State.headOut
  split
  · exact (setSection_frame s t _).mono (by simp)
  · exact .step (.one (setSection_frame s t _)) (finish_frame _ t _ _ _ _ _)

theorem headOut_section (s : State) (t : TrackId) (c : PassContext) (ev : PairEvent) :
    ∃ rises, (s.headOut t c ev).section t = { s.section t with
      ctx := some { c with exitCount := c.exitCount + 1, rises := rises }
      count := (s.section t).count - 1, queue := (s.section t).queue.drop 1 } := by
  unfold State.headOut
  split
  · exact ⟨c.rises, section_setSection s t _⟩
  · next e _ _ =>
    obtain ⟨thermal, h⟩ := finish_section (s.headGone t c) t { c with exitCount := c.exitCount + 1 } (e.countedOut ev)
      (s.driftAt t { c with exitCount := c.exitCount + 1 } e ev.firstSensor ev.firstStamp)
      (exceedsDrift (s.area t) (s.driftAt t { c with exitCount := c.exitCount + 1 } e ev.firstSensor ev.firstStamp))
      false
    exact ⟨_, h.trans (by rw [State.headGone, section_setSection]; rfl)⟩

/-- R29: the section after an axle is counted out. -/
theorem countOut_section (ev : PairEvent) (h : s.ctx t = some c) : ∃ rises, (s.countOut t ev).section t =
    if (s.section t).count - 1 = 0 then { s.section t with
      state := .clearing, holdTimer := none, clearTimer := s.startTimer (s.area t).clearTime
      ctx := some { c with exitCount := c.exitCount + 1, rises := rises }
      count := (s.section t).count - 1, queue := (s.section t).queue.drop 1 }
    else { s.section t with
      holdTimer := s.startTimer (holdTime (s.area t).holdDistance c.heldSpeed)
      ctx := some { c with exitCount := c.exitCount + 1, rises := rises }
      count := (s.section t).count - 1, queue := (s.section t).queue.drop 1 } := by
  obtain ⟨rises, hsec⟩ := headOut_section s t c ev
  have frame := headOut_frame s t c ev
  refine ⟨rises, ?_⟩
  rw [countOut_eq ev h]
  split
  · rw [State.enterClearing, section_setSection, hsec, State.startTimer, frame.siteTime_eq, frame.area_eq]
    rfl
  · rw [startHold_section (congrArg SectionController.ctx hsec), hsec, State.startTimer, frame.siteTime_eq,
      frame.area_eq]
    rfl

end Operations

end Sys2Proof.Machine
end

section
/-! PROOFS. The close of a pass (R40, R133, R144), step by step: what it leaves of its held pass, of the other held
passes, and of the alarm list. -/

namespace Sys2Proof.Machine

open Sys2Proof

/-! ### The steps -/

/-- R40, step 1, with R152. -/
def State.closeBegun (s : State) (t : TrackId) (c : PassContext) (reason : EndReason) : State :=
  { s with alarms := s.alarms.closeBegins t c.number }.updatePass t c.number fun p =>
    p.closeHeader c reason s.siteTime s.stationTime

/-- R40, step 2. -/
def State.closeJudged (s : State) (t : TrackId) (c : PassContext) (reason : EndReason) : State :=
  if c.mismatch reason then
    (s.flagPass t c.number fun f => { f with countMismatch := true }).raise (mismatchAlarm t c)
  else s

/-- R40, step 4, with R133. -/
def State.closeComplete (s : State) (t : TrackId) (c : PassContext) : State :=
  s.updatePass t c.number fun p => p.completeClose s.attachedPorts

/-- R40, steps 1 to 4. -/
def State.closeStore (s : State) (t : TrackId) (c : PassContext) (reason : EndReason) : State :=
  (((s.closeBegun t c reason).closeJudged t c reason).closingMatch t).closeComplete t c

theorem closePass_eq {s : State} {t : TrackId} {c : PassContext} (reason : EndReason) (h : s.ctx t = some c) :
    s.closePass t reason =
      let u := (s.closeStore t c reason).notify (.passClosed c.number t reason)
      (u.setSection t { u.section t with ctx := none, exitMarks := ⟨[], []⟩ }).withdrawPace t c.number := by
  rw [State.closePass, h]
  rfl

section Steps

variable {s : State} {t : TrackId} {c : PassContext} {reason : EndReason}

theorem closePass_after (reason : EndReason) (h : s.ctx t = some c) :
    Frame [.control t, .slot t, .notices .a, .notices .b] (s.closeStore t c reason) (s.closePass t reason) := by
  rw [closePass_eq reason h]
  exact .step (.step (.one (notify_frame _ _)) (setSection_frame _ t _)) (withdrawPace_frame _ t _)

theorem closeBegun_frame (s : State) (t : TrackId) (c : PassContext) (reason : EndReason) :
    Frame [.alarms, .store] s (s.closeBegun t c reason) :=
  .step (.one (withAlarms_frame s _)) (updatePass_frame _ t _ _)

theorem closeJudged_frame (s : State) (t : TrackId) (c : PassContext) (reason : EndReason) :
    Frame alarmParts s (s.closeJudged t c reason) := by
  unfold State.closeJudged
  split
  · exact .step (.one (flagPass_frame s t _ _)) (raise_frame _ _)
  · exact .refl _ s

end Steps

/-! ### One update of a held pass -/

section Update

variable {s : State} {t o : TrackId} {n m : Nat} {f : HeldPass → HeldPass} {p : HeldPass}

theorem updatePass_ofTrack_self (hn : ∀ p, (f p).number = p.number) (ht : ∀ p, (f p).track = p.track)
    (hp : s.store.ofTrack t n = some p) : (s.updatePass t n f).store.ofTrack t n = some (f p) := by
  obtain ⟨-, hpn, hpt⟩ := PassStore.ofTrack_some hp
  rw [State.updatePass, ofTrack_updateOfTrack hn ht, hp, Option.map_some, if_pos ⟨hpn, hpt⟩]

theorem updatePass_ofTrack_of_ne (hn : ∀ p, (f p).number = p.number) (ht : ∀ p, (f p).track = p.track)
    (h : o ≠ t ∨ m ≠ n) : (s.updatePass t n f).store.ofTrack o m = s.store.ofTrack o m := by
  rw [State.updatePass, ofTrack_updateOfTrack hn ht]
  cases hp : s.store.ofTrack o m with
  | none => rfl
  | some p =>
    obtain ⟨-, hpn, hpt⟩ := PassStore.ofTrack_some hp
    rw [Option.map_some, if_neg]
    rintro ⟨h1, h2⟩
    exact h.elim (fun h => h (hpt.symm.trans h2)) fun h => h (hpn.symm.trans h1)

end Update

/-- Writes that reclaim nothing leave a pass that they do not speak of. -/
theorem Writes.same {t : TrackId} {K : Nat → Prop} {F : List Kind} {s u : State} (h : Writes t K F s u)
    (hs : s.store.poolsOk = true) (hF : Kind.reclaim ∉ F) {o : TrackId} {n : Nat} (hne : o ≠ t ∨ ¬K n) :
    u.store.ofTrack o n = s.store.ofTrack o n := by
  cases hp : s.store.ofTrack o n with
  | some p =>
    obtain ⟨q, hq, hpq⟩ := h.stays_held hs hp (.inl hF)
    rw [hq, hpq.same hne]
  | none =>
    refine Option.eq_none_iff_forall_ne_some.mpr fun q hq => ?_
    obtain ⟨p, hp', -⟩ := h.was_held hs hq
    rw [hp] at hp'
    nomatch hp'

/-! ### What the steps leave of the store -/

/-- R40, R133: a held pass once its close is complete, but for what noting alarms and vehicles changes. -/
def HeldPass.closedBy (p : HeldPass) (c : PassContext) (reason : EndReason) (s : State) : HeldPass :=
  { p.closeHeader c reason s.siteTime s.stationTime with
    flags := { p.flags with countMismatch := p.flags.countMismatch || c.mismatch reason }
    state := .closed, retention := s.attachedPorts, release := ⟨false, false⟩ }

section Held

variable {s : State} {t : TrackId} {c : PassContext} {reason : EndReason}

theorem closeBegun_poolsOk (reason : EndReason) (hs : s.store.poolsOk = true) :
    (s.closeBegun t c reason).store.poolsOk = true :=
  PassStore.updateOfTrack_poolsOk (fun _ => rfl) (fun _ => rfl) (fun _ => rfl) hs

theorem closeComplete_poolsOk (hs : s.store.poolsOk = true) : (s.closeComplete t c).store.poolsOk = true :=
  PassStore.updateOfTrack_poolsOk (fun _ => rfl) (fun _ => rfl) (fun _ => rfl) hs

/-- R40, step 2: the alarm of a mismatch. -/
theorem mismatchAlarm_writes (s : State) (t : TrackId) (c : PassContext) :
    Writes t (· = c.number) [] s (s.raise (mismatchAlarm t c)) := .one (.raise _ _ rfl rfl)

theorem closeJudged_poolsOk (reason : EndReason) (hs : s.store.poolsOk = true) :
    (s.closeJudged t c reason).store.poolsOk = true := by
  unfold State.closeJudged
  split
  · exact (mismatchAlarm_writes _ t c).poolsOk
      (PassStore.updateOfTrack_poolsOk (fun _ => rfl) (fun _ => rfl) (fun _ => rfl) hs)
  · exact hs

/-- R40, step 2: the header's flag. -/
theorem closeJudged_held (reason : EndReason) (hs : s.store.poolsOk = true) {p : HeldPass}
    (hp : s.store.ofTrack t c.number = some p) : ∃ q, (s.closeJudged t c reason).store.ofTrack t c.number = some q ∧
      q.kept = { p with flags := { p.flags with
        countMismatch := p.flags.countMismatch || c.mismatch reason } }.kept := by
  unfold State.closeJudged
  split
  · next hm =>
    obtain ⟨q, hq, hpq⟩ := (mismatchAlarm_writes (s.flagPass t c.number fun f => { f with countMismatch := true }) t
      c).stays_held (PassStore.updateOfTrack_poolsOk (fun _ => rfl) (fun _ => rfl) (fun _ => rfl) hs)
      (updatePass_ofTrack_self (fun _ => rfl) (fun _ => rfl) hp) (.inl (by simp))
    exact ⟨q, hq, by rw [hpq.kept (by simp) (by simp), hm, Bool.or_true]⟩
  · next hm => exact ⟨p, hp, by rw [Bool.eq_false_iff.mpr hm, Bool.or_false]⟩

theorem closeJudged_elsewhere (reason : EndReason) (hs : s.store.poolsOk = true) {o : TrackId} {n : Nat}
    (hne : o ≠ t ∨ n ≠ c.number) : (s.closeJudged t c reason).store.ofTrack o n = s.store.ofTrack o n := by
  unfold State.closeJudged
  split
  · exact ((mismatchAlarm_writes (s.flagPass t c.number fun f => { f with countMismatch := true }) t c).same
      (PassStore.updateOfTrack_poolsOk (fun _ => rfl) (fun _ => rfl) (fun _ => rfl) hs) (by simp) hne).trans
      (updatePass_ofTrack_of_ne (fun _ => rfl) (fun _ => rfl) hne)
  · rfl

/-- R40: before the closing match the header is marked, and its state is CLOSING. -/
theorem closeMarked_held (reason : EndReason) (hs : s.store.poolsOk = true) {p : HeldPass}
    (hp : s.store.ofTrack t c.number = some p) :
    ∃ q, ((s.closeBegun t c reason).closeJudged t c reason).store.ofTrack t c.number = some q ∧
      q.kept = { p.closeHeader c reason s.siteTime s.stationTime with flags := { p.flags with
        countMismatch := p.flags.countMismatch || c.mismatch reason } }.kept :=
  closeJudged_held reason (closeBegun_poolsOk reason hs)
    (updatePass_ofTrack_self (s := { s with alarms := s.alarms.closeBegins t c.number })
      (f := fun p => p.closeHeader c reason s.siteTime s.stationTime) (fun _ => rfl) (fun _ => rfl) hp)

theorem closeMarked_poolsOk (reason : EndReason) (hs : s.store.poolsOk = true) :
    ((s.closeBegun t c reason).closeJudged t c reason).store.poolsOk = true :=
  closeJudged_poolsOk reason (closeBegun_poolsOk reason hs)

theorem closeMarked_elsewhere (reason : EndReason) (hs : s.store.poolsOk = true) {o : TrackId} {n : Nat}
    (hne : o ≠ t ∨ n ≠ c.number) :
    ((s.closeBegun t c reason).closeJudged t c reason).store.ofTrack o n = s.store.ofTrack o n :=
  (closeJudged_elsewhere reason (closeBegun_poolsOk reason hs) hne).trans
    (updatePass_ofTrack_of_ne (s := { s with alarms := s.alarms.closeBegins t c.number })
      (f := fun p => p.closeHeader c reason s.siteTime s.stationTime) (fun _ => rfl) (fun _ => rfl) hne)

theorem attachedPorts_frame {F : List Part} {u : State} (h : Frame F s u)
    (ha : Part.attached .a ∉ F := by simp) (hb : Part.attached .b ∉ F := by simp) :
    u.attachedPorts = s.attachedPorts := by
  have h1 : u.ports.a.attached = s.ports.a.attached := h (.attached .a) ha
  have h2 : u.ports.b.attached = s.ports.b.attached := h (.attached .b) hb
  rw [State.attachedPorts, State.attachedPorts, PerPort.map, PerPort.map, h1, h2]

/-- The matching context of the track, and the pass that closes, are of passes with numbers in `K`. -/
theorem closeMarked_contextIn {K : Nat → Prop} (reason : EndReason) (h : ContextIn K t s) :
    ContextIn K t ((s.closeBegun t c reason).closeJudged t c reason) :=
  (h.through (closeBegun_frame s t c reason)).through (closeJudged_frame _ t c reason)

theorem closeStore_poolsOk (reason : EndReason) (hs : s.store.poolsOk = true) :
    (s.closeStore t c reason).store.poolsOk = true :=
  closeComplete_poolsOk ((closingMatch_writes (K := fun _ => True) fun _ _ => trivial).poolsOk
    (closeMarked_poolsOk reason hs))

theorem closePass_poolsOk (reason : EndReason) (hs : s.store.poolsOk = true) :
    (s.closePass t reason).store.poolsOk = true := by
  cases h : s.ctx t with
  | none => rwa [State.closePass, h]
  | some c =>
    rw [closePass_after reason h .store (by simp)]
    exact closeStore_poolsOk reason hs

/-- R40, R133, R136: the held pass of the pass that closes stays held, closed. -/
theorem closePass_held (reason : EndReason) (hs : s.store.poolsOk = true) (h : s.ctx t = some c) {p : HeldPass}
    (hp : s.store.ofTrack t c.number = some p) :
    ∃ q, (s.closePass t reason).store.ofTrack t c.number = some q ∧ q.kept = (p.closedBy c reason s).kept := by
  obtain ⟨q, hq, hpq⟩ := closeMarked_held reason hs hp
  have hstate : q.state = .closing := (congrArg HeldPass.state hpq :)
  obtain ⟨r, hr, hqr⟩ := (closingMatch_writes (K := fun _ => True) (t := t) fun _ _ => trivial).stays_held
    (closeMarked_poolsOk reason hs) hq (.inr (releasable_of_open (by rw [hstate]; exact PassState.noConfusion)))
  have attached : (((s.closeBegun t c reason).closeJudged t c reason).closingMatch t).attachedPorts =
      s.attachedPorts :=
    (attachedPorts_frame (closingMatch_frame _ t)).trans
      ((attachedPorts_frame (closeJudged_frame _ t c reason)).trans (attachedPorts_frame (closeBegun_frame s t c reason)))
  have hcomplete := updatePass_ofTrack_self (s := ((s.closeBegun t c reason).closeJudged t c reason).closingMatch t)
    (f := fun p => p.completeClose
      (((s.closeBegun t c reason).closeJudged t c reason).closingMatch t).attachedPorts)
    (fun _ => rfl) (fun _ => rfl) hr
  refine ⟨_, (congrArg (fun st : PassStore => st.ofTrack t c.number)
    (closePass_after reason h .store (by simp))).trans hcomplete, ?_⟩
  have hkept : r.kept = { p.closeHeader c reason s.siteTime s.stationTime with flags := { p.flags with
      countMismatch := p.flags.countMismatch || c.mismatch reason } }.kept :=
    (hqr.kept (by simp) (by simp)).trans hpq
  rw [attached]
  exact congrArg (fun x : HeldPass => x.completeClose s.attachedPorts) hkept

/-- R40, R136: a pass that no reclaim picks and that is neither the one that closes nor that of the track's matching
context stays as it is. -/
theorem closePass_elsewhere {K : Nat → Prop} (reason : EndReason) (hs : s.store.poolsOk = true)
    (hK : ∀ c, s.ctx t = some c → K c.number) (hx : ContextIn K t s) {o : TrackId} {n : Nat}
    (hne : o ≠ t ∨ ¬K n) {p : HeldPass} (hp : s.store.ofTrack o n = some p) (hr : p.releasable = false) :
    (s.closePass t reason).store.ofTrack o n = some p := by
  cases h : s.ctx t with
  | none => rwa [State.closePass, h]
  | some c =>
    have hnc : o ≠ t ∨ n ≠ c.number := hne.imp id fun hn hc => hn (hc ▸ hK c h)
    obtain ⟨q, hq, hpq⟩ := (closingMatch_writes (closeMarked_contextIn (c := c) reason hx)).stays_held
      (closeMarked_poolsOk reason hs) ((closeMarked_elsewhere reason hs hnc).trans hp) (.inr hr)
    rw [closePass_after reason h .store (by simp)]
    exact (updatePass_ofTrack_of_ne (s := ((s.closeBegun t c reason).closeJudged t c reason).closingMatch t)
      (f := fun p => p.completeClose (((s.closeBegun t c reason).closeJudged t c reason).closingMatch t).attachedPorts)
      (fun _ => rfl) (fun _ => rfl) hnc).trans (hq.trans (by rw [hpq.same hne]))

/-- R144, R145: what a close leaves of the alarm list. -/
theorem closePass_alarms (s : State) (t : TrackId) (reason : EndReason) :
    s.alarms.Grows (s.closePass t reason).alarms := by
  cases h : s.ctx t with
  | none =>
    rw [State.closePass, h]
    exact .of_eq rfl rfl rfl
  | some c =>
    have begun : s.alarms.Grows (s.closeBegun t c reason).alarms := .of_eq rfl rfl rfl
    have judged : (s.closeBegun t c reason).alarms.Grows
        ((s.closeBegun t c reason).closeJudged t c reason).alarms := by
      unfold State.closeJudged
      split
      · exact (mismatchAlarm_writes ((s.closeBegun t c reason).flagPass t c.number fun f =>
          { f with countMismatch := true }) t c).alarms
      · exact .of_eq rfl rfl rfl
    rw [closePass_after reason h .alarms (by simp)]
    exact (begun.trans judged).trans (closingMatch_writes (K := fun _ => True) fun _ _ => trivial).alarms

end Held


end Sys2Proof.Machine
end

section
/-! PROOFS. The counts, queues, open passes and timers of a section (R20, R21): what being in order means, field by
field, and that each operation of the section controller keeps it. -/

namespace Sys2Proof.Machine

open Sys2Proof

/-- R20, R21: a section in order, in every state alike. -/
structure SectionController.InOrder (c : SectionController) : Prop where
  count_le : c.count ≤ 32
  passing : c.ctx.isSome = true ↔ c.state = .occupied ∨ c.state = .standing ∨ c.state = .clearing
  queued : c.state = .occupied ∨ c.state = .standing → c.queue.length = c.count ∧ 1 ≤ c.count
  empty : c.state ≠ .occupied → c.state ≠ .standing → c.queue = []
  zero : c.state ≠ .occupied → c.state ≠ .standing → c.state ≠ .draining → c.count = 0
  approachTimer : c.state ≠ .approach → c.approachTimer = none
  holdTimer : c.state ≠ .occupied → c.holdTimer = none
  clearTimer : c.state ≠ .clearing → c.clearTimer = none
  quietTimer : c.state ≠ .draining → c.quietTimer = none
  closeDelay : c.state ≠ .idle → c.closeDelay = none

theorem isNone_or {timer : Timer} {P : Prop} [Decidable P] :
    (timer.isNone || decide P) = true ↔ (¬P → timer = none) := by
  cases timer <;> simp

theorem timersOk_iff (c : SectionController) : c.timersOk = true ↔
    (c.state ≠ .approach → c.approachTimer = none) ∧ (c.state ≠ .occupied → c.holdTimer = none) ∧
      (c.state ≠ .clearing → c.clearTimer = none) ∧ (c.state ≠ .draining → c.quietTimer = none) ∧
      (c.state ≠ .idle → c.closeDelay = none) := by
  simp only [SectionController.timersOk, Bool.and_eq_true, isNone_or, and_assoc, ne_eq]

theorem countsOk_iff (c : SectionController) : c.countsOk = true ↔ c.count ≤ 32 ∧
    (c.ctx.isSome = true ↔ c.state = .occupied ∨ c.state = .standing ∨ c.state = .clearing) ∧
    (c.state = .occupied ∨ c.state = .standing → c.queue.length = c.count ∧ 1 ≤ c.count) ∧
    (c.state ≠ .occupied → c.state ≠ .standing → c.queue = []) ∧
    (c.state ≠ .occupied → c.state ≠ .standing → c.state ≠ .draining → c.count = 0) := by
  rw [SectionController.countsOk, Bool.and_eq_true, decide_eq_true_eq]
  refine and_congr_right fun _ => ?_
  cases c.state <;> cases c.ctx <;> simp

theorem inOrder_iff (c : SectionController) : c.InOrder ↔ c.countsOk = true ∧ c.timersOk = true := by
  rw [countsOk_iff, timersOk_iff]
  constructor
  · intro h
    exact ⟨⟨h.count_le, h.passing, h.queued, h.empty, h.zero⟩, h.approachTimer, h.holdTimer, h.clearTimer,
      h.quietTimer, h.closeDelay⟩
  · rintro ⟨⟨h1, h2, h3, h4, h5⟩, h6, h7, h8, h9, h10⟩
    exact ⟨h1, h2, h3, h4, h5, h6, h7, h8, h9, h10⟩

theorem sectionsOk_iff (s : State) : s.sectionsOk = true ↔ ∀ t, (s.section t).InOrder := by
  simp only [inOrder_iff, State.sectionsOk, Bool.and_eq_true, and_assoc]
  refine ⟨fun ⟨h1, h2, h3, h4⟩ t => ?_, fun h => ⟨(h .t1).1, (h .t1).2, (h .t2).1, (h .t2).2⟩⟩
  cases t
  · exact ⟨h1, h2⟩
  · exact ⟨h3, h4⟩

/-- A section that keeps its state, its count, the length of its queue and whether a pass is open, and of whose
timers those that ran may have stopped or run anew. -/
structure SectionController.Rearranged (c d : SectionController) : Prop where
  state : d.state = c.state
  count : d.count = c.count
  queue : d.queue.length = c.queue.length
  number : d.ctx.map (fun x => x.number) = c.ctx.map fun x => x.number
  approachTimer : c.approachTimer = none → d.approachTimer = none
  holdTimer : c.holdTimer = none → d.holdTimer = none
  clearTimer : c.clearTimer = none → d.clearTimer = none
  quietTimer : c.quietTimer = none → d.quietTimer = none
  closeDelay : c.closeDelay = none → d.closeDelay = none

theorem SectionController.Rearranged.refl (c : SectionController) : c.Rearranged c :=
  ⟨rfl, rfl, rfl, rfl, id, id, id, id, id⟩

theorem SectionController.Rearranged.inOrder {c d : SectionController} (h : c.Rearranged d) (hc : c.InOrder) :
    d.InOrder := by
  have hsome : d.ctx.isSome = c.ctx.isSome := by
    have := congrArg Option.isSome h.number
    rwa [Option.isSome_map, Option.isSome_map] at this
  have hempty (hq : c.queue = []) : d.queue = [] := List.length_eq_zero_iff.mp (by rw [h.queue, hq, List.length_nil])
  constructor
  · exact h.count ▸ hc.count_le
  · rw [hsome, h.state]
    exact hc.passing
  · rw [h.state, h.queue, h.count]
    exact hc.queued
  · rw [h.state]
    exact fun h1 h2 => hempty (hc.empty h1 h2)
  · rw [h.state, h.count]
    exact hc.zero
  · rw [h.state]
    exact h.approachTimer ∘ hc.approachTimer
  · rw [h.state]
    exact h.holdTimer ∘ hc.holdTimer
  · rw [h.state]
    exact h.clearTimer ∘ hc.clearTimer
  · rw [h.state]
    exact h.quietTimer ∘ hc.quietTimer
  · rw [h.state]
    exact h.closeDelay ∘ hc.closeDelay

theorem SectionController.InOrder.ctx_none {c : SectionController} (h : c.InOrder) (h1 : c.state ≠ .occupied)
    (h2 : c.state ≠ .standing) (h3 : c.state ≠ .clearing) : c.ctx = none := by
  rw [← Option.not_isSome_iff_eq_none, h.passing]
  simp [h1, h2, h3]

section Events

variable {s : State} {t : TrackId} {c : PassContext}

/-- R26 to R28: opening a pass on a track at rest. -/
theorem openPass_inOrder (ev : PairEvent) (hcount : (s.section t).count = 0) (hqueue : (s.section t).queue = [])
    (hquiet : (s.section t).quietTimer = none) : ((s.openPass t ev).section t).InOrder := by
  obtain ⟨c, late, -, hsec⟩ := openPass_section_of s t ev
  rw [hsec]
  constructor <;> simp [hcount, hqueue, hquiet]

/-- R28: counting an axle in. -/
theorem countIn_inOrder (ev : PairEvent) (hc : s.ctx t = some c) (hstate : (s.section t).state = .occupied)
    (hlt : (s.section t).count < 32) (hlen : (s.section t).queue.length = (s.section t).count)
    (happroach : (s.section t).approachTimer = none) (hclear : (s.section t).clearTimer = none)
    (hquiet : (s.section t).quietTimer = none) (hdelay : (s.section t).closeDelay = none) :
    ((s.countIn t ev).section t).InOrder := by
  obtain ⟨storing, hsec⟩ := countIn_section ev hc
  rw [hsec]
  constructor <;> simp [hstate, hlen, happroach, hclear, hquiet, hdelay]
  omega

/-- R29: counting an axle out. -/
theorem countOut_inOrder (ev : PairEvent) (hc : s.ctx t = some c) (hstate : (s.section t).state = .occupied)
    (h : (s.section t).InOrder) : ((s.countOut t ev).section t).InOrder := by
  obtain ⟨rises, hsec⟩ := countOut_section ev hc
  obtain ⟨hlen, hpos⟩ := h.queued (.inl hstate)
  have hle := h.count_le
  have happroach := h.approachTimer (by simp [hstate])
  have hclear := h.clearTimer (by simp [hstate])
  have hquiet := h.quietTimer (by simp [hstate])
  have hdelay := h.closeDelay (by simp [hstate])
  rw [hsec]
  split
  · next hlast =>
    have hempty : (s.section t).queue.drop 1 = [] := List.drop_eq_nil_of_le (by omega)
    constructor <;> simp [hlast, hempty, happroach, hquiet, hdelay]
  · next hmore =>
    constructor <;> simp [hstate, hlen, happroach, hclear, hquiet, hdelay]
    · omega
    · omega

/-- R36, R37: forcing a track out. -/
theorem forceOut_inOrder (reason : EndReason) {n : Nat} (hn : n ≤ 32) (hc : s.ctx t = some c) :
    ((s.forceOut t reason n).section t).InOrder := by
  rw [forceOut_section reason n hc]
  constructor <;> simp [hn]

theorem drainCount_le {n : Nat} (h : n ≤ 32) (inward : Bool) : drainCount n inward ≤ 32 := by
  rw [drainCount]
  split <;> omega

/-- R27 to R29, R36, R37: an OCCUPIED track takes an event. -/
theorem takeOccupied_inOrder (ev : PairEvent) (hc : s.ctx t = some c) (hstate : (s.section t).state = .occupied)
    (h : (s.section t).InOrder) : ((s.takeOccupied t c ev).section t).InOrder := by
  have taken := takeSpeed_section ev hc
  have hctx := congrArg SectionController.ctx taken
  have hle := h.count_le
  rw [State.takeOccupied]
  dsimp only
  split
  · split
    · split
      · refine countIn_inOrder ev hctx ?_ ?_ ?_ ?_ ?_ ?_ ?_
        · rw [taken]; exact hstate
        · rw [taken]; assumption
        · rw [taken]; exact (h.queued (.inl hstate)).1
        · rw [taken]; exact h.approachTimer (by simp [hstate])
        · rw [taken]; exact h.clearTimer (by simp [hstate])
        · rw [taken]; exact h.quietTimer (by simp [hstate])
        · rw [taken]; exact h.closeDelay (by simp [hstate])
      · exact forceOut_inOrder .countOverrun (le_refl 32) hctx
    · exact forceOut_inOrder .reversed (drainCount_le hle true) hc
  · split
    · refine countOut_inOrder ev hctx (by rw [taken]; exact hstate) ?_
      rw [taken]
      exact SectionController.Rearranged.inOrder (c := s.section t) ⟨rfl, rfl, rfl,
        (congrArg (Option.map fun x => x.number) hc).symm, id, id, id, id, id⟩ h
    · exact forceOut_inOrder .reversed (drainCount_le hle false) hc

/-- R33: a STANDING track resumes. -/
theorem resume_inOrder (hc : s.ctx t = some c) (hstate : (s.section t).state = .standing)
    (h : (s.section t).InOrder) : ((s.resume t).section t).InOrder := by
  obtain ⟨hlen, hpos⟩ := h.queued (.inr hstate)
  have hsome : (s.section t).ctx.isSome = true := h.passing.mpr (.inr (.inl hstate))
  have hquiet := h.quietTimer (by simp [hstate])
  rw [resume_section hc]
  constructor <;> simp [h.count_le, hlen, hpos, hsome, hquiet]

/-- R34, R35: a CLEARING track takes an event. -/
theorem takeClearing_inOrder (ev : PairEvent) (hc : s.ctx t = some c) (hstate : (s.section t).state = .clearing)
    (h : (s.section t).InOrder) : ((s.takeClearing t c ev).section t).InOrder := by
  have hqueue := h.empty (by simp [hstate]) (by simp [hstate])
  have hcount := h.zero (by simp [hstate]) (by simp [hstate]) (by simp [hstate])
  have hquiet := h.quietTimer (by simp [hstate])
  rw [State.takeClearing]
  split
  · split
    · have resumed := enterOccupied_section s t
      have taken := takeSpeed_section ev ((congrArg SectionController.ctx resumed).trans hc)
      have held := startHold_section (congrArg SectionController.ctx taken)
      rw [taken, resumed] at held
      refine countIn_inOrder ev (congrArg SectionController.ctx held) ?_ ?_ ?_ ?_ ?_ ?_ ?_ <;> rw [held]
      · exact lt_of_eq_of_lt hcount (by decide)
      · exact hqueue ▸ hcount.symm
      · exact hquiet
    · have closed := closePass_section .normal hc
      refine openPass_inOrder ev ?_ ?_ ?_ <;> rw [closed] <;> assumption
  · refine SectionController.Rearranged.inOrder ?_ h
    rw [underflow_section, lateCountOut_section ev hc]
    exact ⟨rfl, rfl, rfl, (congrArg (Option.map fun x => x.number) hc).symm, id, id, id, id, id⟩

/-- R18, R19: a track takes an event. -/
theorem takeEvent_inOrder (ev : PairEvent) (h : (s.section t).InOrder) : ((s.takeEvent t ev).section t).InOrder := by
  have atRest (hstate : (s.section t).state = .idle ∨ (s.section t).state = .approach) :
      ((if ev.inward then s.openPass t ev else s.underflow t).section t).InOrder := by
    split
    · refine openPass_inOrder ev (h.zero ?_ ?_ ?_) (h.empty ?_ ?_) (h.quietTimer ?_) <;>
        rcases hstate with hstate | hstate <;> simp [hstate]
    · refine SectionController.Rearranged.inOrder ?_ h
      rw [underflow_section]
      exact ⟨rfl, rfl, rfl, rfl, id, id, id, id, id⟩
  unfold State.takeEvent
  split
  case h_1 => exact h
  case h_2 => exact h
  case h_3 hstate => exact atRest (.inl hstate)
  case h_4 hstate => exact atRest (.inr hstate)
  case h_5 hstate =>
    have hqueue := h.empty (by simp [hstate]) (by simp [hstate])
    have hctx := h.ctx_none (by simp [hstate]) (by simp [hstate]) (by simp [hstate])
    have happroach := h.approachTimer (by simp [hstate])
    have hhold := h.holdTimer (by simp [hstate])
    have hclear := h.clearTimer (by simp [hstate])
    have hdelay := h.closeDelay (by simp [hstate])
    rw [section_setSection]
    constructor <;> simp [hstate, hqueue, hctx, happroach, hhold, hclear, hdelay, drainCount_le h.count_le]
  case h_6 hstate =>
    split
    · exact h
    · next c hc => exact takeClearing_inOrder ev hc hstate h
  case h_7 hstate =>
    split
    · exact h
    · next c hc =>
      have resumed := resume_section hc
      exact takeOccupied_inOrder ev ((congrArg SectionController.ctx resumed).trans hc)
        (congrArg SectionController.state resumed) (resume_inOrder hc hstate h)
  case h_8 hstate =>
    split
    · exact h
    · next c hc => exact takeOccupied_inOrder ev hc hstate h

end Events

end Sys2Proof.Machine
end

section
/-! PROOFS. The held pass of an open pass (R128): which passes an operation on one track leaves alone, and that the
header of the track's own open pass stays OPEN until its close. -/

namespace Sys2Proof.Machine

open Sys2Proof

/-- R128, R136: the held pass of the track's open pass, where it is recorded, is OPEN. -/
def State.OpenHeld (s : State) (t : TrackId) : Prop :=
  ∀ c, s.ctx t = some c → ∀ p, s.store.ofTrack t c.number = some p → p.state = .opened

theorem openPassesOk_iff {s : State} (h : s.store.poolsOk = true) : s.openPassesOk = true ↔ ∀ t, s.OpenHeld t := by
  have hlist : ∀ P : TrackId → Prop, (∀ t ∈ [TrackId.t1, .t2], P t) ↔ ∀ t, P t := fun P =>
    ⟨fun h t => h t (by cases t <;> simp), fun h t _ => h t⟩
  rw [State.openPassesOk, List.all_eq_true, hlist]
  refine forall_congr' fun t => ?_
  rw [State.OpenHeld]
  cases hc : s.ctx t with
  | none => simp
  | some c =>
    simp only [List.all_eq_true, Bool.or_eq_true, Bool.not_eq_true', decide_eq_true_eq, decide_eq_false_iff_not,
      ofTrack_iff_mem h, Option.some.injEq, forall_eq']
    refine ⟨fun h p ⟨hp, hn, ht⟩ => (h p hp).resolve_left (fun hne => hne ⟨hn, ht⟩), fun h p hp => ?_⟩
    by_cases hnt : p.number = c.number ∧ p.track = t
    · exact .inr (h p ⟨hp, hnt⟩)
    · exact .inl hnt

theorem openHeld_of_none {s : State} {t : TrackId} (h : s.ctx t = none) : s.OpenHeld t := by
  intro c hc
  rw [h] at hc
  nomatch hc

/-- A store in which the passes that `A` speaks of have the states that they had. -/
def Steady (A : TrackId → Nat → Prop) (s u : State) : Prop :=
  s.store.poolsOk = true → u.store.poolsOk = true ∧ ∀ o n, A o n → ∀ q, u.store.ofTrack o n = some q →
    ∃ p, s.store.ofTrack o n = some p ∧ p.state = q.state

section Steady

variable {A : TrackId → Nat → Prop} {s u v : State} {t : TrackId}

theorem Steady.refl (A : TrackId → Nat → Prop) (s : State) : Steady A s s := fun h => ⟨h, fun _ _ _ q hq => ⟨q, hq, rfl⟩⟩

theorem Steady.trans (h : Steady A s u) (k : Steady A u v) : Steady A s v := by
  intro hs
  obtain ⟨hu, hsu⟩ := h hs
  obtain ⟨hv, huv⟩ := k hu
  refine ⟨hv, fun o n ha q hq => ?_⟩
  obtain ⟨p, hp, hpq⟩ := huv o n ha q hq
  obtain ⟨r, hr, hrp⟩ := hsu o n ha p hp
  exact ⟨r, hr, hrp.trans hpq⟩

theorem Steady.of_store (h : u.store = s.store) : Steady A s u :=
  fun hs => ⟨by rwa [h], fun _ _ _ q hq => ⟨q, by rwa [← h], rfl⟩⟩

theorem Steady.of_frame {P : List Part} (h : Frame P s u) (hP : Part.store ∉ P := by simp) : Steady A s u :=
  .of_store (h .store hP)

theorem Steady.mono {B : TrackId → Nat → Prop} (h : Steady A s u) (hB : ∀ o n, B o n → A o n) : Steady B s u :=
  fun hs => ⟨(h hs).1, fun o n hb => (h hs).2 o n (hB o n hb)⟩

theorem Steady.of_writes {K : Nat → Prop} {F : List Kind} (h : Writes t K F s u) : Steady A s u := by
  intro hs
  refine ⟨h.poolsOk hs, fun o n _ q hq => ?_⟩
  obtain ⟨p, hp, hpq⟩ := h.was_held hs hq
  exact ⟨p, hp, (congrArg HeldPass.state hpq.header :).symm⟩

/-- A change of the pass of a track and number that `A` does not speak of. -/
theorem Steady.of_update {k : Nat} {f : HeldPass → HeldPass} (hA : ¬A t k) (h1 : ∀ p, (f p).number = p.number)
    (h2 : ∀ p, (f p).track = p.track) (h3 : ∀ p, (f p).axleChunks = p.axleChunks)
    (h4 : ∀ p, (f p).vehicleChunks = p.vehicleChunks) : Steady A s (s.updatePass t k f) := by
  intro hs
  refine ⟨PassStore.updateOfTrack_poolsOk h1 h3 h4 hs, fun o n ha q hq => ?_⟩
  rw [State.updatePass, ofTrack_updateOfTrack h1 h2, Option.map_eq_some_iff] at hq
  obtain ⟨p, hp, hq⟩ := hq
  obtain ⟨-, hpn, hpt⟩ := PassStore.ofTrack_some hp
  refine ⟨p, hp, ?_⟩
  rw [← hq]
  split
  · next h =>
    rw [← hpn, ← hpt, h.1, h.2] at ha
    exact absurd ha hA
  · rfl

theorem State.OpenHeld.through {A : TrackId → Nat → Prop} (h : s.OpenHeld t) (hs : s.store.poolsOk = true)
    (k : Steady A s u) (hA : ∀ c, s.ctx t = some c → A t c.number)
    (hn : (u.ctx t).map (fun c => c.number) = (s.ctx t).map fun c => c.number) : u.OpenHeld t := by
  intro c hc q hq
  rw [hc, Option.map_some] at hn
  obtain ⟨c', hc', hcc⟩ := Option.map_eq_some_iff.mp hn.symm
  rw [← hcc] at hq
  obtain ⟨p, hp, hpq⟩ := (k hs).2 t c'.number (hA c' hc') q hq
  rw [← hpq]
  exact h c' hc' p hp

end Steady

/-! ### Opening and closing -/

section Operations

variable {s : State} {t : TrackId} {c : PassContext}

/-- The passes of a track. -/
abbrev anyPass (_ : Nat) : Prop := True

theorem passIn_any (s : State) (t : TrackId) : PassIn anyPass t s := fun _ _ => trivial

theorem contextIn_any (s : State) (t : TrackId) : ContextIn anyPass t s := fun _ _ => trivial

/-- R129, R136: after a header request the list is as the reclaims left it, or the header is at its tail. -/
theorem requestHeader_cases (s : State) (p : HeldPass) :
    s.requestHeader p = (s.makeRoom hasSlot, false) ∨
      (s.makeRoom hasSlot).store.passes.length < 16 ∧ s.requestHeader p = ({ s.makeRoom hasSlot with store :=
        { (s.makeRoom hasSlot).store with passes := (s.makeRoom hasSlot).store.passes ++ [p] } }, true) := by
  unfold State.requestHeader
  dsimp only
  split
  · next h => exact .inr ⟨of_decide_eq_true h, rfl⟩
  · exact .inl rfl

/-- R26, R129: what forming a pass on a track leaves of the store: its number is that of no pass held before, and
any pass held after it is the new one, OPEN, or was held. -/
theorem formPass_held (s : State) (t : TrackId) (ev : PairEvent) (hs : s.store.poolsOk = true) :
    (s.formPass t ev).store.poolsOk = true ∧ ∀ o n q, (s.formPass t ev).store.ofTrack o n = some q →
      (o = t ∧ n = s.store.takeNumber ∧ q.state = .opened) ∨
        n ≠ s.store.takeNumber ∧ s.store.ofTrack o n = some q := by
  obtain ⟨hfree, -⟩ := takeNumber_free hs
  have hpools := Moves.keeps (P := fun s => s.store.poolsOk = true) (fun _ _ h => h.poolsOk) (formPass_moves s t ev) hs
  refine ⟨hpools, fun o n q hq => ?_⟩
  obtain ⟨hmem, hqn, hqt⟩ := (ofTrack_iff_mem hpools).mp hq
  have old : q ∈ s.store.passes → n ≠ s.store.takeNumber ∧ s.store.ofTrack o n = some q := fun h =>
    ⟨fun hn => PassStore.find_none.mp hfree q h (hqn.trans hn), (ofTrack_iff_mem hs).mpr ⟨h, hqn, hqt⟩⟩
  unfold State.formPass at hmem
  dsimp only at hmem
  generalize hnum : ({ s with store := { s.store with nextPass := nextPassNumber s.store.takeNumber } } : State) = b at hmem
  have hpasses : b.store.passes = s.store.passes := by rw [← hnum]
  have hroom : (b.makeRoom hasSlot).store.passes ⊆ s.store.passes := by
    rw [← hpasses]
    exact reclaimUntil_subset hasSlot _ b
  rcases requestHeader_cases b (b.newHeader t s.store.takeNumber (directionFrom ev.pairEnd) ev.time) with h | ⟨-, h⟩
  · rw [h] at hmem
    exact .inr (old (hroom hmem))
  · rw [h] at hmem
    rcases List.mem_append.mp hmem with hmem | hmem
    · exact .inr (old (hroom hmem))
    · obtain rfl := List.mem_singleton.mp hmem
      exact .inl ⟨hqt.symm, hqn.symm, rfl⟩

theorem formPass_steady (s : State) (t : TrackId) (ev : PairEvent) : Steady (fun o _ => o ≠ t) s (s.formPass t ev) := by
  intro hs
  obtain ⟨hpools, hheld⟩ := formPass_held s t ev hs
  refine ⟨hpools, fun o n ho q hq => ?_⟩
  rcases hheld o n q hq with ⟨rfl, -⟩ | ⟨-, hq'⟩
  · exact absurd rfl ho
  · exact ⟨q, hq', rfl⟩

theorem formPass_openHeld (t : TrackId) (ev : PairEvent) (hs : s.store.poolsOk = true) : (s.formPass t ev).OpenHeld t := by
  obtain ⟨-, hheld⟩ := formPass_held s t ev hs
  obtain ⟨c', hn, hsec⟩ := formPass_section_of s t ev
  intro c hc q hq
  obtain rfl : c' = c := Option.some.inj ((congrArg SectionController.ctx hsec).symm.trans hc)
  rcases hheld t c'.number q hq with ⟨-, -, h⟩ | ⟨hne, -⟩
  · exact h
  · exact absurd hn hne

/-- What the opening of a pass does before and after the pass is formed. -/
theorem openPass_steady (s : State) (t : TrackId) (ev : PairEvent) : Steady (fun o _ => o ≠ t) s (s.openPass t ev) := by
  have after : Frame [.control t, .pacer t, .scanners t] ((s.leaveRest t).formPass t ev)
      (((s.openFormed t ev).writeSpeed t ev.speed).startHold t) :=
    .step (.step (.step (.one (enterOccupied_frame _ t)) (openFormed_after s t ev)) (writeSpeed_frame _ t _))
      (startHold_frame _ t)
  rw [openPass_eq]
  exact (((Steady.of_frame (leaveRest_frame s t)).trans (formPass_steady _ t ev)).trans (.of_frame after)).trans
    (.of_writes (countIn_writes (passIn_any _ t) (contextIn_any _ t) ev))

theorem openPass_openHeld (t : TrackId) (ev : PairEvent) (hs : s.store.poolsOk = true) : (s.openPass t ev).OpenHeld t := by
  have after : Frame [.control t, .pacer t, .scanners t] ((s.leaveRest t).formPass t ev)
      (((s.openFormed t ev).writeSpeed t ev.speed).startHold t) :=
    .step (.step (.step (.one (enterOccupied_frame _ t)) (openFormed_after s t ev)) (writeSpeed_frame _ t _))
      (startHold_frame _ t)
  have hleft : (s.leaveRest t).store.poolsOk = true := by rwa [leaveRest_frame s t .store (by simp)]
  obtain ⟨c, late, hn, hsec⟩ := openPass_section_of s t ev
  obtain ⟨c', hn', hformed⟩ := formPass_section_of (s.leaveRest t) t ev
  have steady : Steady (fun _ _ => True) ((s.leaveRest t).formPass t ev) (s.openPass t ev) := by
    rw [openPass_eq]
    exact (Steady.of_frame after).trans (.of_writes (countIn_writes (passIn_any _ t) (contextIn_any _ t) ev))
  refine (formPass_openHeld t ev hleft).through (formPass_held _ t ev hleft).1 steady (fun _ _ => trivial) ?_
  rw [State.ctx, hsec, State.ctx, hformed, Option.map_some, Option.map_some, hn, hn',
    leaveRest_frame s t .store (by simp)]

theorem closeBegun_steady (s : State) (t : TrackId) (c : PassContext) (reason : EndReason) :
    Steady (fun o _ => o ≠ t) s (s.closeBegun t c reason) :=
  (Steady.of_store (u := { s with alarms := s.alarms.closeBegins t c.number }) rfl).trans (.of_update
    (f := fun p => p.closeHeader c reason s.siteTime s.stationTime) (fun h => h rfl) (fun _ => rfl) (fun _ => rfl)
    (fun _ => rfl) fun _ => rfl)

theorem closeJudged_steady (s : State) (t : TrackId) (c : PassContext) (reason : EndReason) :
    Steady (fun o _ => o ≠ t) s (s.closeJudged t c reason) := by
  unfold State.closeJudged
  split
  · exact (Steady.of_update (f := fun p => { p with flags := { p.flags with countMismatch := true } })
      (fun h => h rfl) (fun _ => rfl) (fun _ => rfl) (fun _ => rfl) fun _ => rfl).trans
      (.of_writes (mismatchAlarm_writes _ t c))
  · exact .refl _ s

theorem closeComplete_steady (s : State) (t : TrackId) (c : PassContext) :
    Steady (fun o _ => o ≠ t) s (s.closeComplete t c) :=
  .of_update (f := fun p => p.completeClose s.attachedPorts) (fun h => h rfl) (fun _ => rfl) (fun _ => rfl)
    (fun _ => rfl) fun _ => rfl

/-- R40: a close touches no other pass than the track's own. -/
theorem closePass_steady (s : State) (t : TrackId) (reason : EndReason) :
    Steady (fun o _ => o ≠ t) s (s.closePass t reason) := by
  cases h : s.ctx t with
  | none =>
    rw [closePass_none reason h]
    exact .refl _ s
  | some c =>
    exact ((((closeBegun_steady s t c reason).trans (closeJudged_steady _ t c reason)).trans
      (.of_writes (closingMatch_writes (contextIn_any _ t)))).trans (closeComplete_steady _ t c)).trans
      (.of_frame (closePass_after reason h))

theorem closePass_ctx (s : State) (t : TrackId) (reason : EndReason) : (s.closePass t reason).ctx t = none := by
  cases hc : s.ctx t with
  | none => rw [closePass_none reason hc, hc]
  | some c => exact congrArg SectionController.ctx (closePass_section reason hc)

theorem abandonPass_steady (s : State) (t : TrackId) (reason : EndReason) :
    Steady (fun o _ => o ≠ t) s (s.abandonPass t reason) :=
  (Steady.of_writes (abandonEach_writes (passIn_any s t) _).1).trans (closePass_steady _ t reason)

theorem abandonPass_ctx (s : State) (t : TrackId) (reason : EndReason) : (s.abandonPass t reason).ctx t = none :=
  closePass_ctx _ t reason

theorem forceOut_steady (s : State) (t : TrackId) (reason : EndReason) (n : Nat) :
    Steady (fun o _ => o ≠ t) s (s.forceOut t reason n) :=
  (((Steady.of_writes (finishForced_writes (passIn_any s t) _).1).trans (closePass_steady _ t reason)).trans
    (.of_frame (drain_frame _ t n))).trans (.of_frame (promoteSiteIfReady_frame _))

theorem forceOut_ctx (s : State) (t : TrackId) (reason : EndReason) (n : Nat) : (s.forceOut t reason n).ctx t = none := by
  rw [State.forceOut, (promoteSiteIfReady_frame _).ctx_eq, State.ctx, drain_section]
  exact closePass_ctx _ t reason

/-! ### Taking events -/

/-- The passes of the other tracks and, while it is open, the track's own are left in their states. -/
structure Leaves (t : TrackId) (s u : State) : Prop where
  others : Steady (fun o _ => o ≠ t) s u
  own : s.store.poolsOk = true → s.OpenHeld t → u.OpenHeld t

theorem Leaves.refl (t : TrackId) (s : State) : Leaves t s s := ⟨.refl _ s, fun _ => id⟩

theorem Leaves.trans {u v : State} (h : Leaves t s u) (k : Leaves t u v) : Leaves t s v :=
  ⟨h.others.trans k.others, fun hs ho => k.own (h.others hs).1 (h.own hs ho)⟩

theorem Leaves.of_steady {u : State} (h : Steady (fun _ _ => True) s u)
    (hn : (u.ctx t).map (fun c => c.number) = (s.ctx t).map fun c => c.number) : Leaves t s u :=
  ⟨h.mono fun _ _ _ => trivial, fun hs ho => ho.through hs h (fun _ _ => trivial) hn⟩

theorem Leaves.closed {u : State} (h : Steady (fun o _ => o ≠ t) s u) (hc : u.ctx t = none) : Leaves t s u :=
  ⟨h, fun _ _ => openHeld_of_none hc⟩

theorem openPass_leaves (s : State) (t : TrackId) (ev : PairEvent) : Leaves t s (s.openPass t ev) :=
  ⟨openPass_steady s t ev, fun hs _ => openPass_openHeld t ev hs⟩

theorem closePass_leaves (s : State) (t : TrackId) (reason : EndReason) : Leaves t s (s.closePass t reason) :=
  .closed (closePass_steady s t reason) (closePass_ctx s t reason)

theorem forceOut_leaves (s : State) (t : TrackId) (reason : EndReason) (n : Nat) : Leaves t s (s.forceOut t reason n) :=
  .closed (forceOut_steady s t reason n) (forceOut_ctx s t reason n)

theorem underflow_leaves (s : State) (t : TrackId) : Leaves t s (s.underflow t) :=
  .of_steady (.of_frame (underflow_frame s t)) (by rw [State.ctx, underflow_section]; rfl)

theorem takeSpeed_leaves (ev : PairEvent) (hc : s.ctx t = some c) : Leaves t s (s.takeSpeed t ev) :=
  .of_steady (.of_frame (takeSpeed_frame s t ev)) (by rw [State.ctx, takeSpeed_section ev hc, hc]; rfl)

theorem startHold_leaves (hc : s.ctx t = some c) : Leaves t s (s.startHold t) :=
  .of_steady (.of_frame (startHold_frame s t)) (by rw [State.ctx, startHold_section hc]; rfl)

theorem countIn_leaves (ev : PairEvent) (hc : s.ctx t = some c) : Leaves t s (s.countIn t ev) := by
  obtain ⟨storing, hsec⟩ := countIn_section ev hc
  exact .of_steady (.of_writes (countIn_writes (passIn_any s t) (contextIn_any s t) ev)) (by rw [State.ctx, hsec, hc]; rfl)

theorem enterOccupied_leaves (s : State) (t : TrackId) : Leaves t s (s.enterOccupied t) :=
  .of_steady (.of_frame (enterOccupied_frame s t)) (by rw [State.ctx, enterOccupied_section]; rfl)

theorem headOut_writes (s : State) (t : TrackId) (c : PassContext) (ev : PairEvent) :
    Writes t anyPass [.result] s (s.headOut t c ev) := by
  have gone : Writes t anyPass [.result] s (s.headGone t c) := .of_frame (setSection_frame s t _)
  unfold State.headOut
  split
  · exact gone
  · exact gone.trans (finish_writes (s.headGone t c) trivial _ _ _ _).1

theorem countOut_writes (ev : PairEvent) (hc : s.ctx t = some c) : Writes t anyPass [.result] s (s.countOut t ev) := by
  rw [countOut_eq ev hc]
  split
  · exact (headOut_writes s t c ev).trans (.of_frame (setSection_frame _ t _))
  · exact (headOut_writes s t c ev).trans (.of_frame (startHold_frame _ t))

theorem countOut_leaves_passes (ev : PairEvent) (hc : s.ctx t = some c) : Leaves t s (s.countOut t ev) := by
  obtain ⟨rises, hsec⟩ := countOut_section ev hc
  refine .of_steady (.of_writes (countOut_writes ev hc)) ?_
  rw [State.ctx, hsec, hc]
  split <;> rfl

theorem takeOccupied_leaves (ev : PairEvent) (hc : s.ctx t = some c) : Leaves t s (s.takeOccupied t c ev) := by
  have taken := congrArg SectionController.ctx (takeSpeed_section ev hc)
  rw [State.takeOccupied]
  dsimp only
  split
  · split
    · split
      · exact (takeSpeed_leaves ev hc).trans (countIn_leaves ev taken)
      · exact (takeSpeed_leaves ev hc).trans (forceOut_leaves _ t _ _)
    · exact forceOut_leaves s t _ _
  · split
    · exact (takeSpeed_leaves ev hc).trans (countOut_leaves_passes ev taken)
    · exact forceOut_leaves s t _ _

theorem takeClearing_leaves (ev : PairEvent) (hc : s.ctx t = some c) : Leaves t s (s.takeClearing t c ev) := by
  have resumed := (congrArg SectionController.ctx (enterOccupied_section s t)).trans hc
  have taken := congrArg SectionController.ctx (takeSpeed_section ev resumed)
  have held := (congrArg SectionController.ctx (startHold_section taken)).trans taken
  rw [State.takeClearing]
  split
  · split
    · exact (((enterOccupied_leaves s t).trans (takeSpeed_leaves ev resumed)).trans (startHold_leaves taken)).trans
        (countIn_leaves ev held)
    · exact (closePass_leaves s t _).trans (openPass_leaves _ t ev)
  · have late := lateCountOut_section ev hc
    exact (Leaves.of_steady (.of_frame (lateCountOut_frame s t c ev)) (by rw [State.ctx, late, hc]; rfl)).trans
      (underflow_leaves _ t)

/-- R18, R19: what a track's event leaves of the passes. -/
theorem takeEvent_leaves (s : State) (t : TrackId) (ev : PairEvent) : Leaves t s (s.takeEvent t ev) := by
  have atRest : Leaves t s (if ev.inward then s.openPass t ev else s.underflow t) := by
    split
    · exact openPass_leaves s t ev
    · exact underflow_leaves s t
  unfold State.takeEvent
  split
  case h_1 => exact .refl t s
  case h_2 => exact .refl t s
  case h_3 => exact atRest
  case h_4 => exact atRest
  case h_5 => exact .of_steady (.of_frame (setSection_frame s t _)) (by rw [State.ctx, section_setSection]; rfl)
  case h_6 =>
    split
    · exact .refl t s
    · next c hc => exact takeClearing_leaves ev hc
  case h_7 =>
    split
    · exact .refl t s
    · next c hc =>
      have hresumed := congrArg SectionController.ctx (resume_section hc)
      exact (Leaves.of_steady (.of_frame (resume_frame s t)) (by rw [State.ctx, hresumed]; rfl)).trans
        (takeOccupied_leaves ev (hresumed.trans hc))
  case h_8 =>
    split
    · exact .refl t s
    · next c hc => exact takeOccupied_leaves ev hc

end Operations

end Sys2Proof.Machine
end

section
/-! PROOFS. The operations that leave the sections' states, counts and passes and the states of the held passes as
they are: those of the pacer's ticks, of the samples and scanner lines, of the inputs' filters, of a configured
track's promotion, and of the station ports' releases. -/

namespace Sys2Proof.Machine

open Sys2Proof

theorem SectionController.Rearranged.trans {c d e : SectionController} (h : c.Rearranged d) (k : d.Rearranged e) :
    c.Rearranged e :=
  ⟨k.state.trans h.state, k.count.trans h.count, k.queue.trans h.queue, k.number.trans h.number,
    k.approachTimer ∘ h.approachTimer, k.holdTimer ∘ h.holdTimer, k.clearTimer ∘ h.clearTimer,
    k.quietTimer ∘ h.quietTimer, k.closeDelay ∘ h.closeDelay⟩

/-- Of the sections and the held passes, the states, the counts and the open passes stay. -/
structure Retouched (s u : State) : Prop where
  sections : ∀ t, (s.section t).Rearranged (u.section t)
  steady : Steady (fun _ _ => True) s u

section Retouched

variable {s u v : State} {t : TrackId}

theorem Retouched.refl (s : State) : Retouched s s := ⟨fun _ => .refl _, .refl _ s⟩

theorem Retouched.trans (h : Retouched s u) (k : Retouched u v) : Retouched s v :=
  ⟨fun t => (h.sections t).trans (k.sections t), h.steady.trans k.steady⟩

theorem Retouched.of_frame {P : List Part} (h : Frame P s u) (h1 : Part.control .t1 ∉ P := by simp)
    (h2 : Part.control .t2 ∉ P := by simp) (hstore : Part.store ∉ P := by simp) : Retouched s u := by
  refine ⟨fun t => ?_, .of_frame h hstore⟩
  have hsec : u.section t = s.section t := by
    cases t
    · exact h.section_eq h1
    · exact h.section_eq h2
  rw [hsec]
  exact .refl _

theorem setSection_retouched {d : SectionController} (h : (s.section t).Rearranged d) :
    Retouched s (s.setSection t d) := by
  refine ⟨fun o => ?_, .of_frame (setSection_frame s t d)⟩
  by_cases ho : o = t
  · subst ho
    rwa [section_setSection]
  · rw [section_setSection_of_ne s ho]
    exact .refl _

theorem map_retouched (f : AxleEntry → AxleEntry) :
    (s.section t).Rearranged { s.section t with queue := (s.section t).queue.map f } :=
  ⟨rfl, rfl, List.length_map _, rfl, id, id, id, id, id⟩

theorem updateEntry_retouched (s : State) (t : TrackId) (i : Nat) (f : AxleEntry → AxleEntry) :
    Retouched s (s.updateEntry t i f) := setSection_retouched (map_retouched _)

/-- A change of all held passes that leaves their states. -/
theorem Steady.of_map {A : TrackId → Nat → Prop} {f : HeldPass → HeldPass}
    (h : u.store = { s.store with passes := s.store.passes.map f }) (h1 : ∀ p, (f p).number = p.number)
    (h2 : ∀ p, (f p).track = p.track) (h3 : ∀ p, (f p).axleChunks = p.axleChunks)
    (h4 : ∀ p, (f p).vehicleChunks = p.vehicleChunks) (h5 : ∀ p, (f p).state = p.state) : Steady A s u := by
  intro hs
  have hu : u.store.poolsOk = true := by
    rw [h]
    exact PassStore.map_poolsOk h1 h3 h4 hs
  refine ⟨hu, fun o n _ q hq => ?_⟩
  obtain ⟨hmem, hqn, hqt⟩ := (ofTrack_iff_mem hu).mp hq
  rw [h] at hmem
  obtain ⟨p, hp, rfl⟩ := List.mem_map.mp hmem
  exact ⟨p, (ofTrack_iff_mem hs).mpr ⟨hp, (h1 p).symm.trans hqn, (h2 p).symm.trans hqt⟩, (h5 p).symm⟩

theorem Retouched.of_map {P : List Part} {f : HeldPass → HeldPass} (hframe : Frame P s u)
    (h : u.store = { s.store with passes := s.store.passes.map f }) (h1 : ∀ p, (f p).number = p.number)
    (h2 : ∀ p, (f p).track = p.track) (h3 : ∀ p, (f p).axleChunks = p.axleChunks)
    (h4 : ∀ p, (f p).vehicleChunks = p.vehicleChunks) (h5 : ∀ p, (f p).state = p.state)
    (hP : ∀ t, Part.control t ∉ P := by simp) : Retouched s u := by
  refine ⟨fun t => ?_, .of_map h h1 h2 h3 h4 h5⟩
  rw [hframe.section_eq (hP t)]
  exact .refl _

theorem flagPass_retouched (s : State) (t : TrackId) (n : Nat) (f : PassFlags → PassFlags) :
    Retouched s (s.flagPass t n f) := by
  refine .of_map (f := fun p => if p.number = n ∧ p.track = t then { p with flags := f p.flags } else p)
    (flagPass_frame s t n f) rfl ?_ ?_ ?_ ?_ ?_ <;>
  · intro p
    split <;> rfl

/-! ### Ticks, samples and lines -/

theorem requestScan_retouched (s : State) (t : TrackId) (r : ScanRequest) : Retouched s (s.requestScan t r) := by
  unfold State.requestScan
  split
  · exact (Retouched.of_frame (setSlot_frame s t (some r)) (by simp) (by simp)).trans
      (.of_frame (arbitrate_frame _))
  · split
    · exact flagPass_retouched s t _ _
    · exact .refl s

theorem markEntryShutter_retouched (s : State) (t : TrackId) (n : ScannerName) (pass : Nat) (e : AxleEntry) :
    Retouched s (s.markEntryShutter t n pass e) := by
  unfold State.markEntryShutter
  dsimp only
  split
  · exact (updateEntry_retouched s t _ _).trans (flagPass_retouched _ t _ _)
  · exact updateEntry_retouched s t _ _

theorem askScanner_retouched (s : State) (t : TrackId) (pass : Nat) (n : ScannerName) (i : Nat) :
    Retouched s (s.askScanner t pass n i) := by
  unfold State.askScanner
  split
  · exact .refl s
  · dsimp only
    split
    · exact .refl s
    · split
      · exact .of_frame (setScanner_frame s t n _)
      · exact markEntryShutter_retouched s t n pass _
      · exact markEntryShutter_retouched s t n pass _
      · exact markEntryShutter_retouched s t n pass _
      · exact updateEntry_retouched s t _ _
      · exact updateEntry_retouched s t _ _

theorem askScanners_retouched (t : TrackId) (pass : Nat) (index : ScannerName → Option Nat) (names : List ScannerName)
    (s : State) : Retouched s (names.foldl (fun s n =>
      match index n with
      | none => s
      | some i => s.askScanner t pass n i) s) := by
  induction names generalizing s with
  | nil => exact .refl s
  | cons n rest ih =>
    refine .trans ?_ (ih _)
    dsimp only
    split
    · exact .refl s
    · exact askScanner_retouched s t pass n _

/-- R50, R54 to R56: a tick. -/
theorem takeTick_retouched {c : PassContext} (hc : s.ctx t = some c) : Retouched s (s.takeTick t c) := by
  unfold State.takeTick
  dsimp only
  refine .trans ?_ (askScanners_retouched t _ (fun n => onlyIndex (insideGate _ _ _ n)) _ _)
  have ticked (q : List AxleEntry) (hq : q.length = (s.section t).queue.length) : Retouched s (s.setSection t
      { s.section t with queue := q, ctx := some { c with tickTotal := c.tickTotal + 1 } }) :=
    setSection_retouched ⟨rfl, rfl, hq, (congrArg (Option.map fun x => x.number) hc).symm, id, id, id, id, id⟩
  split
  · exact (ticked _ (by simp)).trans (requestScan_retouched _ t _)
  · exact ticked _ (by simp)

theorem creditPace_retouched (s : State) (t : TrackId) (pass : Nat) (bays : BayAssignment) (channel : Nat)
    (sample : Int) : Retouched s (s.creditPace t pass bays channel sample) := by
  unfold State.creditPace
  split
  · exact .refl s
  · split
    · split
      · exact .refl s
      · exact updateEntry_retouched s t _ _
    · exact .refl s

/-! ### Inputs -/

theorem setApproachInput_retouched (s : State) (t : TrackId) (e : SectionEnd) (f : InputFilter) :
    Retouched s (s.setApproachInput t e f) := setSection_retouched ⟨rfl, rfl, rfl, rfl, id, id, id, id, id⟩

theorem changeCoinciding_retouched (s : State) (t : TrackId) (f : Coinciding → Coinciding) :
    Retouched s (s.changeCoinciding t f) := by
  unfold State.changeCoinciding
  split
  · exact .refl s
  · exact setSection_retouched ⟨rfl, rfl, rfl, rfl, id, id, id, id, id⟩

theorem keepCoinciding_retouched (s : State) (t : TrackId) : Retouched s (s.keepCoinciding t) := by
  unfold State.keepCoinciding
  split
  · exact setSection_retouched ⟨rfl, rfl, rfl, rfl, id, id, id, id, id⟩
  · exact .refl s

theorem restartFilters_retouched (s : State) (t : TrackId) : Retouched s (s.restartFilters t) := by
  have hother (o : TrackId) (ho : o ≠ t) : (s.restartFilters t).section o = s.section o :=
    (restartFilters_frame s t).section_eq (by simp [ho])
  refine ⟨fun o => ?_, .of_frame (restartFilters_frame s t)⟩
  by_cases ho : o = t
  · subst ho
    rw [restartFilters_section]
    exact ⟨rfl, rfl, rfl, rfl, id, id, id, id, id⟩
  · rw [hother o ho]
    exact .refl _

/-! ### Releases (R134, R135, R138) -/

theorem reclaimReleased_writes (K : Nat → Prop) (t : TrackId) (fuel : Nat) (s : State) :
    Writes t K [.reclaim] s (State.reclaimReleased fuel s) := by
  induction fuel generalizing s with
  | zero => exact .refl t K _ s
  | succ fuel ih =>
    unfold State.reclaimReleased
    split
    · exact .refl t K _ s
    · next p hp =>
      exact .trans (.one (.reclaim s p false (List.mem_of_find?_eq_some hp)
        (by simp [HeldPass.releasable, List.find?_some hp]) (by simp))) (ih _)

theorem purge_retouched (s : State) (p : Port) (x : PurgeTargets) : Retouched s (s.purge p x) := by
  have released (s : State) : Retouched s s.purgeReleased := by
    refine ⟨fun t => ?_, .of_writes (t := .t1) (reclaimReleased_writes anyPass .t1 _ s)⟩
    rw [State.purgeReleased, (reclaimReleased_frame _ s).section_eq]
    exact .refl _
  have faults : Retouched s (s.clearFaults x) := by
    refine ⟨fun t => ?_, .of_frame (clearFaults_frame s x)⟩
    unfold State.clearFaults
    split
    · rw [purgeFaults_section]
      exact ⟨rfl, rfl, rfl, rfl, id, id, id, id, id⟩
    · exact .refl _
  have releases : Retouched ((s.clearFaults x).clearAcked x) (((s.clearFaults x).clearAcked x).clearReleased x) := by
    unfold State.clearReleased
    split
    · exact released _
    · exact .refl _
  exact ((faults.trans (.of_frame (clearAcked_frame _ x))).trans releases).trans (.of_frame (purge_last_frame s p x))

end Retouched

end Sys2Proof.Machine
end

section
/-! PROOFS. Every step keeps the sections in order (R20, R21), the pools of the pass store (R127), and the held passes
of the open ones OPEN (R128). -/

namespace Sys2Proof.Machine

open Sys2Proof

/-- Of two states, the second keeps the three invariants of the first. -/
structure Kept (s u : State) : Prop where
  sections : (∀ t, (s.section t).InOrder) → ∀ t, (u.section t).InOrder
  pools : s.store.poolsOk = true → u.store.poolsOk = true
  opened : s.store.poolsOk = true → (∀ t, s.OpenHeld t) → ∀ t, u.OpenHeld t

section Kept

variable {s u v : State} {t : TrackId}

theorem Kept.refl (s : State) : Kept s s := ⟨id, id, fun _ => id⟩

theorem Kept.trans (h : Kept s u) (k : Kept u v) : Kept s v :=
  ⟨k.sections ∘ h.sections, k.pools ∘ h.pools, fun hs ho => k.opened (h.pools hs) (h.opened hs ho)⟩

theorem Retouched.kept (h : Retouched s u) : Kept s u :=
  ⟨fun hs t => (h.sections t).inOrder (hs t), fun hs => (h.steady hs).1,
    fun hs ho t => (ho t).through hs h.steady (fun _ _ => trivial) (h.sections t).number⟩

theorem Kept.of_frame {P : List Part} (h : Frame P s u) (h1 : Part.control .t1 ∉ P := by simp)
    (h2 : Part.control .t2 ∉ P := by simp) (hstore : Part.store ∉ P := by simp) : Kept s u :=
  (Retouched.of_frame h h1 h2 hstore).kept

/-- What happens on one track. -/
theorem Kept.of_track {P : List Part} (t : TrackId) (h : Frame P s u) (hleaves : Leaves t s u)
    (hsection : (s.section t).InOrder → (u.section t).InOrder)
    (hP : ∀ o, o ≠ t → Part.control o ∉ P := by simp) : Kept s u := by
  refine ⟨fun hs o => ?_, fun hs => (hleaves.others hs).1, fun hs ho o => ?_⟩
  · by_cases hot : o = t
    · exact hot ▸ hsection (hs t)
    · rw [h.section_eq (hP o hot)]
      exact hs o
  · by_cases hot : o = t
    · exact hot ▸ hleaves.own hs (ho t)
    · exact (ho o).through hs hleaves.others (fun _ _ => hot) (by rw [h.ctx_eq (hP o hot)])

end Kept

section Operations

variable {s : State} {t : TrackId}

/-! ### Events and sensors -/

theorem takeEvent_kept (s : State) (t : TrackId) (ev : PairEvent) : Kept s (s.takeEvent t ev) :=
  .of_track t (takeEvent_frame s t ev) (takeEvent_leaves s t ev) (takeEvent_inOrder ev)

theorem markExit_retouched (s : State) (t : TrackId) (e : SectionEnd) (x : Edge) : Retouched s (s.markExit t e x) := by
  unfold State.markExit
  split
  · exact .refl s
  · dsimp only
    split
    · exact setSection_retouched ⟨rfl, rfl, rfl, rfl, id, id, id, id, id⟩
    · exact .refl s

theorem sensorActivity_kept (s : State) (t : TrackId) (e : SectionEnd) (x : Edge) : Kept s (s.sensorActivity t e x) := by
  unfold State.sensorActivity
  refine (markExit_retouched s t e x).kept.trans ?_
  dsimp only
  split
  · next hstate =>
    refine .of_track t (setSection_frame _ t _) (.of_steady (.of_frame (setSection_frame _ t _)) ?_) fun h => ?_
    · rw [State.ctx, section_setSection]
      rfl
    · have hqueue := h.empty (by simp [hstate]) (by simp [hstate])
      have hctx := h.ctx_none (by simp [hstate]) (by simp [hstate]) (by simp [hstate])
      have happroach := h.approachTimer (by simp [hstate])
      have hhold := h.holdTimer (by simp [hstate])
      have hclear := h.clearTimer (by simp [hstate])
      have hdelay := h.closeDelay (by simp [hstate])
      rw [section_setSection]
      constructor <;> simp [hstate, hqueue, hctx, happroach, hhold, hclear, hdelay, h.count_le]
  · exact .refl _

theorem markSuspect_kept (s : State) (t : TrackId) (e : SectionEnd) (x : Role) : Kept s (s.markSuspect t e x) :=
  .of_frame (markSuspect_frame s t e x)

theorem setMachine_kept (s : State) (t : TrackId) (e : SectionEnd) (m : PairState) : Kept s (s.setMachine t e m) :=
  .of_frame (setMachine_frame s t e m)

theorem singleCount_kept (s : State) (t : TrackId) (e : SectionEnd) (x : Role) (stamp : SiteTime) :
    Kept s (s.singleCount t e x stamp) := by
  unfold State.singleCount
  dsimp only
  split
  · exact markSuspect_kept s t e _
  · exact (markSuspect_kept s t e _).trans (takeEvent_kept _ t _)

theorem endWait_kept (s : State) (t : TrackId) (e : SectionEnd) (x : Role) (stamp : SiteTime) :
    Kept s (s.endWait t e x stamp) :=
  (setMachine_kept s t e _).trans (singleCount_kept _ t e x stamp)

theorem offerRise_kept (s : State) (t : TrackId) (e : SectionEnd) (x : Role) (stamp : SiteTime) :
    Kept s (s.offerRise t e x stamp) := by
  have expired : Kept s (s.expirePassed t e stamp) := by
    unfold State.expirePassed
    split
    · exact .refl s
    · split
      · exact endWait_kept s t e _ _
      · exact .refl s
  unfold State.offerRise
  refine expired.trans ?_
  dsimp only
  split
  · unfold State.firstRise
    split
    · exact singleCount_kept _ t e x stamp
    · exact setMachine_kept _ t e _
  · split
    · unfold State.restartWait
      dsimp only
      split
      · exact (singleCount_kept _ t e x _).trans (setMachine_kept _ t e _)
      · exact setMachine_kept _ t e _
    · exact (setMachine_kept _ t e _).trans (takeEvent_kept _ t _)

theorem takeEdge_kept (s : State) (t : TrackId) (e : SectionEnd) (x : Edge) : Kept s (s.takeEdge t e x) := by
  unfold State.takeEdge
  dsimp only
  split
  · split
    · exact .refl s
    · exact .of_frame (leaveHeld_frame s t e _)
  · split
    · exact ((Kept.of_frame (setSensor_frame s t e _ _)).trans (sensorActivity_kept _ t e x)).trans
        (offerRise_kept _ t e _ _)
    · exact (Kept.of_frame (setSensor_frame s t e _ _)).trans (sensorActivity_kept _ t e x)

theorem release_kept (t : TrackId) (e : SectionEnd) (fuel : Nat) (s : State) : Kept s (State.release t e fuel s) := by
  induction fuel generalizing s with
  | zero => exact .refl s
  | succ k ih =>
    unfold State.release
    split
    · exact .refl s
    · split
      · exact .refl s
      · exact ((Kept.of_frame (setPair_frame s t e _)).trans (takeEdge_kept _ t e _)).trans (ih _)

theorem confirmEdge_kept (s : State) (t : TrackId) (e : SectionEnd) (x : Role) (stamp : SiteTime) :
    Kept s (s.confirmEdge t e x stamp) := by
  unfold State.confirmEdge
  exact ((Kept.of_frame (setSensor_frame s t e x _)).trans (.of_frame (setPair_frame _ t e _))).trans
    (release_kept t e _ _)

theorem rawChange_kept (s : State) (t : TrackId) (e : SectionEnd) (x : Role) (level : Bool) :
    Kept s (s.rawChange t e x level) := by
  have hf (f : InputFilter) : Kept s (s.setFilter t e x f) := .of_frame (setFilter_frame s t e x f)
  unfold State.rawChange
  dsimp only
  split
  · exact (hf _).trans (confirmEdge_kept _ t e x _)
  · exact (hf _).trans (release_kept t e _ _)
  · exact (hf _).trans (release_kept t e _ _)
  · exact hf _

theorem takeRawChange_kept (s : State) (t : TrackId) (e : SectionEnd) (x : Role) (level : Bool) :
    Kept s (s.takeRawChange t e x level) := by
  unfold State.takeRawChange
  dsimp only
  split
  · exact (rawChange_kept s t e .outer _).trans (rawChange_kept _ t e x level)
  · exact rawChange_kept s t e x level

theorem confirmDue_kept (s : State) (t : TrackId) (e : SectionEnd) (x : Role) : Kept s (s.confirmDue t e x) := by
  unfold State.confirmDue
  split
  · exact .refl s
  · split
    · exact confirmEdge_kept s t e x _
    · exact .refl s

/-- R187: an input taken as well by what a COMMIT has kept. -/
theorem orAsBefore_kept (s : State) (t : TrackId) (run : State → State) (h : ∀ u, Kept u (run u)) :
    Kept s (s.orAsBefore t run) := by
  unfold State.orAsBefore
  dsimp only
  split
  · exact h s
  · split
    · exact h s
    · split
      · exact ((Kept.of_frame (inputsBefore_frame s t _)).trans (h _)).trans (.of_frame (inputsOf_frame _ _ t))
      · exact (h s).trans (changeCoinciding_retouched _ t _).kept

theorem partnerHeld_kept (s : State) (t : TrackId) (e : SectionEnd) (x : Role) : Kept s (s.partnerHeld t e x) := by
  unfold State.partnerHeld
  split
  · exact .refl s
  · split
    · exact endWait_kept s t e _ _
    · exact .refl s

/-! ### Waking, promoting and coming to rest -/

/-- A change of a track's section that leaves the store and the open pass. -/
theorem Kept.of_section {u : State} {P : List Part} (t : TrackId) (h : Frame P s u)
    (hn : (u.ctx t).map (fun c => c.number) = (s.ctx t).map fun c => c.number)
    (hsection : (s.section t).InOrder → (u.section t).InOrder) (hstore : Part.store ∉ P := by simp)
    (hP : ∀ o, o ≠ t → Part.control o ∉ P := by simp) : Kept s u :=
  .of_track t h (.of_steady (.of_frame h hstore) hn) hsection hP

theorem wakeTrack_kept (s : State) (t : TrackId) : Kept s (s.wakeTrack t) := by
  unfold State.wakeTrack
  dsimp only
  split
  case h_1 hstate =>
    have hsec : ((((s.keepLateClose t).leaveIdle t).setSection t { ((s.keepLateClose t).leaveIdle t).section t with
        state := .approach, approachTimer := s.startTimer (s.area t).approachTimeout }).openShutters t).section t =
        { s.section t with
          lateClose := if timerDue (s.section t).closeDelay s.siteTime then some s.siteTime else none
          closeDelay := none, state := .approach
          approachTimer := s.startTimer (s.area t).approachTimeout } := by
      rw [(openShutters_frame _ t).section_eq, section_setSection, leaveIdle_section, State.keepLateClose,
        section_setSection]
    refine .of_section (P := wakeParts t) t (.step (.step (.step (.one (keepLateClose_frame s t)) (leaveIdle_frame _ t))
      (setSection_frame _ t _)) (openShutters_frame _ t)) (by rw [State.ctx, hsec]; rfl) fun h => ?_
    have hqueue := h.empty (by simp [hstate]) (by simp [hstate])
    have hcount := h.zero (by simp [hstate]) (by simp [hstate]) (by simp [hstate])
    have hctx := h.ctx_none (by simp [hstate]) (by simp [hstate]) (by simp [hstate])
    have hhold := h.holdTimer (by simp [hstate])
    have hclear := h.clearTimer (by simp [hstate])
    have hquiet := h.quietTimer (by simp [hstate])
    rw [hsec]
    constructor <;> simp [hqueue, hcount, hctx, hhold, hclear, hquiet]
  case h_2 hstate =>
    refine .of_section t (setSection_frame s t _) (by rw [State.ctx, section_setSection]; rfl) fun h => ?_
    rw [section_setSection]
    exact ⟨h.count_le, h.passing, h.queued, h.empty, h.zero, fun hne => absurd hstate hne, h.holdTimer, h.clearTimer,
      h.quietTimer, h.closeDelay⟩
  all_goals exact .refl s

theorem configureTrack_kept (s : State) (t : TrackId) : Kept s (s.configureTrack t) := by
  by_cases hstate : (s.section t).state = .unconfigured
  · obtain ⟨hsec, -⟩ := configureTrack_unconfigured hstate
    refine .of_section t (configureTrack_frame s t) (by rw [State.ctx, hsec]; rfl) fun h => ?_
    have hqueue := h.empty (by simp [hstate]) (by simp [hstate])
    have hctx := h.ctx_none (by simp [hstate]) (by simp [hstate]) (by simp [hstate])
    rw [hsec]
    constructor <;> simp [hqueue, hctx]
  · rw [configureTrack_configured hstate]
    exact .refl s

theorem promoteTrackIfReady_kept (s : State) (t : TrackId) : Kept s (s.promoteTrackIfReady t) := by
  unfold State.promoteTrackIfReady
  split
  · exact .refl s
  · next x hx =>
    split
    · have installed : Kept s (s.installTrack t x.1 x.2) := .of_frame (withConfig_frame s _)
      exact (((installed.trans (configureTrack_kept _ t)).trans
        (restartFilters_retouched _ t).kept).trans (.of_frame (realign_frame _ t _))).trans
        (.of_frame (promoteTrack_notices s t x.1 x.2))
    · exact .refl s

theorem promoteSiteIfReady_kept (s : State) : Kept s s.promoteSiteIfReady := .of_frame (promoteSiteIfReady_frame s)

theorem promoteReady_kept (s : State) : Kept s s.promoteReady :=
  ((promoteSiteIfReady_kept s).trans (promoteTrackIfReady_kept _ .t1)).trans (promoteTrackIfReady_kept _ .t2)

/-- R25, R44: a track with no entries and no open pass comes to rest in order. -/
theorem toIdle_inOrder {c : SectionController} (delay : Timer) (hqueue : c.queue = []) (hctx : c.ctx = none) :
    (c.toIdle delay).InOrder := by
  constructor <;> simp [SectionController.toIdle, hqueue, hctx]

theorem rest_ctx (s : State) (t : TrackId) (withDelay : Bool) : (s.rest t withDelay).ctx t = s.ctx t := by
  rw [State.ctx, rest_section_of]
  rfl

theorem rest_kept (withDelay : Bool) (h1 : (s.section t).InOrder → (s.section t).queue = [] ∧ (s.section t).ctx = none) :
    Kept s (s.rest t withDelay) := by
  refine .of_section t (rest_frame s t withDelay) (by rw [rest_ctx]) fun h => ?_
  rw [rest_section_of]
  exact toIdle_inOrder _ (h1 h).1 (h1 h).2

theorem enterIdle_kept (withDelay : Bool)
    (h1 : (s.section t).InOrder → (s.section t).queue = [] ∧ (s.section t).ctx = none) :
    Kept s (s.enterIdle t withDelay) :=
  ((rest_kept withDelay h1).trans (promoteSiteIfReady_kept _)).trans (promoteTrackIfReady_kept _ t)

/-! ### Aborting, taking out and resetting (R41, R42, R44) -/

theorem abandonPass_leaves (s : State) (t : TrackId) (reason : EndReason) : Leaves t s (s.abandonPass t reason) :=
  .closed (abandonPass_steady s t reason) (abandonPass_ctx s t reason)

/-- R32, R40: a section after its pass is abandoned has no entries and no open pass, and one that is UNCONFIGURED is
in order. -/
structure SectionController.Parted (c : SectionController) : Prop where
  queue : c.queue = []
  ctx : c.ctx = none
  unconfigured : c.state = .unconfigured → c.InOrder

theorem abandonPass_parted (reason : EndReason) (h : (s.section t).InOrder) :
    ((s.abandonPass t reason).section t).Parted := by
  cases hc : s.ctx t with
  | none =>
    rw [abandonPass_none reason hc]
    have hpassing : ¬((s.section t).state = .occupied ∨ (s.section t).state = .standing ∨
        (s.section t).state = .clearing) := fun hp => by
      have := h.passing.mpr hp
      rw [show (s.section t).ctx = none from hc] at this
      nomatch this
    push Not at hpassing
    exact ⟨h.empty hpassing.1 hpassing.2.1, hc, fun _ => h⟩
  | some c =>
    rw [abandonPass_open reason hc]
    have hpassing := h.passing.mp (by rw [show (s.section t).ctx = some c from hc]; rfl)
    exact ⟨rfl, rfl, fun (hun : (s.section t).state = .unconfigured) => by simp [hun] at hpassing⟩

theorem leaveIdle_ctx (s : State) (t : TrackId) : (s.leaveIdle t).ctx t = s.ctx t := by
  rw [State.ctx, leaveIdle_section]
  rfl

theorem drain_ctx (s : State) (t : TrackId) (n : Nat) : (s.drain t n).ctx t = s.ctx t := by
  rw [State.ctx, drain_section]
  rfl

theorem abortTrack_kept (s : State) (t : TrackId) : Kept s (s.abortTrack t) := by
  refine .trans (.of_track (P := .scanners t :: .context t :: .store :: .alarms :: .view .a :: .view .b :: restParts t) t
    (.step (.step (.one (abandonPass_frame s t .aborted)) (leaveIdle_frame _ t)) (drain_frame _ t 0))
    (((abandonPass_leaves s t .aborted).trans (.of_steady (.of_frame (leaveIdle_frame _ t)) (by rw [leaveIdle_ctx]))).trans
      (.of_steady (.of_frame (drain_frame _ t 0)) (by rw [drain_ctx]))) fun h => ?_) (promoteSiteIfReady_kept _)
  obtain ⟨hqueue, hctx, -⟩ := abandonPass_parted .aborted h
  rw [drain_section, leaveIdle_section]
  constructor <;> simp [hqueue, hctx]

theorem takeOut_kept (s : State) (t : TrackId) : Kept s (s.takeOut t) := by
  unfold State.takeOut
  dsimp only
  generalize hc : (((s.abandonPass t .aborted).leaveIdle t).section t) = c
  have hsec (d : SectionController) :
      ((((s.abandonPass t .aborted).leaveIdle t).setSection t d).stopPacer t).section t = d := by
    rw [(stopPacer_frame _ t).section_eq, section_setSection]
  refine .trans (.trans (.trans (.of_track
    (P := .scanners t :: .context t :: .store :: .alarms :: .view .a :: .view .b :: restParts t) t
    (.step (.step (.step (.one (abandonPass_frame s t .aborted)) (leaveIdle_frame _ t)) (setSection_frame _ t _))
      (stopPacer_frame _ t)) ⟨?_, fun _ _ => openHeld_of_none ?_⟩ fun h => ?_)
    (.of_frame (closeShutters_frame _ t))) (promoteSiteIfReady_kept _)) (promoteTrackIfReady_kept _ t)
  · exact (((abandonPass_steady s t .aborted).trans (.of_frame (leaveIdle_frame _ t))).trans
      (.of_frame (setSection_frame _ t _))).trans (.of_frame (stopPacer_frame _ t))
  · rw [State.ctx, hsec, ← hc]
    exact (leaveIdle_ctx _ t).trans (abandonPass_ctx s t .aborted)
  · obtain ⟨hqueue, hctx, -⟩ := abandonPass_parted .aborted h
    rw [hsec, ← hc, leaveIdle_section]
    constructor <;> simp [hqueue, hctx]

/-- R44: what the closes of a warm reset leave of the sections. -/
theorem closeForReset_parted (h : ∀ t, (s.section t).InOrder) (t : TrackId) : (s.closeForReset.section t).Parted := by
  obtain ⟨n, o, hclose⟩ := closeForReset_order s
  have hchoice (t : TrackId) : ({ s with choice := n } : State).section t = s.section t := rfl
  rw [hclose]
  rcases eq_or_ne t o with rfl | hne
  · rw [(abandonPass_frame _ (otherTrack t) .reset).section_eq (by simp [ne_otherTrack])]
    exact abandonPass_parted .reset (h t)
  · obtain rfl : t = otherTrack o := by
      revert hne
      cases t <;> cases o <;> simp [otherTrack]
    refine abandonPass_parted .reset ?_
    rw [(abandonPass_frame _ o .reset).section_eq (by simp [hne])]
    exact h _

theorem settle_section_other {o : TrackId} (h : o ≠ t) : (s.settle t).section o = s.section o :=
  (settle_settleParts s t).section_eq (by simp [h])

theorem settle_section_ctx (s : State) (t o : TrackId) : (s.settle t).ctx o = s.ctx o := by
  rcases eq_or_ne o t with rfl | hne
  · cases h : s.configured o with
    | true =>
      rw [State.ctx, settle_section h]
      rfl
    | false => rw [settle_unconfigured h]
  · rw [State.ctx, settle_section_other hne]
    rfl

theorem configured_iff (s : State) (t : TrackId) : s.configured t = true ↔ (s.section t).state ≠ .unconfigured := by
  simp [State.configured]

theorem settle_inOrder (h : (s.section t).Parted) : ((s.settle t).section t).InOrder := by
  obtain ⟨hqueue, hctx, hun⟩ := h
  cases hc : s.configured t with
  | true =>
    rw [settle_section hc]
    constructor <;> simp [SectionController.toIdle, hqueue, hctx]
  | false =>
    rw [settle_unconfigured hc]
    refine hun (by_contra fun hne => ?_)
    rw [(configured_iff s t).mpr hne] at hc
    nomatch hc

/-- R44: both tracks at rest after the closes of a warm reset. -/
theorem settleBoth_kept (s : State) : Kept s ((s.closeForReset.clearAllIndications.settle .t1).settle .t2) := by
  have steady : Steady (fun _ _ => False) s ((s.closeForReset.clearAllIndications.settle .t1).settle .t2) := by
    obtain ⟨n, o, hclose⟩ := closeForReset_order s
    have closed : Steady (fun _ _ => False) s s.closeForReset := by
      rw [hclose]
      exact ((Steady.of_store (u := { s with choice := n }) rfl).trans
        ((abandonPass_steady _ o .reset).mono fun _ _ (h : False) => h.elim)).trans
        ((abandonPass_steady _ (otherTrack o) .reset).mono fun _ _ (h : False) => h.elim)
    have rested : Frame ([.sensors .t1, .sensors .t2] ++ settleParts .t1 ++ settleParts .t2) s.closeForReset
        ((s.closeForReset.clearAllIndications.settle .t1).settle .t2) :=
      .step (.step (.one (clearAllIndications_frame _)) (settle_settleParts _ .t1)) (settle_settleParts _ .t2)
    exact closed.trans (.of_frame rested)
  have indications (t : TrackId) : s.closeForReset.clearAllIndications.section t = s.closeForReset.section t :=
    (clearAllIndications_frame _).section_eq
  refine ⟨fun h t => ?_, fun hs => (steady hs).1, fun _ _ t => openHeld_of_none ?_⟩
  · cases t with
    | t1 =>
      rw [settle_section_other (by decide)]
      exact settle_inOrder (by rw [indications]; exact closeForReset_parted h .t1)
    | t2 =>
      refine settle_inOrder ?_
      rw [settle_section_other (by decide), indications]
      exact closeForReset_parted h .t2
  · rw [settle_section_ctx, settle_section_ctx, State.ctx, indications, closeForReset_section]

theorem warmReset_kept (s : State) : Kept s s.warmReset := by
  have blocks (u : State) : Kept u u.resetBlocks := ⟨id, id, fun _ => id⟩
  have ports (u : State) : Kept u { u with ports := u.ports.map StationPort.warmReset } := ⟨id, id, fun _ => id⟩
  have config (u : State) : Kept u { u with config := u.config.unstage } := ⟨id, id, fun _ => id⟩
  exact ((((settleBoth_kept s).trans (blocks _)).trans (ports _)).trans (promoteReady_kept _)).trans (config _)

end Operations

/-! ### The commands -/

/-- The outcome is a next state that keeps the invariants. -/
def KeptBy (s : State) (r : Host.Outcome State Fault Refusal) : Prop := ∃ u, r = .next u ∧ Kept s u

section Commands

variable {s u : State} {now : SiteTime}

theorem KeptBy.next (h : Kept (s.atTime now) u) : KeptBy s (.next u) :=
  ⟨u, rfl, (Kept.of_frame (atTime_frame s now)).trans h⟩

theorem KeptBy.same (s : State) (now : SiteTime) : KeptBy s (.next (s.atTime now)) := .next (.refl _)

theorem Does.kept {F : List Part} {r : Host.Outcome State Fault Refusal} (h : Does F now s r)
    (h1 : Part.control .t1 ∉ F := by simp) (h2 : Part.control .t2 ∉ F := by simp)
    (hstore : Part.store ∉ F := by simp) : KeptBy s r := by
  obtain ⟨u, hu, -, frame⟩ := h
  exact ⟨u, hu, .of_frame frame (by simp [h1]) (by simp [h2]) (by simp [hstore])⟩

theorem transact_kept {p : Port} {bytes : List Byte} {row : Byte → List Byte → Bool} {run : List Byte → State → Executed}
    (h : ∀ args, Kept s (run args s).1) : Kept s (s.transact p bytes row run) := by
  rcases transact_cases s p bytes row run with heq | ⟨args, heq⟩
  · rw [heq]
    exact .refl s
  · rw [heq]
    exact (h args).trans (.of_frame (putReply_frame _ p _))

theorem runTrackControl_kept {args : List Byte} {run : TrackId → Executed} (h : ∀ t, Kept s (run t).1) :
    Kept s (s.runTrackControl args run).1 := by
  unfold State.runTrackControl
  split
  · exact checked_state (P := Kept s) (.refl s) (.refl s)
  · exact h _

theorem execSensorRawChange_kept (now : SiteTime) (input : Fin 8) (level : Bool) (s : State) :
    KeptBy s (execSensorRawChange now input level s) := by
  unfold execSensorRawChange
  dsimp only
  split
  · exact .same s now
  · split
    · exact .next (orAsBefore_kept _ _ _ fun u => takeRawChange_kept u _ _ _ level)
    · exact .next (.of_frame (setFilter_frame _ _ _ _ _))

theorem execDebounceConfirm_kept (now : SiteTime) (input : Fin 8) (s : State) :
    KeptBy s (execDebounceConfirm now input s) :=
  .next (orAsBefore_kept _ _ _ fun u => confirmDue_kept u _ _ _)

theorem execHeldTimerExpiry_kept (now : SiteTime) (input : Fin 8) (s : State) :
    KeptBy s (execHeldTimerExpiry now input s) := by
  unfold execHeldTimerExpiry
  dsimp only
  split
  · exact .next ((Kept.of_frame (enterHeld_frame _ _ _ _)).trans (partnerHeld_kept _ _ _ _))
  · exact .same s now

theorem execPairTimeoutExpiry_kept (now : SiteTime) (t : TrackId) (e : SectionEnd) (s : State) :
    KeptBy s (execPairTimeoutExpiry now t e s) := by
  unfold execPairTimeoutExpiry
  dsimp only
  split
  · exact .same s now
  · split
    · exact .next (endWait_kept _ t e _ _)
    · exact .same s now

theorem execApproachInputChange_kept (now : SiteTime) (t : TrackId) (e : SectionEnd) (level : Bool) (s : State) :
    KeptBy s (execApproachInputChange now t e level s) := by
  unfold execApproachInputChange
  dsimp only
  split
  · exact .next ((setApproachInput_retouched _ t e _).trans (changeCoinciding_retouched _ t _)).kept
  · exact .next (setApproachInput_retouched _ t e _).kept

theorem execApproachEdge_kept (now : SiteTime) (t : TrackId) (e : SectionEnd) (s : State) :
    KeptBy s (execApproachEdge now t e s) := by
  unfold execApproachEdge
  dsimp only
  split
  · exact .next ((setApproachInput_retouched _ t e _).kept.trans (wakeTrack_kept _ t))
  · split
    · exact .next ((changeCoinciding_retouched _ t _).kept.trans (wakeTrack_kept _ t))
    · exact .same s now

theorem execApproachInputInactive_kept (now : SiteTime) (t : TrackId) (e : SectionEnd) (s : State) :
    KeptBy s (execApproachInputInactive now t e s) := by
  unfold execApproachInputInactive
  dsimp only
  split
  · exact .next (setApproachInput_retouched _ t e _).kept
  · exact .same s now

section Due

variable {c : SectionController} (h : c.InOrder)
include h

/-- R20: the state in which a section's timer runs. -/
theorem approach_of_due (hdue : timerDue c.approachTimer now = true) : c.state = .approach := by
  by_contra hne
  rw [h.approachTimer hne] at hdue
  nomatch hdue

theorem occupied_of_due (hdue : timerDue c.holdTimer now = true) : c.state = .occupied := by
  by_contra hne
  rw [h.holdTimer hne] at hdue
  nomatch hdue

theorem clearing_of_due (hdue : timerDue c.clearTimer now = true) : c.state = .clearing := by
  by_contra hne
  rw [h.clearTimer hne] at hdue
  nomatch hdue

theorem draining_of_due (hdue : timerDue c.quietTimer now = true) : c.state = .draining := by
  by_contra hne
  rw [h.quietTimer hne] at hdue
  nomatch hdue

/-- R20, R21: a track with no pass has no entries. -/
theorem no_pass (h1 : c.state ≠ .occupied) (h2 : c.state ≠ .standing) (h3 : c.state ≠ .clearing) :
    c.queue = [] ∧ c.ctx = none := ⟨h.empty h1 h2, h.ctx_none h1 h2 h3⟩

theorem no_pass_of_approachDue (hdue : timerDue c.approachTimer now = true) : c.queue = [] ∧ c.ctx = none := by
  have hstate := approach_of_due h hdue
  refine no_pass h ?_ ?_ ?_ <;> simp [hstate]

theorem no_pass_of_quietDue (hdue : timerDue c.quietTimer now = true) : c.queue = [] ∧ c.ctx = none := by
  have hstate := draining_of_due h hdue
  refine no_pass h ?_ ?_ ?_ <;> simp [hstate]

theorem no_pass_of_out (hstate : c.state = .outOfService) : c.queue = [] ∧ c.ctx = none := by
  refine no_pass h ?_ ?_ ?_ <;> simp [hstate]

theorem empty_of_clearDue (hdue : timerDue c.clearTimer now = true) : c.queue = [] := by
  have hstate := clearing_of_due h hdue
  refine h.empty ?_ ?_ <;> simp [hstate]

/-- R33: a section in order that goes to STANDING. -/
theorem standing_inOrder (hdue : timerDue c.holdTimer now = true) {q : List AxleEntry}
    (hq : q.length = c.queue.length) : { c with state := .standing, holdTimer := none, queue := q }.InOrder := by
  have hstate := occupied_of_due h hdue
  obtain ⟨hlen, hpos⟩ := h.queued (.inl hstate)
  have hsome := h.passing.mpr (.inl hstate)
  have happroach := h.approachTimer (by simp [hstate])
  have hclear := h.clearTimer (by simp [hstate])
  have hquiet := h.quietTimer (by simp [hstate])
  have hdelay := h.closeDelay (by simp [hstate])
  constructor <;> simp [h.count_le, hq, hlen, hpos, hsome, happroach, hclear, hquiet, hdelay]

end Due

theorem execApproachTimerExpiry_kept (now : SiteTime) (t : TrackId) (s : State) :
    KeptBy s (execApproachTimerExpiry now t s) := by
  unfold execApproachTimerExpiry
  dsimp only
  split
  · next hdue =>
    exact .next (enterIdle_kept true fun h => no_pass_of_approachDue h hdue)
  · exact .same s now

theorem execQuietTimerExpiry_kept (now : SiteTime) (t : TrackId) (s : State) :
    KeptBy s (execQuietTimerExpiry now t s) := by
  unfold execQuietTimerExpiry
  dsimp only
  split
  · next hdue =>
    split
    · exact .next (enterIdle_kept true fun h => no_pass_of_quietDue h hdue)
    · refine .next (setSection_retouched ?_).kept
      exact ⟨rfl, rfl, rfl, rfl, id, id, id, fun _ => rfl, id⟩
  · exact .same s now

theorem execCloseDelayExpiry_kept (now : SiteTime) (t : TrackId) (s : State) :
    KeptBy s (execCloseDelayExpiry now t s) := by
  unfold execCloseDelayExpiry
  dsimp only
  split
  · refine .next (.trans (setSection_retouched ?_).kept (.of_frame (closeShutters_frame _ t)))
    exact ⟨rfl, rfl, rfl, rfl, id, id, id, id, fun _ => rfl⟩
  · split
    · refine .next (.trans (setSection_retouched ?_).kept (.of_frame (closeShutters_frame _ t)))
      exact ⟨rfl, rfl, rfl, rfl, id, id, id, id, id⟩
    · exact .same s now

theorem enterStanding_section (s : State) (t : TrackId) (c : PassContext) : (s.enterStanding t c).section t =
    { s.section t with
      state := .standing, holdTimer := none
      queue := flagStandstill (s.area t) c.direction (s.section t).queue } := by
  rw [State.enterStanding, (stopPacer_frame _ t).section_eq, section_setSection]

theorem execHoldTimerExpiry_kept (now : SiteTime) (t : TrackId) (s : State) :
    KeptBy s (execHoldTimerExpiry now t s) := by
  unfold execHoldTimerExpiry
  dsimp only
  split
  · exact .same s now
  · next c hc =>
    split
    · next hdue =>
      refine .next (.of_section t (enterStanding_frame _ t c)
        (by rw [State.ctx, enterStanding_section]; rfl) fun h => ?_)
      rw [enterStanding_section]
      exact standing_inOrder h hdue (List.length_map _)
    · exact .same s now

theorem execClearTimerExpiry_kept (now : SiteTime) (t : TrackId) (s : State) :
    KeptBy s (execClearTimerExpiry now t s) := by
  unfold execClearTimerExpiry
  dsimp only
  split
  · next hdue =>
    have hctx : (((s.atTime now).closePass t .normal).section t).ctx = none := closePass_ctx _ t .normal
    refine .next (.trans (.trans (.of_track
      (P := .context t :: .store :: .alarms :: .view .a :: .view .b :: restParts t) t
      (.step (.one (closePass_frame _ t .normal)) (rest_frame _ t true))
      ((closePass_leaves _ t .normal).trans (.of_steady (.of_frame (rest_frame _ t true)) (by rw [rest_ctx])))
      fun h => ?_) (promoteSiteIfReady_kept _)) (promoteTrackIfReady_kept _ t))
    have hqueue := empty_of_clearDue h hdue
    rw [rest_section_of]
    refine toIdle_inOrder _ ?_ hctx
    cases hc : (s.atTime now).ctx t with
    | none =>
      rw [closePass_none .normal hc]
      exact hqueue
    | some c =>
      rw [closePass_section .normal hc]
      exact hqueue
  · exact .same s now

theorem execPaceTick_kept (now : SiteTime) (t : TrackId) (s : State) : KeptBy s (execPaceTick now t s) := by
  unfold execPaceTick
  dsimp only
  split
  · have overflowed (p : Pacer) := setPacer_frame (s.atTime now) t p
    split
    · exact .next (.of_frame (overflowed _))
    · next c hc => exact .next ((Kept.of_frame (overflowed _)).trans (takeTick_retouched hc).kept)
  · exact .same s now

theorem execZeroTimerExpiry_kept (now : SiteTime) (t : TrackId) (s : State) :
    KeptBy s (execZeroTimerExpiry now t s) := by
  unfold execZeroTimerExpiry
  dsimp only
  split
  · have started := startZeroTimer_frame (s.atTime now) t
    split
    · exact .next ((Kept.of_frame started).trans (requestScan_retouched _ t _).kept)
    · exact .next (.of_frame started)
  · exact .same s now

theorem takeSample_kept (s : State) (x : Scan) (sample : Int) : Kept s (s.takeSample x sample) := by
  unfold State.takeSample
  split
  · exact .of_frame (takeAmbient_frame s sample)
  · split
    · exact (creditPace_retouched s _ _ _ _ _).kept
    · split
      · exact .refl s
      · split
        · split
          · exact wakeTrack_kept s _
          · exact .refl s
        · unfold State.takeZeroSample
          split
          · exact .refl s
          · split
            · exact .refl s
            · split
              · exact wakeTrack_kept s _
              · split
                · exact .refl s
                · exact (Kept.of_frame (setZero_frame s _ _ _ _)).trans (.of_frame (checkDrift_frame _ _ _ _))

theorem execConversionEnd_kept (now : SiteTime) (sample : BitVec 16) (s : State) :
    KeptBy s (execConversionEnd now sample s) := by
  unfold execConversionEnd
  dsimp only
  split
  · exact .same s now
  · split
    · exact .next ((takeSample_kept _ _ _).trans (.of_frame (endConversion_frame _ _)))
    · exact .same s now

theorem execScannerLine_kept (now : SiteTime) (link : Fin 8) (seqNo : BitVec 8) (pixels : List (BitVec 16))
    (s : State) : KeptBy s (execScannerLine now link seqNo pixels s) := by
  unfold execScannerLine
  dsimp only
  split
  · exact .same s now
  · split
    · have ended (x : Scanner) := setScanner_frame (s.atTime now) (scannerOfLink link).1 (scannerOfLink link).2 x
      split
      · exact .next ((Kept.of_frame (ended _)).trans (updateEntry_retouched _ _ _ _).kept)
      · exact .next (.of_frame (ended _))
    · exact .same s now

theorem execDetach_kept (now : SiteTime) (p : Port) (bytes : List Byte) (s : State) :
    KeptBy s (execDetach now p bytes s) := by
  have detached (s : State) : Kept s (s.detachPort p) := by
    have released : Kept s { s with store := { s.store with passes := s.store.passes.map fun x => x.releaseFor p } } := by
      refine (Retouched.of_map (f := fun x => x.releaseFor p) (withStore_frame s _) rfl ?_ ?_ ?_ ?_ ?_).kept <;>
      · intro x
        unfold HeldPass.releaseFor
        split <;> rfl
    exact released.trans (.of_frame (P := [.notices p, .attached p]) (setPort_frame (by simp) (by simp) (by simp) (by simp)))
  refine .next (transact_kept fun args => checked_state (P := Kept _) (.refl _) ?_)
  split
  · exact detached _
  · exact .refl _

theorem execReleasePass_kept (now : SiteTime) (p : Port) (bytes : List Byte) (s : State) :
    KeptBy s (execReleasePass now p bytes s) := by
  refine .next (transact_kept fun args => checked_state (P := Kept _) (.refl _)
    (needsAttached_state (P := Kept _) (.refl _) ?_))
  unfold State.releasePass
  split
  · exact .refl _
  · split
    · exact .refl _
    · split
      · exact .refl _
      · refine (Retouched.of_map (P := [.store]) (f := fun x => if x.number = argument args 0 2 then
          { x with release := x.release.set p true } else x) (withStore_frame _ _) rfl ?_ ?_ ?_ ?_ ?_).kept <;>
        · intro x
          split <;> rfl

theorem execCommit_kept (now : SiteTime) (p : Port) (bytes : List Byte) (s : State) :
    KeptBy s (execCommit now p bytes s) := by
  refine .next (transact_kept fun args => checked_state (P := Kept _) (.refl _) ?_)
  split
  · exact .refl _
  · exact (((Kept.of_frame (withConfig_frame _ _)).trans (keepCoinciding_retouched _ .t1).kept).trans
      (keepCoinciding_retouched _ .t2).kept).trans (promoteReady_kept _)

theorem execTrackAbort_kept (now : SiteTime) (p : Port) (bytes : List Byte) (s : State) :
    KeptBy s (execTrackAbort now p bytes s) := by
  refine .next (transact_kept fun args => runTrackControl_kept fun t => ?_)
  unfold State.runTrackAbort
  split
  · exact abortTrack_kept _ t
  · exact .refl _

theorem execTrackOut_kept (now : SiteTime) (p : Port) (bytes : List Byte) (s : State) :
    KeptBy s (execTrackOut now p bytes s) := by
  refine .next (transact_kept fun args => runTrackControl_kept fun t => ?_)
  unfold State.runTrackOut
  split
  case h_1 => exact .refl _
  case h_2 => exact .refl _
  all_goals exact takeOut_kept _ t

theorem execTrackIn_kept (now : SiteTime) (p : Port) (bytes : List Byte) (s : State) :
    KeptBy s (execTrackIn now p bytes s) := by
  refine .next (transact_kept fun args => runTrackControl_kept fun t => ?_)
  unfold State.runTrackIn
  split
  · next hstate =>
    exact enterIdle_kept false fun h => no_pass_of_out h hstate
  · exact .refl _

theorem runPurge_kept (s : State) (p : Port) (args : List Byte) : Kept s (s.runPurge p args).1 := by
  unfold State.runPurge
  split
  · exact checked_state (P := Kept s) (.refl s) (.refl s)
  · exact (purge_retouched s p _).kept

theorem execReset_kept (now : SiteTime) (p : Port) (bytes : List Byte) (s : State) :
    KeptBy s (execReset now p bytes s) :=
  .next (transact_kept fun _ => checked_state (P := Kept _) (.refl _) (warmReset_kept _))

theorem exec_kept {c : Instr} (hc : c ≠ .fullReset) (s : State) : KeptBy s (exec c s) := by
  cases c with
  | fullReset => exact absurd rfl hc
  | sensorRawChange => exact execSensorRawChange_kept _ _ _ s
  | debounceConfirm => exact execDebounceConfirm_kept _ _ s
  | heldTimerExpiry => exact execHeldTimerExpiry_kept _ _ s
  | pairTimeoutExpiry => exact execPairTimeoutExpiry_kept _ _ _ s
  | approachInputChange => exact execApproachInputChange_kept _ _ _ _ s
  | approachEdge => exact execApproachEdge_kept _ _ _ s
  | approachTimerExpiry => exact execApproachTimerExpiry_kept _ _ s
  | closeDelayExpiry => exact execCloseDelayExpiry_kept _ _ s
  | holdTimerExpiry => exact execHoldTimerExpiry_kept _ _ s
  | clearTimerExpiry => exact execClearTimerExpiry_kept _ _ s
  | quietTimerExpiry => exact execQuietTimerExpiry_kept _ _ s
  | paceTick => exact execPaceTick_kept _ _ s
  | zeroTimerExpiry => exact execZeroTimerExpiry_kept _ _ s
  | conversionEnd => exact execConversionEnd_kept _ _ s
  | linkMessageDiscarded => exact (linkMessageDiscarded_does _ _ s).kept
  | scannerStatus => exact (scannerStatus_does _ _ _ _ s).kept
  | scannerLine => exact execScannerLine_kept _ _ _ _ s
  | silenceTimerExpiry => exact (silenceTimerExpiry_does _ _ s).kept
  | openingTimerExpiry => exact (openingTimerExpiry_does _ _ s).kept
  | lineTimerExpiry => exact (lineTimerExpiry_does _ _ s).kept
  | spacingLimitPassed => exact (spacingLimitPassed_does _ _ s).kept
  | pulseTimerExpiry => exact (pulseTimerExpiry_does _ _ s).kept
  | recoveryTimerExpiry => exact (recoveryTimerExpiry_does _ _ s).kept
  | stationTimeAdvance => exact (stationTimeAdvance_does _ s).kept
  | selectAssert => exact (selectAssert_does _ _ s).kept
  | selectDeassert => exact (selectDeassert_does _ _ s).kept
  | unknownCommand => exact (unknownCommand_does _ _ _ s).kept
  | status => exact (status_does _ _ _ s).kept
  | attach => exact (attach_does _ _ _ s).kept
  | detach => exact execDetach_kept _ _ _ s
  | listPasses => exact (listPasses_does _ _ _ s).kept
  | selectPass => exact (selectPass_does _ _ _ s).kept
  | readHeader => exact (readHeader_does _ _ _ s).kept
  | readAxles => exact (readAxles_does _ _ _ s).kept
  | readVehicles => exact (readVehicles_does _ _ _ s).kept
  | releasePass => exact execReleasePass_kept _ _ _ s
  | readNotice => exact (readNotice_does _ _ _ s).kept
  | readAlarms => exact (readAlarms_does _ _ _ s).kept
  | ackAlarm => exact (ackAlarm_does _ _ _ s).kept
  | stageWrite => exact (stageWrite_does _ _ _ s).kept
  | stageRead => exact (stageRead_does _ _ _ s).kept
  | activeRead => exact (activeRead_does _ _ _ s).kept
  | commit => exact execCommit_kept _ _ _ s
  | abandon => exact (abandon_does _ _ _ s).kept
  | trackAbort => exact execTrackAbort_kept _ _ _ s
  | trackOut => exact execTrackOut_kept _ _ _ s
  | trackIn => exact execTrackIn_kept _ _ _ s
  | purgeFaults => exact .next (transact_kept fun _ => runPurge_kept _ _ _)
  | purgeNotices => exact .next (transact_kept fun _ => runPurge_kept _ _ _)
  | purgeAcked => exact .next (transact_kept fun _ => runPurge_kept _ _ _)
  | purgeReleased => exact .next (transact_kept fun _ => runPurge_kept _ _ _)
  | setTime => exact (setTime_does _ _ _ s).kept
  | reset => exact execReset_kept _ _ _ s
  | byteShiftedIn => exact (byteShiftedIn_does _ _ _ s).kept
  | pacerFirstStep => exact (pacerFirstStep_does _ _ s).kept
  | approachInputInactive => exact execApproachInputInactive_kept _ _ _ s

/-- R176: the state after a full reset meets the invariants, whatever the state before. -/
theorem fullReset_kept (s : State) : Kept s s.fullReset := by
  have reset (t : TrackId) : (s.fullReset.section t).InOrder := by
    cases t <;> exact (inOrder_iff _).mpr ⟨rfl, rfl⟩
  exact ⟨fun _ => reset, fun _ => rfl, fun _ _ t => openHeld_of_none (by cases t <;> rfl)⟩

theorem step_kept (h : step s = .next u) : Kept s u := by
  cases hp : s.pending with
  | nil =>
    simp only [step, hp] at h
    obtain rfl := Host.Outcome.next.inj h
    exact ⟨id, id, fun _ => id⟩
  | cons c rest =>
    simp only [step, hp] at h
    have front : Kept s { s with pending := rest } := ⟨id, id, fun _ => id⟩
    refine front.trans ?_
    by_cases hc : c = .fullReset
    · subst hc
      obtain rfl := Host.Outcome.next.inj h
      exact fullReset_kept _
    · obtain ⟨v, hv, kept⟩ := exec_kept hc { s with pending := rest }
      obtain rfl := Host.Outcome.next.inj (hv.symm.trans h)
      exact kept

end Commands

/-- Settles O7, from what each command keeps of a section in order. -/
theorem everyStepKeepsSections : Obligations.EveryStepKeepsSections := by
  intro s t hs hstep
  rw [sectionsOk_iff] at hs ⊢
  exact (step_kept hstep).sections hs

/-- Settles O9, from what each command keeps of the pools, and of the states of the held passes. -/
theorem everyStepKeepsTheStorePools : Obligations.EveryStepKeepsTheStorePools := by
  intro s t hs hstep
  have kept := step_kept hstep
  refine ⟨kept.pools hs, fun ho => ?_⟩
  rw [openPassesOk_iff hs] at ho
  exact (openPassesOk_iff (kept.pools hs)).mpr (kept.opened hs ho)

end Sys2Proof.Machine
end

section
/-! PROOFS. The section timers and the pacer (R25, R33, R38, R48 to R50): exact next states of the expiries, and the
promotion of a pending area as a track comes to rest. -/

namespace Sys2Proof.Machine

open Sys2Proof

theorem timerDue_some {r : Running} {now : SiteTime} (h : r.length ≤ interval r.start now) :
    timerDue (some r) now = true := decide_eq_true h

/-! ### The hold timer -/

theorem exec_holdTimerExpiry {now : SiteTime} {t : TrackId} {s : State} {c : PassContext} (hc : s.ctx t = some c)
    (hdue : timerDue (s.section t).holdTimer now = true) :
    exec (.holdTimerExpiry now t) s = .next ((s.atTime now).enterStanding t c) := by
  have hc' : (s.atTime now).ctx t = some c := hc
  have hdue' : timerDue ((s.atTime now).section t).holdTimer now = true := hdue
  simp only [exec, execHoldTimerExpiry, hc', hdue', if_true]

/-- Settles O29, from the state that STANDING is entered with. -/
theorem holdExpiryStandsTheTrack : Obligations.HoldExpiryStandsTheTrack := by
  intro now t r c s htimer hdue hc
  rw [exec_holdTimerExpiry hc (by rw [htimer]; exact timerDue_some hdue)]
  rfl

/-! ### The pacer (R48 to R50) -/

theorem exec_pacerFirstStep {now : SiteTime} {t : TrackId} {s : State} (hr : (s.pacer t).running = true)
    (hf : (s.pacer t).fresh = true) (hi : 1 ≤ interval (s.pacer t).since now) :
    exec (.pacerFirstStep now t) s = .next ((s.atTime now).setPacer t { s.pacer t with
      fresh := false, acc := (s.pacer t).acc + (s.pacer t).active, since := (s.pacer t).since + 1 }) := by
  have hp : (s.atTime now).pacer t = s.pacer t := rfl
  simp only [exec, execPacerFirstStep, hp, hr, hf, Bool.and_true, decide_eq_true hi, if_true]

section Overflow

variable {p : Pacer} (hpos : 0 < p.active.toNat)
include hpos

/-- R49: the steps to the overflow reach 2^32, and the last of them passes it. -/
theorem stepsToOverflow_spec : 4294967296 ≤ p.acc.toNat + p.stepsToOverflow * p.active.toNat ∧
    p.acc.toNat + p.stepsToOverflow * p.active.toNat < 4294967296 + p.active.toNat := by
  have hacc := p.acc.isLt
  have hdiv := Nat.div_add_mod (4294967296 - p.acc.toNat + p.active.toNat - 1) p.active.toNat
  have hmod := Nat.mod_lt (4294967296 - p.acc.toNat + p.active.toNat - 1) hpos
  rw [Nat.mul_comm] at hdiv
  rw [Pacer.stepsToOverflow]
  generalize (4294967296 - p.acc.toNat + p.active.toNat - 1) / p.active.toNat * p.active.toNat = k at *
  omega

/-- R49: the accumulator after the overflow. -/
theorem overflowed_acc : p.acc.toNat + p.stepsToOverflow * p.active.toNat = 4294967296 + p.overflowed.acc.toNat ∧
    p.overflowed.acc.toNat < p.active.toNat := by
  obtain ⟨hlow, hhigh⟩ := stepsToOverflow_spec hpos
  have hactive := p.active.isLt
  have hacc : p.overflowed.acc.toNat = (p.acc.toNat + p.stepsToOverflow * p.active.toNat) % 4294967296 :=
    BitVec.toNat_ofNat _ _
  generalize p.acc.toNat + p.stepsToOverflow * p.active.toNat = k at *
  omega

end Overflow

theorem exec_paceTick {now : SiteTime} {t : TrackId} {s : State} {c : PassContext}
    (hdue : (s.pacer t).tickDue now = true) (hc : s.ctx t = some c) : exec (.paceTick now t) s =
      .next (((s.atTime now).setPacer t (s.pacer t).overflowed).takeTick t c) := by
  have hp : (s.atTime now).pacer t = s.pacer t := rfl
  have hc' : ((s.atTime now).setPacer t (s.pacer t).overflowed).ctx t = some c := hc
  simp only [exec, execPaceTick, hp, hdue, if_true, hc']

/-- R50: a section that differs from another in its queue only, the entries of which keep their order, their
indices and their ticks. -/
structure SameTicks (c d : SectionController) : Prop where
  rest : d = { c with queue := d.queue }
  ticks : d.queue.map (fun e => (e.index, e.ticks)) = c.queue.map fun e => (e.index, e.ticks)

theorem SameTicks.refl (c : SectionController) : SameTicks c c := ⟨rfl, rfl⟩

theorem SameTicks.trans {c d e : SectionController} (h : SameTicks c d) (k : SameTicks d e) : SameTicks c e :=
  ⟨k.rest.trans (congrArg (fun x : SectionController => { x with queue := e.queue }) h.rest), k.ticks.trans h.ticks⟩

section Ticks

variable (s : State) (t : TrackId)

theorem updateEntry_sameTicks (i : Nat) (f : AxleEntry → AxleEntry) (hf : ∀ e, (f e).index = e.index)
    (ht : ∀ e, (f e).ticks = e.ticks) : SameTicks (s.section t) ((s.updateEntry t i f).section t) := by
  rw [State.updateEntry, section_setSection]
  refine ⟨rfl, ?_⟩
  rw [List.map_map]
  refine List.map_congr_left fun e _ => ?_
  simp only [Function.comp_apply]
  split
  · rw [hf, ht]
  · rfl

theorem markEntryShutter_sameTicks (n : ScannerName) (pass : Nat) (e : AxleEntry) :
    SameTicks (s.section t) ((s.markEntryShutter t n pass e).section t) := by
  have marked := updateEntry_sameTicks s t e.index (fun e => e.markShutter n)
    (fun e => by unfold AxleEntry.markShutter; split <;> rfl) fun e => by unfold AxleEntry.markShutter; split <;> rfl
  unfold State.markEntryShutter
  dsimp only
  split
  · rw [(flagPass_frame _ t pass _).section_eq]
    exact marked
  · exact marked

theorem askScanner_sameTicks (pass : Nat) (n : ScannerName) (i : Nat) :
    SameTicks (s.section t) ((s.askScanner t pass n i).section t) := by
  unfold State.askScanner
  split
  · exact .refl _
  · dsimp only
    split
    · exact .refl _
    · split
      · rw [(setScanner_frame s t n _).section_eq]
        exact .refl _
      · exact markEntryShutter_sameTicks s t n pass _
      · exact markEntryShutter_sameTicks s t n pass _
      · exact markEntryShutter_sameTicks s t n pass _
      · exact updateEntry_sameTicks s t i _ (fun _ => rfl) fun _ => rfl
      · exact updateEntry_sameTicks s t i _ (fun _ => rfl) fun _ => rfl

theorem askScanners_sameTicks (pass : Nat) (index : ScannerName → Option Nat) (names : List ScannerName) :
    SameTicks (s.section t) ((names.foldl (fun s n =>
      match index n with
      | none => s
      | some i => s.askScanner t pass n i) s).section t) := by
  induction names generalizing s with
  | nil => exact .refl _
  | cons n rest ih =>
    refine .trans ?_ (ih _)
    dsimp only
    split
    · exact .refl _
    · exact askScanner_sameTicks s t pass n _

/-- R50: a tick of the open pass. -/
theorem takeTick_section (c : PassContext) : (s.takeTick t c).section t = { s.section t with
      ctx := some { c with tickTotal := c.tickTotal + 1 }, queue := ((s.takeTick t c).section t).queue } ∧
    ((s.takeTick t c).section t).queue.map (fun e => (e.index, e.ticks)) =
      (s.section t).queue.map fun e => (e.index, e.ticks + 1) := by
  unfold State.takeTick
  dsimp only
  generalize hq : (((s.section t).queue.map fun e => { e with ticks := e.ticks + 1 }).map fun e =>
    e.markOverlaps (sharesBay (s.area t) c.direction
      ((s.section t).queue.map fun e => { e with ticks := e.ticks + 1 }) e)) = q
  have hticks : q.map (fun e => (e.index, e.ticks)) = (s.section t).queue.map fun e => (e.index, e.ticks + 1) := by
    rw [← hq, List.map_map, List.map_map]
    rfl
  generalize hb : (if BayAssignment.any (bayAssignment (s.area t) c.direction q) then
    (s.setSection t { s.section t with queue := q, ctx := some { c with tickTotal := c.tickTotal + 1 } }).requestScan t
      (.pace c.number (bayAssignment (s.area t) c.direction q))
    else s.setSection t { s.section t with queue := q, ctx := some { c with tickTotal := c.tickTotal + 1 } }) = b
  have hsec : b.section t = { s.section t with queue := q, ctx := some { c with tickTotal := c.tickTotal + 1 } } := by
    rw [← hb]
    split
    · rw [(requestScan_frame _ t _).section_eq, section_setSection]
    · rw [section_setSection]
  obtain ⟨hrest, hsame⟩ := askScanners_sameTicks b t c.number
    (fun n => onlyIndex (insideGate (s.area t) c.direction q n)) scannerNames
  rw [hsec] at hrest hsame
  exact ⟨hrest, hsame.trans hticks⟩

end Ticks

/-- A station port is its parts. -/
theorem StationPort.ext {x y : StationPort} (ha : x.attached = y.attached) (hn : x.notices = y.notices)
    (hv : x.view = y.view) (hp : x.phase = y.phase) (hd : x.dataOut = y.dataOut) : x = y := by
  cases x; cases y
  simp_all

/-- The station ports read through a frame. -/
theorem Frame.ports_eq {F : List Part} {s u : State} (h : Frame F s u)
    (hnotices : ∀ p, Part.notices p ∉ F := by simp) (hview : ∀ p, Part.view p ∉ F := by simp)
    (hattached : ∀ p, Part.attached p ∉ F := by simp) (htransaction : ∀ p, Part.transaction p ∉ F := by simp) :
    u.ports = s.ports := by
  have port : ∀ p, u.ports.get p = s.ports.get p := fun p =>
    StationPort.ext (h _ (hattached p)) (h _ (hnotices p)) (h _ (hview p)) (h _ (htransaction p)).1 (h _ (htransaction p)).2
  have ha : u.ports.a = s.ports.a := port .a
  have hb : u.ports.b = s.ports.b := port .b
  cases hu : u.ports
  cases hs : s.ports
  simp_all

/-- What a tick leaves, with the site time, of the parts it does not change. -/
theorem Frame.ticked_state {s u : State} {t : TrackId} (h : Frame (.siteTime :: .pacer t :: tickParts t) s u) :
    u = { s with
      siteTime := u.siteTime, sections := u.sections, pacers := u.pacers, strain := u.strain,
      scanners := u.scanners, store := u.store } := by
  have hstation : u.stationTime = s.stationTime := h .stationTime (by simp)
  have hsecond : u.secondStart = s.secondStart := h .secondStart (by simp)
  have hsensors : u.sensors = s.sensors := PerTrack.ext_get fun t => h (.sensors t) (by simp)
  have hpairs : u.pairs = s.pairs := PerTrack.ext_get fun t => h (.pairs t) (by simp)
  have hcontexts : u.contexts = s.contexts := PerTrack.ext_get fun t => h (.context t) (by simp)
  have hconfig : u.config = s.config := h.config_eq
  have halarms : u.alarms = s.alarms := h .alarms (by simp)
  have hports : u.ports = s.ports := h.ports_eq
  have hchoice : u.choice = s.choice := h .choice (by simp)
  have hpending : u.pending = s.pending := h .pending (by simp)
  cases u
  simp only [State.mk.injEq, true_and]
  exact ⟨hstation, hsecond, hsensors, hpairs, hcontexts, halarms, hports, hconfig, hchoice, hpending⟩

/-- Settles O31, from the pacer's overflow and from what a tick leaves of the queue. -/
theorem pacerStepsAndTicks : Obligations.PacerStepsAndTicks := by
  intro now t s hr
  refine ⟨fun hf hi => exec_pacerFirstStep hr hf hi, fun c hf hpos hreach hc => ?_⟩
  have hdue : (s.pacer t).tickDue now = true := by simp [Pacer.tickDue, hr, hf, hreach]
  have before : Frame [.siteTime, .pacer t] s ((s.atTime now).setPacer t (s.pacer t).overflowed) :=
    .step (.one (atTime_frame s now)) (setPacer_frame _ t _)
  have tick := takeTick_frame ((s.atTime now).setPacer t (s.pacer t).overflowed) t c
  have frame : Frame (.siteTime :: .pacer t :: tickParts t) s
      (((s.atTime now).setPacer t (s.pacer t).overflowed).takeTick t c) := 
    .trans (before.mono (by simp))
      (tick.mono (List.subset_cons_of_subset _ (List.subset_cons_of_subset _ (List.Subset.refl _))))
  obtain ⟨hsec, hticks⟩ := takeTick_section ((s.atTime now).setPacer t (s.pacer t).overflowed) t c
  have hpacer : (((s.atTime now).setPacer t (s.pacer t).overflowed).takeTick t c).pacer t = (s.pacer t).overflowed :=
    Eq.trans (tick (.pacer t) (by simp)) (PerTrack.get_set _ t _)
  obtain ⟨hacc, hlt⟩ := overflowed_acc hpos
  have hother : otherTrack t ≠ t := (ne_otherTrack t).symm
  refine ⟨_, exec_paceTick hdue hc, ?_, hsec, hticks, ?_, ?_, ?_, ?_, ⟨(s.pacer t).stepsToOverflow, ?_, ?_⟩, ?_, ?_,
    fun n => ?_⟩
  · have htime : (((s.atTime now).setPacer t (s.pacer t).overflowed).takeTick t c).siteTime = now :=
      tick .siteTime (by simp)
    exact frame.ticked_state.trans (by rw [htime])
  · rw [hpacer]; exact hr
  · rw [hpacer]; rfl
  · rw [hpacer]; rfl
  · rw [hpacer]; exact hlt
  · rw [hpacer]; exact hacc
  · rw [hpacer]; rfl
  · exact frame.section_eq (by simp [hother])
  · exact frame (.pacer (otherTrack t)) (by simp [hother])
  · exact congrArg (fun x => PerScanner.get x n) (frame (.scanners (otherTrack t)) (by simp [hother]))

end Sys2Proof.Machine
end

section
/-! PROOFS. A track that comes to rest (R25, R38, R48, R70, R186): its exact next state, the promotion of its pending
area with CONFIG_PROMOTED as its newest notice, and the close delay. -/

namespace Sys2Proof.Machine

open Sys2Proof

/-! ### Notices sent together (log 13, log 24) -/

theorem arrangeGroups_perm (n : Nat) (groups : List (List NoticeBody)) :
    (arrangeGroups n groups).1.Perm groups.flatten := by
  induction groups generalizing n with
  | nil => exact .refl _
  | cons g rest ih => exact (arrange_perm Config.nextNotice g.length n g).append (ih _)

/-- Notices sent together arrive at each port in some order. -/
theorem notifyTogether_port (s : State) (first second : List (List NoticeBody)) :
    ∃ bs : List NoticeBody, bs.Perm (first.flatten ++ second.flatten) ∧ ∀ p,
      (s.notifyTogether first second).port p = bs.foldl (fun x b => x.receive ⟨b, s.siteTime⟩) (s.port p) :=
  ⟨_, (interleave_perm _ _ _ _ _).trans ((arrangeGroups_perm _ _).append (arrangeGroups_perm _ _)),
    fun p => notifyAll_port s _ p⟩

theorem heldNotices_length (s : State) (t : TrackId) : (s.heldNotices t).length ≤ 4 := by
  rw [State.heldNotices, List.length_map]
  exact (List.length_filter_le _ _).trans (by cases t <;> decide)

theorem driftNotices_length (t : TrackId) (area : TrackArea) (before after : PerRail (Vector Bool 8)) :
    (driftNotices t area before after).flatten.length ≤ 16 := by
  have halves : ∀ (l : List (Rail × Fin 8)) (f : Rail × Fin 8 → Bool),
      (l.filter fun x => !f x).length + (l.filter f).length = l.length := fun l f => by
    induction l with
    | nil => rfl
    | cons x rest ih =>
      rw [List.filter_cons, List.filter_cons, List.length_cons]
      cases f x <;> simp <;> omega
  simp only [driftNotices, List.flatten_cons, List.flatten_nil, List.append_nil, List.length_append, List.length_map]
  rw [halves]
  exact (List.length_filter_le _ _).trans (by decide)

theorem heldNotices_plain {s : State} {t : TrackId} {b : NoticeBody} {now : SiteTime} (hb : b ∈ s.heldNotices t) :
    (⟨b, now⟩ : Notice).isOverflow = false := by
  obtain ⟨i, -, rfl⟩ := List.mem_map.mp hb
  rfl

theorem driftNotices_plain {t : TrackId} {area : TrackArea} {before after : PerRail (Vector Bool 8)}
    {b : NoticeBody} {now : SiteTime} (hb : b ∈ (driftNotices t area before after).flatten) :
    (⟨b, now⟩ : Notice).isOverflow = false := by
  simp only [driftNotices, List.flatten_cons, List.flatten_nil, List.append_nil, List.mem_append, List.mem_map] at hb
  obtain ⟨i, -, rfl⟩ | ⟨i, -, rfl⟩ := hb <;> rfl

/-- R165, R166, R186: a promotion sends CONFIG_PROMOTED last; an empty queue has room for all that it sends. -/
theorem promoteTrack_newest {s : State} {t : TrackId} {image : TrackArea} {g : Nat} {p : Port}
    (ha : (s.port p).attached = true) (hn : (s.port p).notices = []) :
    ((s.promoteTrack t image g).port p).notices.getLast? = some ⟨.configPromoted (.track t) g, s.siteTime⟩ := by
  have taken := takeImage_frame s t image g
  have htime : (s.takeImage t image g).siteTime = s.siteTime := taken .siteTime (by simp)
  have hattached : ((s.takeImage t image g).port p).attached = true := Eq.trans (taken (.attached p) (by simp)) ha
  have hempty : ((s.takeImage t image g).port p).notices = [] := Eq.trans (taken (.notices p) (by simp)) hn
  have hsplit : s.promoteTrack t image g = ((s.takeImage t image g).notifyTogether [s.heldNotices t]
      (driftNotices t image (s.strain.drifted.get t) ((s.takeImage t image g).strain.drifted.get t))).notify
        (.configPromoted (.track t) g) := rfl
  obtain ⟨bs, hperm, hport⟩ := notifyTogether_port (s.takeImage t image g) [s.heldNotices t]
    (driftNotices t image (s.strain.drifted.get t) ((s.takeImage t image g).strain.drifted.get t))
  have hlength : bs.length ≤ 20 := by
    have held := heldNotices_length s t
    have drift := driftNotices_length t image (s.strain.drifted.get t)
      ((s.takeImage t image g).strain.drifted.get t)
    rw [hperm.length_eq, List.length_append, List.flatten_cons, List.flatten_nil, List.append_nil]
    omega
  have hplain : ∀ b ∈ bs, (⟨b, s.siteTime⟩ : Notice).isOverflow = false := fun b hb => by
    rcases List.mem_append.mp (hperm.subset hb) with h | h
    · exact heldNotices_plain (by simpa using h)
    · exact driftNotices_plain h
  have hall : ((s.promoteTrack t image g).port p).notices =
      (bs ++ [NoticeBody.configPromoted (.track t) g]).map fun b => ⟨b, s.siteTime⟩ := by
    have hlast := receiveAll_notices (bs := bs ++ [.configPromoted (.track t) g]) (now := s.siteTime) hattached
      (by rw [hempty]; rfl) (by rw [hempty, List.length_append, List.length_singleton]; exact Nat.le_of_lt (by
        simp only [List.length_nil]; omega)) fun b hb => by
        rcases List.mem_append.mp hb with h | h
        · exact hplain b h
        · rw [List.mem_singleton.mp h]; rfl
    rw [hempty, List.nil_append, List.foldl_append] at hlast
    rw [hsplit, port_notify, hport, (notifyTogether_frame _ _ _).siteTime_eq, htime]
    exact hlast
  rw [hall, List.map_append]
  exact List.getLast?_concat

/-! ### The promotion of a track that comes to rest (R186) -/

theorem promoteSiteIfReady_none {s : State} (h : s.config.site.committed = none) : s.promoteSiteIfReady = s := by
  simp only [State.promoteSiteIfReady, h]

/-- R70: a configured track's zero timer is left as it is. -/
theorem takeImage_zeroTimer_configured {s : State} {t : TrackId} {image : TrackArea} {g : Nat}
    (h : (s.section t).state ≠ .unconfigured) :
    (s.takeImage t image g).strain.zeroTimers.get t = s.strain.zeroTimers.get t := by
  have hc := configureTrack_configured (s := s.installTrack t image g) h
  rw [State.takeImage, hc]
  exact Eq.trans (realign_frame _ t _ (.zeroTimer t) (by simp)) (restartFilters_frame _ t (.zeroTimer t) (by simp))

/-- A promotion seen from a state in which the track was configured, with the same inputs, bays and scan. -/
theorem Promoted.seenConfigured {s u w : State} {t : TrackId} {F : List Part} {now : SiteTime} {image : TrackArea}
    {g : Nat} (h : Promoted u w now t image g) (frame : Frame F s u) (hstate : (s.section t).state ≠ .unconfigured)
    (happroach : (u.section t).approach = (s.section t).approach) (harea : u.area t = s.area t)
    (hsensors : Part.sensors t ∉ F := by simp) (hzeros : Part.zeros t ∉ F := by simp)
    (hscan : Part.scan ∉ F := by simp) : Promoted s w now t image g := by
  have hzero : ∀ rail b, u.zero t rail b = s.zero t rail b :=
    fun rail b => congrArg (fun z => bayGet z rail b) (frame (.zeros t) hzeros)
  have hscans : u.strain.scan = s.strain.scan := frame .scan hscan
  unfold Promoted at h ⊢
  simp only [happroach, harea, hzero, hscans, frame.sensor_eq _ _ hsensors] at h
  obtain ⟨himage, hgeneration, hcommitted, -, hrest⟩ := h
  exact ⟨himage, hgeneration, hcommitted, fun hu => absurd hu hstate, hrest⟩

/-- What the promotion of a track leaves of the parts it does not change. -/
theorem Frame.promoted_state {s u : State} {t : TrackId} (h : Frame (promoteTrackParts t) s u) :
    u = { s with
      sections := u.sections, sensors := u.sensors, pairs := u.pairs, strain := u.strain,
      config := u.config, ports := u.ports, choice := u.choice } := by
  have htime : u.siteTime = s.siteTime := h .siteTime (by simp)
  have hstation : u.stationTime = s.stationTime := h .stationTime (by simp)
  have hsecond : u.secondStart = s.secondStart := h .secondStart (by simp)
  have hpacers : u.pacers = s.pacers := h.pacers_eq (by simp)
  have hscanners : u.scanners = s.scanners := PerTrack.ext_get fun t => h (.scanners t) (by simp)
  have hcontexts : u.contexts = s.contexts := PerTrack.ext_get fun t => h (.context t) (by simp)
  have hstore : u.store = s.store := h .store (by simp)
  have halarms : u.alarms = s.alarms := h .alarms (by simp)
  have hpending : u.pending = s.pending := h .pending (by simp)
  cases u
  simp only [State.mk.injEq, true_and]
  exact ⟨htime, hstation, hsecond, hpacers, hscanners, hcontexts, hstore, halarms, hpending⟩

section Idle

variable {s : State} {now : SiteTime} {t : TrackId}

theorem enterIdle_unpending {withDelay : Bool} (hsite : s.config.site.committed = none)
    (htrack : (s.config.tracks.get t).committed = none) : s.enterIdle t withDelay = s.rest t withDelay := by
  rw [State.enterIdle, promoteSiteIfReady_none (s := s.rest t withDelay) hsite,
    promoteTrackIfReady_none (s := s.rest t withDelay) htrack]

theorem enterIdle_pending {withDelay : Bool} {image : TrackArea} {g : Nat} (hsite : s.config.site.committed = none)
    (htrack : (s.config.tracks.get t).committed = some (image, g)) :
    s.enterIdle t withDelay = (s.rest t withDelay).promoteTrack t image g := by
  have hrest : ((s.rest t withDelay).section t).state.atRest = true := by rw [rest_section_of]; rfl
  rw [State.enterIdle, promoteSiteIfReady_none (s := s.rest t withDelay) hsite,
    promoteTrackIfReady_ready (s := s.rest t withDelay) htrack hrest]

theorem promoteTrack_section_configured {image : TrackArea} {g : Nat} (h : (s.section t).state ≠ .unconfigured) :
    (s.promoteTrack t image g).section t =
      { s.section t with approach := ((s.promoteTrack t image g).section t).approach } := by
  rw [(promoteTrack_sameTrack s t image g).section, takeImage_section_configured s t image g h]

theorem promoteTrack_promoted (image : TrackArea) (g : Nat) :
    Promoted s (s.promoteTrack t image g) s.siteTime t image g :=
  (takeImage_promoted s t image g).keeps (promoteTrack_sameTrack s t image g)

theorem promoteTrack_zeroTimer {image : TrackArea} {g : Nat} (h : (s.section t).state ≠ .unconfigured) :
    (s.promoteTrack t image g).strain.zeroTimers.get t = s.strain.zeroTimers.get t :=
  (promoteTrack_sameTrack s t image g).zeroTimer.trans (takeImage_zeroTimer_configured h)

theorem exec_approachTimerExpiry {r : Running} (hr : (s.section t).approachTimer = some r)
    (hdue : r.length ≤ interval r.start now) :
    exec (.approachTimerExpiry now t) s = .next ((s.atTime now).enterIdle t true) := by
  have hd : timerDue ((s.atTime now).section t).approachTimer now = true := by
    show timerDue (s.section t).approachTimer now = true
    rw [hr]
    exact timerDue_some hdue
  simp only [exec, execApproachTimerExpiry, hd, if_true]

theorem exec_quietTimerExpiry {r : Running} (hr : (s.section t).quietTimer = some r)
    (hdue : r.length ≤ interval r.start now) : exec (.quietTimerExpiry now t) s =
      if (s.section t).count = 0 then .next ((s.atTime now).enterIdle t true)
      else .next ((s.atTime now).setSection t { s.section t with quietTimer := none }) := by
  have hd : timerDue ((s.atTime now).section t).quietTimer now = true := by
    show timerDue (s.section t).quietTimer now = true
    rw [hr]
    exact timerDue_some hdue
  simp only [exec, execQuietTimerExpiry, hd, if_true]
  rfl

/-- R25, R102: the close delay ends. -/
theorem exec_closeDelayExpiry {r : Running} (hr : (s.section t).closeDelay = some r)
    (hdue : r.length ≤ interval r.start now) : exec (.closeDelayExpiry now t) s =
      .next (((s.atTime now).setSection t { s.section t with closeDelay := none }).closeShutters t) := by
  have hd : timerDue ((s.atTime now).section t).closeDelay now = true := by
    show timerDue (s.section t).closeDelay now = true
    rw [hr]
    exact timerDue_some hdue
  simp only [exec, execCloseDelayExpiry, hd, if_true]
  rfl

theorem exec_closeDelayExpiry_late (hr : (s.section t).closeDelay = none) (hlate : (s.section t).lateClose = some now) :
    exec (.closeDelayExpiry now t) s =
      .next (((s.atTime now).setSection t { s.section t with lateClose := none }).closeShutters t) := by
  have hd : timerDue ((s.atTime now).section t).closeDelay now = false := by
    show timerDue (s.section t).closeDelay now = false
    rw [hr]
    rfl
  have hl : ((s.atTime now).section t).lateClose = some now := hlate
  simp only [exec, execCloseDelayExpiry, hd, hl, if_true]
  rfl

end Idle

/-- Settles O28, from the state that a track at rest has and from its promotion. -/
theorem approachQuietAndCloseDelayExpire : Obligations.ApproachQuietAndCloseDelayExpire := by
  intro now t r s closed
  refine ⟨fun hdue => ?_, fun hr hlate => exec_closeDelayExpiry_late hr hlate⟩
  intro zeroTimer closeDelay idle
  refine ⟨fun hsite c hc happroach hquiet => ?_, fun hr hcount => ?_, fun hr => exec_closeDelayExpiry hr hdue⟩
  · have hidle : (s.atTime now).rest t true = idle := rfl
    have hexec : exec c s = .next ((s.atTime now).enterIdle t true) := by
      simp only [List.mem_cons, List.not_mem_nil, or_false] at hc
      rcases hc with rfl | rfl
      · exact exec_approachTimerExpiry (happroach rfl) hdue
      · rw [exec_quietTimerExpiry (hquiet rfl).1 hdue, if_pos (hquiet rfl).2]
    have hidleSection : idle.section t = (s.section t).toIdle closeDelay := PerTrack.get_set _ t _
    have hconfigured : (idle.section t).state ≠ .unconfigured := by
      rw [hidleSection]
      simp [SectionController.toIdle]
    have rested : Frame [.siteTime, .control t, .zeroTimer t, .pacer t] s idle :=
      .step (.one (atTime_frame s now)) (rest_frame _ t true)
    refine ⟨fun hnone => ?_, fun ⟨image, g⟩ hsome hstate => ?_⟩
    · rw [hexec, enterIdle_unpending (s := s.atTime now) hsite hnone, hidle]
    · have hother : otherTrack t ≠ t := (ne_otherTrack t).symm
      have frame := promoteTrack_frame idle t image g
      refine ⟨idle.promoteTrack t image g, ?_, ?_, frame.promoted_state, promoteTrack_section_configured hconfigured,
        (promoteTrack_zeroTimer hconfigured).trans (PerTrack.get_set _ t _), frame .site (by simp),
        fun p ha hn => promoteTrack_newest ha hn, ?_⟩
      · rw [hexec, enterIdle_pending (s := s.atTime now) hsite hsome, hidle]
      · exact (promoteTrack_promoted image g).seenConfigured rested hstate (by rw [hidleSection]; rfl) rfl
      · exact (frame.section_eq (by simp [hother])).trans (PerTrack.get_set_of_ne _ hother _)
  · rw [exec_quietTimerExpiry hr hdue, if_neg hcount]
    rfl

end Sys2Proof.Machine
end

section
/-! PROOFS. The approach inputs and the waking of a track (R23, R66, R70, R100, R102, R187): exact next states. -/

namespace Sys2Proof.Machine

open Sys2Proof

/-! ### Waking (R23, R25, R66, R70, R100) -/

theorem PerTrack.set_set {α : Type} (x : PerTrack α) (t : TrackId) (v w : α) :
    (x.set t v).set t w = x.set t w := by
  cases t <;> rfl

theorem PerTrack.set_get {α : Type} (x : PerTrack α) (t : TrackId) : x.set t (x.get t) = x := by
  cases t <;> rfl

/-- R66: a waiting ZERO request is withdrawn; any other stays. -/
theorem withdrawZero_eq (s : State) (t : TrackId) : s.withdrawZero t = { s with
    strain := { s.strain with
      slots := s.strain.slots.set t (if s.slot t = some .zero then none else s.slot t) } } := by
  have keeps : s.strain.slots.set t (s.slot t) = s.strain.slots := PerTrack.set_get _ t
  unfold State.withdrawZero
  split
  next h => rw [h, if_pos rfl]; rfl
  next h => rw [h, if_neg (by simp), ← h, keeps]
  next h => rw [h, if_neg (by simp), ← h, keeps]

/-- R100: a scanner whose shutter is open or opening, and wanted so, is not asked again. -/
theorem requestOpen_eq (x : Scanner) (now : SiteTime) : x.requestOpen now =
    if x.wantedOpen = true ∧ (x.view = .opened ∨ x.view = .opening) then x
    else { x with
      wantedOpen := true, openingFault := false, openingTimer := some ⟨now, 1500000⟩,
      sent := .shutterOpen :: x.sent } := by
  simp only [Scanner.requestOpen, Bool.and_eq_true, Bool.or_eq_true, decide_eq_true_eq]
  rfl

theorem requestOpen_wantedOpen (x : Scanner) (now : SiteTime) : (x.requestOpen now).wantedOpen = true := by
  rw [requestOpen_eq]
  split
  · next h => exact h.1
  · rfl

section Wake

variable {s : State} {t : TrackId}

/-- R25, R100, R102: an IDLE track woken. -/
theorem wakeTrack_idle (h : (s.section t).state = .idle) : s.wakeTrack t = { s with
    sections := s.sections.set t { s.section t with
      state := .approach, approachTimer := some ⟨s.siteTime, (s.area t).approachTimeout⟩, closeDelay := none,
      lateClose := if timerDue (s.section t).closeDelay s.siteTime then some s.siteTime else none }
    strain := { s.strain with
      zeroTimers := s.strain.zeroTimers.set t none
      slots := s.strain.slots.set t (if s.slot t = some .zero then none else s.slot t) }
    scanners := s.scanners.set t ((s.scanners.get t).map fun x => x.requestOpen s.siteTime) } := by
  simp only [State.wakeTrack, h, State.leaveIdle, withdrawZero_eq, State.openShutters]
  simp only [State.setSection, State.section, State.keepLateClose, State.stopZeroTimer, PerTrack.get_set,
    PerTrack.set_set]
  rfl

theorem wakeTrack_section (h : (s.section t).state = .idle) : (s.wakeTrack t).section t = { s.section t with
    state := .approach, approachTimer := some ⟨s.siteTime, (s.area t).approachTimeout⟩, closeDelay := none,
    lateClose := if timerDue (s.section t).closeDelay s.siteTime then some s.siteTime else none } := by
  rw [wakeTrack_idle h]
  exact PerTrack.get_set _ t _

/-- A track is woken as its section stands. -/
theorem setSection_wakeTrack {c : SectionController} (h : c.state = .idle) : (s.setSection t c).wakeTrack t = { s with
    sections := s.sections.set t { c with
      state := .approach, approachTimer := some ⟨s.siteTime, (s.area t).approachTimeout⟩, closeDelay := none,
      lateClose := if timerDue c.closeDelay s.siteTime then some s.siteTime else none }
    strain := { s.strain with
      zeroTimers := s.strain.zeroTimers.set t none
      slots := s.strain.slots.set t (if s.slot t = some .zero then none else s.slot t) }
    scanners := s.scanners.set t ((s.scanners.get t).map fun x => x.requestOpen s.siteTime) } := by
  rw [wakeTrack_idle (by rw [section_setSection]; exact h), section_setSection]
  simp only [State.setSection, PerTrack.set_set]
  rfl

theorem wakeTrack_approach (h : (s.section t).state = .approach) : s.wakeTrack t =
    s.setSection t { s.section t with approachTimer := some ⟨s.siteTime, (s.area t).approachTimeout⟩ } := by
  simp only [State.wakeTrack, h]
  rfl

/-- R23: a track that does not wait for a train is not woken. -/
theorem wakeTrack_busy (hidle : (s.section t).state ≠ .idle) (happroach : (s.section t).state ≠ .approach) :
    s.wakeTrack t = s := by
  unfold State.wakeTrack
  dsimp only
  split
  next h => exact absurd h hidle
  next h => exact absurd h happroach
  all_goals rfl

/-- What waking a track leaves of the parts it does not change. -/
theorem Frame.woken_state {u : State} (h : Frame (wakeParts t) s u) :
    u = { s with sections := u.sections, strain := u.strain, scanners := u.scanners } := by
  have htime : u.siteTime = s.siteTime := h .siteTime (by simp)
  have hstation : u.stationTime = s.stationTime := h .stationTime (by simp)
  have hsecond : u.secondStart = s.secondStart := h .secondStart (by simp)
  have hsensors : u.sensors = s.sensors := PerTrack.ext_get fun t => h (.sensors t) (by simp)
  have hpairs : u.pairs = s.pairs := PerTrack.ext_get fun t => h (.pairs t) (by simp)
  have hpacers : u.pacers = s.pacers := h.pacers_eq (by simp)
  have hcontexts : u.contexts = s.contexts := PerTrack.ext_get fun t => h (.context t) (by simp)
  have hstore : u.store = s.store := h .store (by simp)
  have halarms : u.alarms = s.alarms := h .alarms (by simp)
  have hports : u.ports = s.ports := h.ports_eq
  have hconfig : u.config = s.config := h.config_eq
  have hchoice : u.choice = s.choice := h .choice (by simp)
  have hpending : u.pending = s.pending := h .pending (by simp)
  cases u
  simp only [State.mk.injEq, true_and]
  exact ⟨htime, hstation, hsecond, hsensors, hpairs, hpacers, hcontexts, hstore, halarms, hports, hconfig, hchoice,
    hpending⟩

end Wake

/-! ### The commands of the approach inputs (R23) -/

theorem confirms_eq {f : InputFilter} {level : Bool} {stamp now : SiteTime} {time : Nat}
    (hf : f = ⟨level, !level, some stamp⟩) (hdue : time ≤ interval stamp now) : f.confirms level time now = true := by
  subst hf
  simp only [InputFilter.confirms, Bool.and_eq_true, decide_eq_true_eq, true_and]
  exact hdue

theorem changeApproachBefore_alone {s : State} {t : TrackId} {e : SectionEnd} {g : InputFilter → InputFilter}
    (h : s.coinciding t = none) : s.changeApproachBefore t e g = s := by
  simp only [State.changeApproachBefore, State.changeCoinciding, h]

section Inputs

variable {s : State} {now stamp : SiteTime} {t : TrackId} {e : SectionEnd}

theorem exec_approachInputChange_settled {level : Bool} (hs : Settled s now t) (hc : s.configured t = true) :
    exec (.approachInputChange now t e level) s = .next ((s.atTime now).setApproachInput t e
      (((s.section t).approach.get e).rawChange level now)) := by
  have hc' : (s.atTime now).configured t = true := hc
  have halone : ((s.atTime now).setApproachInput t e (((s.section t).approach.get e).rawChange level now)).coinciding t =
      none := by
    have h := coinciding_of_settled hs
    simp only [State.coinciding, State.setApproachInput, section_setSection] at h ⊢
    exact h
  simp only [exec, execApproachInputChange, hc', if_true]
  exact congrArg Host.Outcome.next (changeApproachBefore_alone halone)

theorem exec_approachEdge_confirmed (hf : (s.section t).approach.get e = ⟨true, false, some stamp⟩)
    (hdue : 1000 ≤ interval stamp now) : exec (.approachEdge now t e) s =
      .next (((s.atTime now).setSection t { s.section t with
        approach := (s.section t).approach.set e ⟨true, true, none⟩ }).wakeTrack t) := by
  have hinput : (s.atTime now).approachInput t e = ⟨true, false, some stamp⟩ := hf
  have hconfirms := confirms_eq (time := approachDebounce) hinput hdue
  simp only [exec, execApproachEdge, hconfirms, if_true]
  rw [hinput]
  rfl

/-- R187: an edge that only the input kept by a COMMIT of this site time confirms. -/
theorem exec_approachEdge_before (hf : ((s.section t).approach.get e).pendingSince = none)
    (hb : (s.atTime now).edgeBefore t e = true) : exec (.approachEdge now t e) s =
      .next (((s.atTime now).changeApproachBefore t e InputFilter.confirm).wakeTrack t) := by
  have hconfirms : ((s.atTime now).approachInput t e).confirms true approachDebounce now = false := by
    have h : ((s.atTime now).approachInput t e).pendingSince = none := hf
    simp only [InputFilter.confirms, h]
  simp only [exec, execApproachEdge, hconfirms, hb, if_true]
  rfl

end Inputs

theorem changeApproachBefore_frame_section (s : State) (t : TrackId) (e : SectionEnd) (g : InputFilter → InputFilter) :
    Frame [.control t] s (s.changeApproachBefore t e g) ∧ (s.changeApproachBefore t e g).section t =
      { s.section t with coinciding := ((s.changeApproachBefore t e g).section t).coinciding } := by
  unfold State.changeApproachBefore State.changeCoinciding
  split
  · exact ⟨.refl _ _, rfl⟩
  · exact ⟨setSection_frame s t _, by rw [section_setSection]⟩

/-- R187: an approach edge after a COMMIT of the same site time. -/
theorem edgeAfterCommit {now stamp : SiteTime} {t : TrackId} {e : SectionEnd} {s u : State}
    (hf : (s.section t).approach.get e = ⟨true, false, some stamp⟩) (hdue : 1000 ≤ interval stamp now)
    (hcommit : CommittedFirst s u now t) :
    exec (.approachEdge now t e) u = .next ((u.changeApproachBefore t e InputFilter.confirm).wakeTrack t) := by
  obtain ⟨htime, -, -, hpromoted, -⟩ := committedFirst_leaves hcommit
  obtain ⟨-, -, -, -, hinputs, -⟩ := hpromoted
  have hpending : ((u.section t).approach.get e).pendingSince = none := by rw [(hinputs e).2]
  have hbefore : u.edgeBefore t e = true := by
    simp only [State.edgeBefore, coinciding_committedFirst hcommit]
    rw [htime]
    exact confirms_eq hf hdue
  have hself := atTime_self htime
  rw [exec_approachEdge_before hpending (by rwa [hself]), hself]

/-- Settles O27, from what a COMMIT leaves of the track and from the woken track. -/
theorem approachInputsWakeTheTrack : Obligations.ApproachInputsWakeTheTrack := by
  refine ⟨fun now stamp t e s u hf hdue hcommit => ?_, ?_⟩
  · intro generation image
    obtain ⟨htime, -, -, ⟨harea, hgeneration, -⟩, approach, hsection⟩ := committedFirst_leaves hcommit
    have hidle : (u.section t).state = .idle := by rw [hsection]; exact hcommit.1
    obtain ⟨changed, hchanged⟩ := changeApproachBefore_frame_section u t e InputFilter.confirm
    have hidle' : ((u.changeApproachBefore t e InputFilter.confirm).section t).state = .idle := by
      rw [hchanged]; exact hidle
    have whole : Frame (wakeParts t) u ((u.changeApproachBefore t e InputFilter.confirm).wakeTrack t) :=
      .step (.one changed) (wakeTrack_frame _ t)
    have hwoken := wakeTrack_idle hidle'
    refine ⟨hidle, harea, hgeneration, _, edgeAfterCommit hf hdue hcommit, ?_, whole.woken_state, fun n => ?_, ?_,
      whole.section_eq (by simp [(ne_otherTrack t).symm])⟩
    · rw [wakeTrack_section hidle', changed.siteTime_eq, changed.area_eq, htime, harea, hchanged]
    · rw [hwoken]
      refine Eq.trans (congrArg (fun x : PerScanner Scanner => (x.get n).wantedOpen) (PerTrack.get_set _ t _)) ?_
      rw [PerScanner.get_map]
      exact requestOpen_wantedOpen _ _
    · rw [hwoken]
      exact PerTrack.get_set _ t _
  · intro now t e level s f withInput
    refine ⟨fun hs hc hraw hlevel => ?_, fun hs hc hraw hlevel => ?_, fun hc => ?_, fun stamp hf hdue => ?_,
      fun stamp hf hdue => ?_⟩
    · rw [exec_approachInputChange_settled hs hc, InputFilter.rawChange, if_neg hraw,
        if_neg fun h => hraw (h.trans hlevel.symm)]
      rfl
    · rw [exec_approachInputChange_settled hs hc, InputFilter.rawChange, if_neg hraw, if_pos hlevel]
      exact congrArg (fun l => Host.Outcome.next (withInput ⟨level, l, none⟩)) rfl
    · have hc' : (s.atTime now).configured t = false := hc
      simp only [exec, execApproachInputChange, hc']
      rfl
    · have hinput : (s.atTime now).approachInput t e = ⟨false, true, some stamp⟩ := hf
      have hconfirms := confirms_eq (time := approachDebounce) hinput hdue
      simp only [exec, execApproachInputInactive, hconfirms, if_true]
      rw [hinput]
      rfl
    · intro c timer
      rw [exec_approachEdge_confirmed hf hdue]
      have hsec : ((s.atTime now).setSection t c).section t = c := section_setSection _ t c
      refine ⟨fun hidle => ?_, fun happroach => ?_, fun hidle happroach => ?_⟩
      · have hclose : c.closeDelay = (s.section t).closeDelay := rfl
        rw [setSection_wakeTrack (c := c) hidle, hclose]
        simp only [requestOpen_eq]
        cases (s.section t).closeDelay with
        | none => rfl
        | some r =>
          simp only [timerDue, Running.due, decide_eq_true_eq]
          rfl
      · rw [wakeTrack_approach (by rw [hsec]; exact happroach), hsec]
        exact congrArg (fun x => Host.Outcome.next { s with siteTime := now, sections := x }) (PerTrack.set_set _ t _ _)
      · rw [wakeTrack_busy (by rw [hsec]; exact hidle) (by rw [hsec]; exact happroach)]
        rfl

end Sys2Proof.Machine
end

section
/-! PROOFS. The clear timer (R34, R40, R120, R144, R152): the pass closes NORMAL and the track comes to rest. -/

namespace Sys2Proof.Machine

open Sys2Proof

/-! ### Follow holders (R149, R152) -/

/-- R149: an alarm of no open pass adds no follow holder. -/
theorem drive_followers (l : OutputLine) (latch pulse follow : Bool) (holder : Option Holder) (now : SiteTime)
    (pulseTime : Nat) : (l.drive latch pulse follow holder false now pulseTime).followers = l.followers := by
  have asked : (l.askPulse now pulseTime).followers = l.followers := by
    unfold OutputLine.askPulse
    split <;> rfl
  unfold OutputLine.drive
  cases holder with
  | none =>
    dsimp only
    split
    · exact asked
    · rfl
  | some h =>
    rw [Bool.and_false]
    dsimp only
    rw [if_neg Bool.false_ne_true]
    split
    · exact asked
    · rfl

theorem setLine_followers {u : AlarmUnit} {i : Fin 8} {l : OutputLine} (h : l.followers = (u.line i).followers)
    (j : Fin 8) : ((u.setLine i l).line j).followers = (u.line j).followers := by
  simp only [AlarmUnit.setLine, AlarmUnit.line, Vector.get_eq_getElem] at h ⊢
  rw [Vector.getElem_set]
  split
  · next hij =>
    rw [h]
    simp only [hij]
  · rfl

theorem driveLines_followers (u : AlarmUnit) (site : SiteArea) (now : SiteTime) (targets : List (Fin 8 × LineMode))
    (holder : Option Holder) (j : Fin 8) :
    ((u.driveLines site now targets holder false).line j).followers = (u.line j).followers := by
  unfold AlarmUnit.driveLines
  generalize eight = is
  induction is generalizing u with
  | nil => rfl
  | cons i rest ih => exact (ih _).trans (setLine_followers (drive_followers _ _ _ _ _ _ _) j)

/-- The open passes and the follow holders are as they were. -/
structure AlarmUnit.SameFollowers (x y : AlarmUnit) : Prop where
  openPass : y.openPass = x.openPass
  followers : ∀ i, (y.line i).followers = (x.line i).followers

theorem AlarmUnit.SameFollowers.refl (x : AlarmUnit) : x.SameFollowers x := ⟨rfl, fun _ => rfl⟩

theorem AlarmUnit.SameFollowers.trans {x y z : AlarmUnit} (h : x.SameFollowers y) (k : y.SameFollowers z) :
    x.SameFollowers z :=
  ⟨k.openPass.trans h.openPass, fun i => (k.followers i).trans (h.followers i)⟩

theorem driveLines_sameFollowers (u : AlarmUnit) (site : SiteArea) (now : SiteTime)
    (targets : List (Fin 8 × LineMode)) (holder : Option Holder) :
    u.SameFollowers (u.driveLines site now targets holder false) := by
  refine ⟨?_, driveLines_followers u site now targets holder⟩
  obtain ⟨_, e⟩ := driveLines_only_lines u site now targets holder false
  rw [e]

/-- R149: the alarm unit that drives the lines for an alarm has the open passes and the lines of before. -/
theorem raise_driven (s : State) (a : Alarm) :
    ∃ (x : AlarmUnit) (targets : List (Fin 8 × LineMode)) (holder : Option Holder),
    x.openPass = s.alarms.openPass ∧
    x.lines = s.alarms.lines ∧ (s.raise a).alarms = x.driveLines s.siteArea s.siteTime targets holder
      (decide (s.alarms.openPass.get a.track = some a.pass)) := by
  unfold State.raise
  dsimp only
  split
  · exact ⟨{ s.alarms with listFull := s.alarms.listFull || listExhausted s.alarms.list }, _, _, rfl, rfl, rfl⟩
  · next number _ =>
    exact ⟨{ s.alarms with
      list := (offer s.alarms.list ⟨number, a, s.siteTime, s.stationTime,
        eight.filter fun i => reached (s.siteArea.routes a) i .latch, none⟩).1
      next := s.alarms.next + 1
      listFull := s.alarms.listFull || !(offer s.alarms.list ⟨number, a, s.siteTime, s.stationTime,
        eight.filter fun i => reached (s.siteArea.routes a) i .latch, none⟩).2 }, _, _, rfl, rfl, rfl⟩

/-- R149: an alarm of a track without an open pass. -/
theorem raise_sameFollowers {s : State} {a : Alarm} (h : s.alarms.openPass.get a.track = none) :
    s.alarms.SameFollowers (s.raise a).alarms := by
  obtain ⟨x, targets, holder, hopen, hlines, hraise⟩ := raise_driven s a
  have hx : s.alarms.SameFollowers x := ⟨hopen, fun i => by rw [AlarmUnit.line, hlines]; rfl⟩
  rw [hraise, h, decide_eq_false (Option.some_ne_none a.pass).symm]
  exact hx.trans (driveLines_sameFollowers x _ _ _ _)

theorem Writes.sameFollowers {t : TrackId} {K : Nat → Prop} {F : List Kind} {s u : State} (h : Writes t K F s u)
    (hopen : s.alarms.openPass.get t = none) : s.alarms.SameFollowers u.alarms := by
  induction h with
  | refl => exact .refl _
  | tail _ hw ih =>
    refine ih.trans ?_
    cases hw with
    | still _ halarms => rw [halarms]; exact .refl _
    | raise a ht => exact raise_sameFollowers (by rw [ht, ih.openPass]; exact hopen)
    | note => exact .refl _
    | result => exact .refl _
    | append => exact .refl _
    | axleChunk => exact .refl _
    | vehicleChunk => exact .refl _
    | reclaim => exact .refl _

/-! ### What a close leaves of the alarm unit (R40, R144, R152) -/

section Close

variable {s : State} {t : TrackId} {c : PassContext} {reason : EndReason}

/-- R40, step 2: a mismatch is no more than marks and one alarm of the track. -/
theorem closeJudged_sameFollowers (h : s.alarms.openPass.get t = none) :
    s.alarms.SameFollowers (s.closeJudged t c reason).alarms := by
  unfold State.closeJudged
  split
  · exact (mismatchAlarm_writes (s.flagPass t c.number fun f => { f with countMismatch := true }) t c).sameFollowers h
  · exact .refl _

theorem closePass_followers (reason : EndReason) (h : s.ctx t = some c) {i : Fin 8} {x : Holder}
    (hx : x ∈ ((s.closePass t reason).alarms.line i).followers) :
    x ∈ (s.alarms.line i).followers ∧ ¬(x.track = t ∧ x.pass = c.number) := by
  have begun : (s.closeBegun t c reason).alarms = s.alarms.closeBegins t c.number := rfl
  have hopen : (s.closeBegun t c reason).alarms.openPass.get t = none := by
    rw [begun]
    exact PerTrack.get_set _ t _
  have judged := closeJudged_sameFollowers (c := c) (reason := reason) hopen
  have stored := judged.trans ((closingMatch_writes (K := fun _ => True) (t := t) fun _ _ => trivial).sameFollowers
    (by rw [judged.openPass]; exact hopen))
  have hafter : (s.closePass t reason).alarms = (s.closeStore t c reason).alarms :=
    closePass_after reason h .alarms (by simp)
  have hline : ((s.closePass t reason).alarms.line i).followers = (s.alarms.line i).followers.filter fun h =>
      !(decide (h.track = t ∧ h.pass = c.number)) := by
    rw [hafter]
    refine (stored.followers i).trans ?_
    rw [begun]
    rw [AlarmUnit.line, AlarmUnit.line, AlarmUnit.closeBegins, Vector.get_eq_getElem, Vector.get_eq_getElem]
    simp
  rw [hline, List.mem_filter, Bool.not_eq_true', decide_eq_false_iff_not] at hx
  exact hx

/-- R40, R144: a mismatch raises its alarm, which the list holds where it has room. -/
theorem closePass_mismatch (h : s.ctx t = some c) (hm : c.mismatch reason = true) (hnext : s.alarms.next < 4294967295)
    (hroom : s.alarms.list.length < 256) : ∃ x ∈ (s.closePass t reason).alarms.list,
      x.number = s.alarms.next ∧ x.siteTime = s.siteTime ∧ x.alarm = mismatchAlarm t c := by
  let marked := (s.closeBegun t c reason).flagPass t c.number fun f => { f with countMismatch := true }
  have hjudged : (s.closeBegun t c reason).closeJudged t c reason = marked.raise (mismatchAlarm t c) := if_pos hm
  have hlist : (marked.raise (mismatchAlarm t c)).alarms.list =
      s.alarms.list ++ [marked.recordOf (mismatchAlarm t c)] := by
    rcases raise_alarms marked (mismatchAlarm t c) with ⟨hn, -⟩ | ⟨-, hlist, -⟩
    · exact absurd hnext hn
    · rw [hlist, offer, if_pos (show marked.alarms.list.length < alarmCapacity from hroom)]
      rfl
  have grows := (closingMatch_writes (K := fun _ => True) (t := t) (s := marked.raise (mismatchAlarm t c))
    fun _ _ => trivial).alarms
  have hafter : (s.closePass t reason).alarms = (s.closeStore t c reason).alarms :=
    closePass_after reason h .alarms (by simp)
  have hstore : (s.closeStore t c reason).alarms = ((marked.raise (mismatchAlarm t c)).closingMatch t).alarms := by
    rw [← hjudged]
    rfl
  refine ⟨marked.recordOf (mismatchAlarm t c), ?_, rfl, rfl, rfl⟩
  rw [hafter, hstore]
  exact grows.listed _ (by rw [hlist]; simp) rfl

/-- R120: the matching context is discarded. -/
theorem closePass_context (reason : EndReason) (h : s.ctx t = some c) : (s.closePass t reason).context t = none := by
  refine Eq.trans (closePass_after reason h (.context t) (by simp)) ?_
  show (((s.closeBegun t c reason).closeJudged t c reason).closingMatch t).context t = none
  unfold State.closingMatch
  split
  · next h => exact h
  · exact context_setContext _ t _

/-- R40, R133: the held pass of the pass that closes, found by its number. -/
theorem closePass_find (reason : EndReason) (hs : s.store.poolsOk = true) (h : s.ctx t = some c) {p : HeldPass}
    (hp : s.store.find c.number = some p) (ht : p.track = t) : ∃ q, (s.closePass t reason).store.find c.number = some q ∧
      q.kept = (p.closedBy c reason s).kept := by
  obtain ⟨q, hq, hkept⟩ := closePass_held reason hs h ((ofTrack_iff_find hs).mpr ⟨hp, ht⟩)
  exact ⟨q, ((ofTrack_iff_find (closePass_poolsOk reason hs)).mp hq).1, hkept⟩

end Close

theorem mismatch_normal {c : PassContext} (h : c.entryCount ≠ c.exitCount) : c.mismatch .normal = true := by
  simp [PassContext.mismatch, h]

/-! ### Coming to rest -/

theorem promoteTrackIfReady_section {s : State} {t : TrackId} (h : (s.section t).state ≠ .unconfigured) :
    (s.promoteTrackIfReady t).section t =
      { s.section t with approach := ((s.promoteTrackIfReady t).section t).approach } := by
  unfold State.promoteTrackIfReady
  split
  · rfl
  · split
    · exact promoteTrack_section_configured h
    · rfl

/-- R25, R38: the section of a track that enters IDLE. -/
theorem enterIdle_section (s : State) (t : TrackId) (withDelay : Bool) : (s.enterIdle t withDelay).section t =
    { (s.section t).toIdle (if withDelay then s.startTimer (s.area t).closeDelay else none) with
      approach := ((s.enterIdle t withDelay).section t).approach } := by
  have hrest := rest_section_of s t withDelay
  have hsite : (s.rest t withDelay).promoteSiteIfReady.section t = (s.rest t withDelay).section t :=
    (promoteSiteIfReady_frame _).section_eq
  have hpromoted := promoteTrackIfReady_section (s := (s.rest t withDelay).promoteSiteIfReady) (t := t)
    (by rw [hsite, hrest]; simp [SectionController.toIdle])
  rw [hsite, hrest] at hpromoted
  exact hpromoted

theorem exec_clearTimerExpiry {now : SiteTime} {t : TrackId} {r : Running} {s : State}
    (hr : (s.section t).clearTimer = some r) (hdue : r.length ≤ interval r.start now) :
    exec (.clearTimerExpiry now t) s = .next (((s.atTime now).closePass t .normal).enterIdle t true) := by
  have hd : timerDue ((s.atTime now).section t).clearTimer now = true := by
    show timerDue (s.section t).clearTimer now = true
    rw [hr]
    exact timerDue_some hdue
  simp only [exec, execClearTimerExpiry, hd, if_true]

/-- Settles O30, from the close and from the track's coming to rest. -/
theorem clearExpiryClosesThePass : Obligations.ClearExpiryClosesThePass := by
  intro now t r c s hr hdue hc
  have hother : otherTrack t ≠ t := (ne_otherTrack t).symm
  have hc' : (s.atTime now).ctx t = some c := hc
  let v := (s.atTime now).closePass t .normal
  have close : Frame (.control t :: .slot t :: vehicleParts t) (s.atTime now) v := closePass_frame (s.atTime now) t .normal
  have rest : Frame (restParts t) v (v.enterIdle t true) := enterIdle_frame v t true
  have frame : Frame (.siteTime :: .context t :: .store :: .alarms :: .view .a :: .view .b :: restParts t) s
      (v.enterIdle t true) := .step (.step (.one (atTime_frame s now)) close) rest
  have frame' : Frame (.context t :: .store :: .alarms :: .view .a :: .view .b :: restParts t) (s.atTime now)
      (v.enterIdle t true) := .step (.one close) rest
  have hstore : (v.enterIdle t true).store = v.store := rest .store (by simp)
  have halarms : (v.enterIdle t true).alarms = v.alarms := rest .alarms (by simp)
  have hscanners : (v.enterIdle t true).scanners = s.scanners :=
    PerTrack.ext_get fun t => frame (.scanners t) (by simp)
  have hsection := enterIdle_section v t true
  have hdelay : v.startTimer (v.area t).closeDelay = some ⟨now, (s.area t).closeDelay⟩ := by
    rw [State.startTimer, close.siteTime_eq, close.area_eq]
    rfl
  refine ⟨_, exec_clearTimerExpiry hr hdue, by rw [hsection]; rfl, by rw [hsection]; rfl, ?_, by rw [hsection]; rfl, ?_,
    ?_, fun hs p hp ht => ?_, fun hne hnext hroom => ?_, fun i x hx => ?_, frame' .siteTime (by simp),
    frame .stationTime (by simp), frame .secondStart (by simp), hscanners, frame .pending (by simp),
    frame.section_eq (by simp [hother]), frame (.pacer (otherTrack t)) (by simp [hother]),
    frame (.context (otherTrack t)) (by simp [hother])⟩
  · rw [State.ctx, hsection]
    exact closePass_ctx _ t .normal
  · exact Eq.trans (rest (.context t) (by simp)) (closePass_context .normal hc')
  · rw [hsection]
    exact hdelay
  · obtain ⟨q, hq, hkept⟩ := closePass_find (s := s.atTime now) .normal hs hc' hp ht
    refine ⟨q, by rw [hstore]; exact hq, (congrArg HeldPass.state hkept :), (congrArg HeldPass.endReason hkept :),
      (congrArg HeldPass.closeSite hkept :), (congrArg HeldPass.closeStation hkept :),
      (congrArg HeldPass.entryCount hkept :), (congrArg HeldPass.exitCount hkept :),
      (congrArg HeldPass.retention hkept :), (congrArg HeldPass.release hkept :), fun hne => ?_⟩
    have hflag : q.flags.countMismatch = (p.flags.countMismatch || c.mismatch .normal) :=
      congrArg (fun x : HeldPass => x.flags.countMismatch) hkept
    rw [hflag, mismatch_normal hne, Bool.or_true]
  · rw [halarms]
    exact closePass_mismatch hc' (mismatch_normal hne) hnext hroom
  · rw [halarms] at hx
    exact closePass_followers .normal hc' hx

end Sys2Proof.Machine
end

section
/-! PROOFS. The stored records of axles that a forced close finishes and an abandon abandons (R31, R32, R36, R41), and
how the close of their pass keeps them. -/

namespace Sys2Proof.Machine

open Sys2Proof

/-! ### One record (R130, R131) -/

section Record

variable {s : State} {t : TrackId} {n i : Nat} {P : AxleRecord → Prop}

/-- A change of one axle's record keeps what it keeps of that record. -/
theorem AxleIs.updateAxle (h : AxleIs s t n i P) (m j : Nat) {f : AxleRecord → AxleRecord}
    (hf : ∀ r, P r → P (f r)) (hindex : ∀ r, (f r).index = r.index) : AxleIs (s.updateAxle t m j f) t n i P := by
  intro q hq hn ht r hr hi
  obtain ⟨p, hp, rfl⟩ := List.mem_map.mp hq
  by_cases mine : p.number = m ∧ p.track = t
  · rw [if_pos mine] at hr hn ht
    obtain ⟨a, ha, rfl⟩ := List.mem_map.mp hr
    by_cases hj : a.index = j
    · rw [if_pos hj] at hi ⊢
      exact hf a (h p hp hn ht a ha ((hindex a).symm.trans hi))
    · rw [if_neg hj] at hi ⊢
      exact h p hp hn ht a ha hi
  · rw [if_neg mine] at hr hn ht
    exact h p hp hn ht r hr hi

/-- R31: finishing an axle keeps what its results and its status keep. -/
theorem AxleIs.finish (h : AxleIs s t n i P) (c : PassContext) (e : AxleEntry) (drift : Option Int)
    (uncertain forced : Bool) (hresults : ∀ r wheels thermal, P r →
      P (r.withResults (e.fixFlags c.profile uncertain forced) drift wheels thermal))
    (hfinal : ∀ r : AxleRecord, P r → P { r with status := .final }) :
    AxleIs (s.finish t c e drift uncertain forced) t n i P := by
  unfold State.finish
  extract_lets a wheels thermal base alarms r r2 r3 r4
  have hr : AxleIs r t n i P := h.updateAxle _ _ (fun x hx => hresults x wheels thermal hx) fun _ => rfl
  have hr3 : AxleIs r3 t n i P :=
    (hr.through (raiseAll_sameAxles { r with choice := alarms.2 } alarms.1)).through (.of_store rfl)
  have hr4 : AxleIs r4 t n i P := hr3.updateAxle _ _ hfinal fun _ => rfl
  exact hr4.through (tellEnded_sameAxles _ _ _ _ _ _)

/-- R32: abandoning an axle keeps what its status keeps. -/
theorem AxleIs.abandonEntry (h : AxleIs s t n i P) (m : Nat) (e : AxleEntry)
    (habandoned : ∀ r : AxleRecord, P r → P { r with status := .abandoned }) :
    AxleIs (s.abandonEntry t m e) t n i P :=
  (h.updateAxle m e.index habandoned fun _ => rfl).through (tellEnded_sameAxles _ _ _ _ _ _)

end Record

/-- R31, R36: the record of an axle that a forced close has finished. -/
def AxleRecord.forcedOut (r : AxleRecord) : Prop :=
  r.status = .final ∧ r.flags.forcedFinish = true ∧ r.drift = none

/-- R32: the record of an axle that is abandoned. -/
def AxleRecord.given (r : AxleRecord) : Prop := r.status = .abandoned

/-! ### The entries of a queue, head first -/

section Queue

variable {s : State} {t : TrackId} {c : PassContext}

theorem finish_forcedOut (s : State) (t : TrackId) (c : PassContext) (e : AxleEntry) :
    AxleIs (s.finish t c e none false true) t c.number e.index AxleRecord.forcedOut := by
  unfold State.finish
  extract_lets a wheels thermal base alarms r r2 r3 r4
  have hr : AxleIs r t c.number e.index fun x => x.flags.forcedFinish = true ∧ x.drift = none :=
    axleIs_updateAxle (axleIs_trivial s t _ _) fun _ _ => ⟨rfl, rfl⟩
  have hr3 : AxleIs r3 t c.number e.index fun x => x.flags.forcedFinish = true ∧ x.drift = none :=
    (hr.through (raiseAll_sameAxles { r with choice := alarms.2 } alarms.1)).through (.of_store rfl)
  have hr4 : AxleIs r4 t c.number e.index AxleRecord.forcedOut := axleIs_updateAxle hr3 fun _ hx => ⟨rfl, hx⟩
  exact hr4.through (tellEnded_sameAxles _ _ _ _ _ _)

theorem AxleIs.finishForced {n i : Nat} (h : AxleIs s t n i AxleRecord.forcedOut) (es : List AxleEntry) :
    AxleIs (s.finishForced t es) t n i AxleRecord.forcedOut := by
  induction es generalizing s with
  | nil => exact h
  | cons e rest ih =>
    unfold State.finishForced
    split
    · exact h
    · next c' _ =>
      have hset : AxleIs (s.setSection t { s.section t with queue := rest }) t n i AxleRecord.forcedOut :=
        h.through (.of_store rfl)
      exact ih (hset.finish c' e none false true (fun _ _ _ hr => ⟨hr.1, rfl, rfl⟩) fun _ hr => ⟨rfl, hr.2⟩)

/-- R31: every entry of the queue is finished by force. -/
theorem finishForced_axleIs (h : s.ctx t = some c) {es : List AxleEntry} {a : AxleEntry} (ha : a ∈ es) :
    AxleIs (s.finishForced t es) t c.number a.index AxleRecord.forcedOut := by
  induction es generalizing s c with
  | nil => nomatch ha
  | cons e rest ih =>
    rw [State.finishForced, h]
    rcases List.mem_cons.mp ha with rfl | hrest
    · exact (finish_forcedOut _ t c a).finishForced rest
    · obtain ⟨thermal, hsec⟩ := finish_section (s.setSection t { s.section t with queue := rest }) t c e none false true
      exact ih (c := c.addRises thermal) (congrArg SectionController.ctx hsec) hrest

theorem abandonEntry_given (s : State) (t : TrackId) (n : Nat) (e : AxleEntry) :
    AxleIs (s.abandonEntry t n e) t n e.index AxleRecord.given := by
  have updated : AxleIs (s.updateAxle t n e.index fun a => { a with status := .abandoned }) t n e.index
      AxleRecord.given := axleIs_updateAxle (axleIs_trivial s t _ _) fun _ _ => rfl
  exact updated.through (tellEnded_sameAxles _ _ _ _ _ _)

theorem AxleIs.abandonEach {n i : Nat} (h : AxleIs s t n i AxleRecord.given) (es : List AxleEntry) :
    AxleIs (s.abandonEach t es) t n i AxleRecord.given := by
  induction es generalizing s with
  | nil => exact h
  | cons e rest ih =>
    unfold State.abandonEach
    split
    · exact h
    · have hset : AxleIs (s.setSection t { s.section t with queue := rest }) t n i AxleRecord.given :=
        h.through (.of_store rfl)
      exact ih (hset.abandonEntry _ e fun _ _ => rfl)

/-- R32: every entry of the queue is abandoned. -/
theorem abandonEach_axleIs (h : s.ctx t = some c) {es : List AxleEntry} {a : AxleEntry} (ha : a ∈ es) :
    AxleIs (s.abandonEach t es) t c.number a.index AxleRecord.given := by
  induction es generalizing s with
  | nil => nomatch ha
  | cons e rest ih =>
    rw [State.abandonEach, h]
    rcases List.mem_cons.mp ha with rfl | hrest
    · exact (abandonEntry_given _ t c.number a).abandonEach rest
    · refine ih ?_ hrest
      rw [(abandonEntry_frame _ t _ _).ctx_eq, State.ctx, section_setSection]
      exact h

end Queue

/-! ### Through the close of the pass (R40) -/

/-- A property of axle records that their vehicle and their spacing do not bear on. -/
def OfResults (P : AxleRecord → Prop) : Prop := ∀ r, P r.results ↔ P r

theorem axles_of_kept {p q : HeldPass} (h : q.kept = p.kept) :
    q.axles.map AxleRecord.results = p.axles.map AxleRecord.results := congrArg HeldPass.axles h

/-- R40: a close after writes of results: its held pass is closed, with the axles it had and their results. -/
theorem closePass_ended {s v : State} {t : TrackId} {K : Nat → Prop} {c : PassContext} (reason : EndReason)
    (hw : Writes t K [.result] s v) (hs : s.store.poolsOk = true) (hc : v.ctx t = some c) {x : HeldPass}
    (hx : s.store.find c.number = some x) (ht : x.track = t) :
    ∃ p q, v.store.find c.number = some p ∧ p.header = x.header ∧
      (v.closePass t reason).store.find c.number = some q ∧ q.kept = (p.closedBy c reason v).kept ∧
      q.axles.map (fun r => r.index) = x.axles.map (fun r => r.index) ∧
      ∀ (P : AxleRecord → Prop) (i : Nat), OfResults P → AxleIs v t c.number i P →
        ∀ r ∈ q.axles, r.index = i → P r := by
  have hv := hw.poolsOk hs
  obtain ⟨p, hp, hwritten⟩ := hw.stays_held hs ((ofTrack_iff_find hs).mpr ⟨hx, ht⟩) (.inl (by simp))
  obtain ⟨hpfind, hptrack⟩ := (ofTrack_iff_find hv).mp hp
  obtain ⟨hpmem, hpn⟩ := (find_iff_mem hv).mp hpfind
  obtain ⟨q, hq, hkept⟩ := closePass_find reason hv hc hpfind hptrack
  have haxles : q.axles.map AxleRecord.results = p.axles.map AxleRecord.results :=
    axles_of_kept (p := p.closedBy c reason v) hkept
  refine ⟨p, q, hpfind, hwritten.header, hq, hkept, ?_, fun P i hP hi r hr hri => ?_⟩
  · rw [← hwritten.axles (by simp), ← index_results q.axles, haxles, index_results]
  · obtain ⟨r', hr', heq⟩ := List.mem_map.mp (haxles ▸ List.mem_map_of_mem (f := AxleRecord.results) hr)
    have hindex : r'.index = r.index := (congrArg AxleRecord.index heq :)
    rw [← hP, ← heq, hP]
    exact hi p hpmem hpn hptrack r' hr' (hindex.trans hri)

end Sys2Proof.Machine
end

section
/-! PROOFS. TRACK ABORT, TRACK OUT and TRACK IN (R32, R41, R42, R186). -/

namespace Sys2Proof.Machine

open Sys2Proof

/-! ### The frame of a track command (R162, R171) -/

theorem trackArguments_of (t : TrackId) {code : Nat} {action : TrackAction}
    (h : actionOfCode (argument [BitVec.ofNat 8 (trackNumber t), BitVec.ofNat 8 code] 1 1) = some action) :
    trackArguments [BitVec.ofNat 8 (trackNumber t), BitVec.ofNat 8 code] = some (t, action) := by
  have ht : trackOfNumber (argument [BitVec.ofNat 8 (trackNumber t), BitVec.ofNat 8 code] 0 1) = some t := by
    cases t <;> rfl
  simp only [trackArguments, List.length_cons, List.length_nil, ht, h, if_true]

section Command

variable {s : State} {now : SiteTime} {p : Port} {bytes : List Byte} {t : TrackId} {code : Nat} {action : TrackAction}
  {run : State → TrackId → Executed}

/-- A TRACK CONTROL frame is executed by the row of its action. -/
theorem transact_track (h : Completes s p bytes 64 [BitVec.ofNat 8 (trackNumber t), BitVec.ofNat 8 code])
    (hcode : actionOfCode (argument [BitVec.ofNat 8 (trackNumber t), BitVec.ofNat 8 code] 1 1) = some action) :
    (s.atTime now).transact p bytes (trackRow action) (fun args s => s.runTrackControl args (run s)) =
      (run (s.atTime now) t).1.putReply p (run (s.atTime now) t).2 := by
  have harguments := trackArguments_of t hcode
  refine transact_answers (s := s.atTime now) h ?_ ?_
  · rw [trackRow, harguments]
    simp [isCommand]
  · rw [State.runTrackControl, harguments]

end Command

/-! ### Abandoning the open pass (R32, R40) -/

/-- R32, R40: the held pass of an abandoned pass. -/
theorem abandonPass_ended {s : State} {t : TrackId} {c : PassContext} (reason : EndReason)
    (hs : s.store.poolsOk = true) (hc : s.ctx t = some c) {x : HeldPass} (hx : s.store.find c.number = some x)
    (ht : x.track = t) : ∃ q, (s.abandonPass t reason).store.find c.number = some q ∧ q.state = .closed ∧
      q.endReason = some reason ∧ q.axles.map (fun r => r.index) = x.axles.map (fun r => r.index) ∧
      ∀ r ∈ q.axles, (∃ a ∈ (s.section t).queue, a.index = r.index) → r.status = .abandoned := by
  have hall : (s.abandonAll t).ctx t = some c :=
    (congrArg SectionController.ctx (abandonEach_empties hc rfl)).trans hc
  obtain ⟨p, q, -, -, hq, hkept, hindex, hresults⟩ := closePass_ended reason
    (abandonEach_writes (passIn_any s t) (s.section t).queue).1 hs hall hx ht
  refine ⟨q, hq, (congrArg HeldPass.state hkept :), (congrArg HeldPass.endReason hkept :), hindex, ?_⟩
  rintro r hr ⟨a, ha, hi⟩
  exact hresults AxleRecord.given a.index (fun _ => Iff.rfl) (abandonEach_axleIs hc ha) r hr hi.symm

/-- An abandoned pass leaves the queue empty and no pass open. -/
theorem abandonPass_empties {s : State} {t : TrackId} (reason : EndReason)
    (hqueue : s.ctx t = none → (s.section t).queue = []) :
    ∃ marks, (s.abandonPass t reason).section t = { s.section t with queue := [], ctx := none, exitMarks := marks } := by
  cases hc : s.ctx t with
  | none =>
    refine ⟨(s.section t).exitMarks, ?_⟩
    rw [abandonPass_none reason hc, ← hqueue hc, ← hc]
    rfl
  | some c => exact ⟨_, abandonPass_open reason hc⟩

/-! ### TRACK ABORT (R41) -/

/-- What the draining of an aborted track and its reply change. -/
abbrev abortParts (t : TrackId) : List Part :=
  [.siteTime, .control t, .pacer t, .context t, .slot t, .zeroTimer t, .store, .alarms, .notices .a, .notices .b,
    .view .a, .view .b, .site, .ambient]

theorem abort_frame (s : State) (now : SiteTime) (t : TrackId) :
    Frame (abortParts t) s ((s.atTime now).abortTrack t) :=
  .step (.step (.step (.step (.one (atTime_frame s now)) (abandonPass_frame _ t _)) (leaveIdle_frame _ t))
    (drain_frame _ t _)) (promoteSiteIfReady_frame _)

theorem abortTrack_section {s : State} {t : TrackId} (hqueue : s.ctx t = none → (s.section t).queue = []) :
    ∃ marks, (s.abortTrack t).section t = { s.section t with
      state := .draining, count := 0, approachTimer := none, holdTimer := none, clearTimer := none
      quietTimer := some ⟨s.siteTime, (s.area t).clearTime⟩, closeDelay := none
      queue := [], ctx := none, exitMarks := marks } := by
  obtain ⟨marks, habandon⟩ := abandonPass_empties EndReason.aborted hqueue
  have frame : Frame (.control t :: .slot t :: .zeroTimer t :: vehicleParts t) s
      ((s.abandonPass t .aborted).leaveIdle t) := .step (.one (abandonPass_frame s t _)) (leaveIdle_frame _ t)
  refine ⟨marks, ?_⟩
  rw [State.abortTrack, (promoteSiteIfReady_frame _).section_eq, drain_section, leaveIdle_section, habandon,
    State.startTimer, frame.siteTime_eq, frame.area_eq]

theorem abortTrack_store (s : State) (t : TrackId) : (s.abortTrack t).store = (s.abandonPass t .aborted).store := by
  have frame : Frame [.control t, .zeroTimer t, .slot t, .pacer t, .site, .ambient, .notices .a, .notices .b]
      (s.abandonPass t .aborted) (s.abortTrack t) :=
    .step (.step (.one (leaveIdle_frame _ t)) (drain_frame _ t _)) (promoteSiteIfReady_frame _)
  exact frame .store (by simp)

theorem drain_stops (s : State) (t : TrackId) (n : Nat) : ((s.drain t n).pacer t).running = false := by
  rw [State.drain, State.stopPacer, State.pacer, State.setPacer, PerTrack.get_set]
  rfl

theorem abortTrack_stops (s : State) (t : TrackId) : ((s.abortTrack t).pacer t).running = false := by
  rw [State.abortTrack, State.pacer, promoteSiteIfReady_frame _ (.pacer t) (by simp)]
  exact drain_stops _ t 0

/-- Settles O58, from the abandoned pass and the drained track. -/
theorem trackAbortDrainsTheTrack : Obligations.TrackAbortDrainsTheTrack := by
  intro now p bytes t s hcompletes
  have hexec : exec (.trackAbort now p bytes) s = .next (((s.atTime now).runTrackAbort t).1.putReply p
      ((s.atTime now).runTrackAbort t).2) :=
    congrArg Host.Outcome.next (transact_track (run := State.runTrackAbort) (code := 1) hcompletes rfl)
  refine ⟨fun hu => ?_, fun hu hqueue => ?_⟩
  · have hrun : (s.atTime now).runTrackAbort t = answer (s.atTime now) .trackState :=
      if_neg fun hc => ((configured_iff _ t).mp hc) hu
    rw [hexec, hrun]
    rfl
  · have hrun : (s.atTime now).runTrackAbort t = answer ((s.atTime now).abortTrack t) .ok :=
      if_pos ((configured_iff _ t).mpr hu)
    have hother : otherTrack t ≠ t := (ne_otherTrack t).symm
    obtain ⟨marks, hsection⟩ := abortTrack_section (s := s.atTime now) hqueue
    let w := (s.atTime now).abortTrack t
    let u := w.putReply p ⟨.ok, []⟩
    have reply : Frame [.transaction p] w u := putReply_frame w p ⟨.ok, []⟩
    have frame : Frame (.transaction p :: abortParts t) s u := .step (.one (abort_frame s now t)) reply
    have htime : u.siteTime = now :=
      Eq.trans (reply .siteTime (by simp)) (abortTrack_frame (s.atTime now) t .siteTime (by simp))
    have hstore : u.store = ((s.atTime now).abandonPass t .aborted).store :=
      Eq.trans (reply .store (by simp)) (abortTrack_store _ t)
    have hpacer : (u.pacer t).running = false := by
      rw [State.pacer, reply (.pacer t) (by simp)]
      exact abortTrack_stops _ t
    have hsec : u.section t = _ := reply.section_eq.trans hsection
    rw [hexec, hrun]
    refine ⟨u, rfl, putReply_phase w p _, by rw [hsec], by rw [hsec], by rw [hsec], congrArg SectionController.ctx hsec,
      by rw [hsec]; rfl, by rw [hsec], by rw [hsec], by rw [hsec], by rw [hsec], hpacer, fun hs c x hc hx ht => ?_, htime,
      frame .stationTime (by simp), frame .secondStart (by simp), PerTrack.ext_get fun o => frame (.sensors o) (by simp),
      PerTrack.ext_get fun o => frame (.pairs o) (by simp), PerTrack.ext_get fun o => frame (.scanners o) (by simp),
      PerTrack.ext_get fun o => frame (.area o) (by simp), frame .pending (by simp),
      frame.section_eq (by simp [hother]), frame (.pacer (otherTrack t)) (by simp [hother]),
      frame (.context (otherTrack t)) (by simp [hother])⟩
    rw [hstore]
    exact abandonPass_ended (s := s.atTime now) .aborted hs hc hx ht

/-! ### TRACK OUT and TRACK IN (R42, R186) -/

/-- What moving a track out of or into service changes before an area promotes. -/
abbrev transferParts (t : TrackId) : List Part :=
  [.control t, .pacer t, .slot t, .zeroTimer t, .scanners t, .context t, .store, .alarms, .notices .a,
    .notices .b, .view .a, .view .b]

/-- R186: what `promoted` says of a track that has come to rest where no area of the site is pending. -/
def RestPromotes (s u : State) (now : SiteTime) (t : TrackId) : Prop :=
  s.config.site.committed = none →
    ((s.config.tracks.get t).committed = none → u.config = s.config ∧ u.sensors = s.sensors ∧ u.pairs = s.pairs) ∧
    ∀ x, (s.config.tracks.get t).committed = some x → Promoted s u now t x.1 x.2

theorem rest_promotes {s v : State} {now : SiteTime} {t : TrackId} {p : Port} {r : Reply}
    (moved : Frame (.siteTime :: transferParts t) s v) (htime : v.siteTime = now)
    (hstate : (s.section t).state ≠ .unconfigured)
    (happroach : (v.section t).approach = (s.section t).approach) (hrest : (v.section t).state.atRest = true) :
    RestPromotes s ((v.promoteSiteIfReady.promoteTrackIfReady t).putReply p r) now t := by
  intro hsite
  have hconfig : v.config = s.config := moved.config_eq
  have hnone : v.promoteSiteIfReady = v := promoteSiteIfReady_none (by rw [hconfig]; exact hsite)
  rw [hnone]
  refine ⟨fun hc => ?_, fun ⟨image, g⟩ hc => ?_⟩
  · rw [promoteTrackIfReady_none (by rw [hconfig]; exact hc)]
    have frame : Frame (.transaction p :: .siteTime :: transferParts t) s (v.putReply p r) :=
      .step (.one moved) (putReply_frame v p r)
    exact ⟨frame.config_eq, PerTrack.ext_get fun o => frame (.sensors o) (by simp),
      PerTrack.ext_get fun o => frame (.pairs o) (by simp)⟩
  · rw [promoteTrackIfReady_ready (by rw [hconfig]; exact hc) hrest]
    have promoted := (promoteTrack_promoted (s := v) (t := t) image g).keeps
      (putReply_sameTrack (v.promoteTrack t image g) p r t)
    rw [htime] at promoted
    exact promoted.seenConfigured moved hstate happroach moved.area_eq

section Out

variable (s : State) (t : TrackId)

/-- R42: a track taken out of service, before an area promotes. -/
def State.movedOut : State :=
  let v := (s.abandonPass t .aborted).leaveIdle t
  ((v.setSection t { v.section t with
    state := .outOfService, count := 0, approachTimer := none, holdTimer := none, clearTimer := none,
    quietTimer := none, closeDelay := none, lateClose := none, coinciding := none }).stopPacer t).closeShutters t

theorem takeOut_eq : s.takeOut t = ((s.movedOut t).promoteSiteIfReady).promoteTrackIfReady t := rfl

theorem leftPass_frame : Frame (.control t :: .slot t :: .zeroTimer t :: vehicleParts t) s
    ((s.abandonPass t .aborted).leaveIdle t) := .step (.one (abandonPass_frame s t _)) (leaveIdle_frame _ t)

theorem movedOut_frame : Frame (transferParts t) s (s.movedOut t) :=
  .step (.step (.step (.one (leftPass_frame s t)) (setSection_frame _ t _)) (stopPacer_frame _ t))
    (closeShutters_frame _ t)

theorem movedOut_siteTime : (s.movedOut t).siteTime = s.siteTime := movedOut_frame s t .siteTime (by simp)

theorem movedOut_section : ∃ queue marks, (s.movedOut t).section t = { s.section t with
    state := .outOfService, count := 0, approachTimer := none, holdTimer := none, clearTimer := none,
    quietTimer := none, closeDelay := none, lateClose := none, coinciding := none
    queue := queue, ctx := none, exitMarks := marks } := by
  refine ⟨((s.abandonPass t .aborted).section t).queue, ((s.abandonPass t .aborted).section t).exitMarks, ?_⟩
  rw [State.movedOut, (closeShutters_frame _ t).section_eq, (stopPacer_frame _ t).section_eq, section_setSection,
    leaveIdle_section, abandonPass_section s t .aborted]

theorem movedOut_store : (s.movedOut t).store = (s.abandonPass t .aborted).store := by
  have frame : Frame [.control t, .zeroTimer t, .slot t, .pacer t, .scanners t] (s.abandonPass t .aborted)
      (s.movedOut t) :=
    .step (.step (.step (.one (leaveIdle_frame _ t)) (setSection_frame _ t _)) (stopPacer_frame _ t))
      (closeShutters_frame _ t)
  exact frame .store (by simp)

theorem movedOut_scanner (n : ScannerName) : (s.movedOut t).scanner t n = (s.scanner t n).requestClose := by
  have frame : Frame (.control t :: .slot t :: .zeroTimer t :: .pacer t :: vehicleParts t) s
      ((((s.abandonPass t .aborted).leaveIdle t).setSection t
        { ((s.abandonPass t .aborted).leaveIdle t).section t with
          state := .outOfService, count := 0, approachTimer := none, holdTimer := none, clearTimer := none,
          quietTimer := none, closeDelay := none, lateClose := none, coinciding := none }).stopPacer t) :=
    .step (.step (.one (leftPass_frame s t)) (setSection_frame _ t _)) (stopPacer_frame _ t)
  rw [State.movedOut, State.closeShutters, State.scanner, PerTrack.get_set, PerScanner.get_map,
    frame (.scanners t) (by simp)]
  rfl

theorem movedOut_stops : ((s.movedOut t).pacer t).running = false := by
  rw [State.movedOut, State.pacer, closeShutters_frame _ t (.pacer t) (by simp), State.stopPacer, State.setPacer,
    PerTrack.get_set]
  rfl

end Out

/-- R186: the section of a track at rest through the promotions. -/
theorem promoted_section {v : State} {t : TrackId} (h : (v.section t).state ≠ .unconfigured) :
    (v.promoteSiteIfReady.promoteTrackIfReady t).section t = { v.section t with
      approach := ((v.promoteSiteIfReady.promoteTrackIfReady t).section t).approach } := by
  have hsite : v.promoteSiteIfReady.section t = v.section t := (promoteSiteIfReady_frame v).section_eq
  have hpromoted := promoteTrackIfReady_section (s := v.promoteSiteIfReady) (t := t) (by rwa [hsite])
  rwa [hsite] at hpromoted

theorem promoteTrackIfReady_zeroTimer {s : State} {t : TrackId} (h : (s.section t).state ≠ .unconfigured) :
    (s.promoteTrackIfReady t).strain.zeroTimers.get t = s.strain.zeroTimers.get t := by
  unfold State.promoteTrackIfReady
  split
  · rfl
  · split
    · exact promoteTrack_zeroTimer h
    · rfl

/-- What the promotions and the reply change. -/
abbrev promotedParts (t : TrackId) (p : Port) : List Part :=
  .transaction p :: .site :: .ambient :: promoteTrackParts t

theorem promoted_frame (v : State) (t : TrackId) (p : Port) (r : Reply) :
    Frame (promotedParts t p) v ((v.promoteSiteIfReady.promoteTrackIfReady t).putReply p r) :=
  .step (.step (.one (promoteSiteIfReady_frame v)) (promoteTrackIfReady_frame _ t)) (putReply_frame _ p r)

section Commands

variable {s : State} {now : SiteTime} {p : Port} {bytes : List Byte} {t : TrackId}

theorem runTrackOut_out (hu : (s.section t).state ≠ .unconfigured) (ho : (s.section t).state ≠ .outOfService) :
    s.runTrackOut t = answer (s.takeOut t) .ok := by
  unfold State.runTrackOut
  split
  next h => exact absurd h hu
  next h => exact absurd h ho
  all_goals rfl

/-- R42: TRACK OUT carried out. -/
theorem trackOut_carried (h : Completes s p bytes 64 [BitVec.ofNat 8 (trackNumber t), 2])
    (hu : (s.section t).state ≠ .unconfigured) (ho : (s.section t).state ≠ .outOfService) :
    exec (.trackOut now p bytes) s = .next ((((s.atTime now).movedOut t).promoteSiteIfReady.promoteTrackIfReady
      t).putReply p ⟨.ok, []⟩) := by
  refine congrArg Host.Outcome.next ((transact_track (run := State.runTrackOut) (code := 2) h rfl).trans ?_)
  rw [runTrackOut_out (s := s.atTime now) hu ho]
  rfl

/-- R42: TRACK IN carried out. -/
theorem trackIn_carried (h : Completes s p bytes 64 [BitVec.ofNat 8 (trackNumber t), 3])
    (ho : (s.section t).state = .outOfService) :
    exec (.trackIn now p bytes) s = .next ((((s.atTime now).rest t false).promoteSiteIfReady.promoteTrackIfReady
      t).putReply p ⟨.ok, []⟩) := by
  refine congrArg Host.Outcome.next ((transact_track (run := State.runTrackIn) (code := 3) h rfl).trans ?_)
  rw [show (s.atTime now).runTrackIn t = answer ((s.atTime now).takeIn t) .ok from if_pos ho]
  rfl

theorem trackOut_refused (h : Completes s p bytes 64 [BitVec.ofNat 8 (trackNumber t), 2])
    (hu : (s.section t).state = .unconfigured) :
    exec (.trackOut now p bytes) s = .next (s.replying now p 13 []) := by
  have hu' : ((s.atTime now).section t).state = .unconfigured := hu
  refine congrArg Host.Outcome.next ((transact_track (run := State.runTrackOut) (code := 2) h rfl).trans ?_)
  simp only [State.runTrackOut, hu']
  rfl

theorem trackOut_already (h : Completes s p bytes 64 [BitVec.ofNat 8 (trackNumber t), 2])
    (ho : (s.section t).state = .outOfService) :
    exec (.trackOut now p bytes) s = .next (s.replying now p 3 []) := by
  have ho' : ((s.atTime now).section t).state = .outOfService := ho
  refine congrArg Host.Outcome.next ((transact_track (run := State.runTrackOut) (code := 2) h rfl).trans ?_)
  simp only [State.runTrackOut, ho']
  rfl

theorem trackIn_refused (h : Completes s p bytes 64 [BitVec.ofNat 8 (trackNumber t), 3])
    (ho : (s.section t).state ≠ .outOfService) :
    exec (.trackIn now p bytes) s = .next (s.replying now p 13 []) := by
  refine congrArg Host.Outcome.next ((transact_track (run := State.runTrackIn) (code := 3) h rfl).trans ?_)
  rw [show (s.atTime now).runTrackIn t = answer (s.atTime now) .trackState from if_neg ho]
  rfl

end Commands

/-- Settles O59, from the track moved out of or into service and from the promotions after it. -/
theorem trackOutAndInMoveTheTrack : Obligations.TrackOutAndInMoveTheTrack := by
  intro now p bytes t s promoted
  have hother : otherTrack t ≠ t := (ne_otherTrack t).symm
  refine ⟨fun h => ⟨fun hu => trackOut_refused h hu, fun ho => trackOut_already h ho, fun hu ho => ?_⟩,
    fun h => ⟨fun ho => trackIn_refused h ho, fun ho => ?_⟩⟩
  · let v := (s.atTime now).movedOut t
    let u := (v.promoteSiteIfReady.promoteTrackIfReady t).putReply p ⟨.ok, []⟩
    have moved : Frame (.siteTime :: transferParts t) s v := .step (.one (atTime_frame s now)) (movedOut_frame _ t)
    have htime : v.siteTime = now := movedOut_siteTime (s.atTime now) t
    have rest : Frame (promotedParts t p) v u := promoted_frame v t p _
    have frame : Frame (promotedParts t p ++ .siteTime :: transferParts t) s u :=
      .trans (moved.mono (List.subset_append_right _ _)) (rest.mono (List.subset_append_left _ _))
    obtain ⟨queue, marks, hv⟩ := movedOut_section (s.atTime now) t
    have hrest : (v.section t).state.atRest = true := by rw [hv]; rfl
    have hsec : u.section t = { v.section t with approach := (u.section t).approach } :=
      promoted_section (v := v) (by rw [hv]; exact TrackState.noConfusion)
    rw [hv] at hsec
    refine ⟨u, trackOut_carried h hu ho, putReply_phase _ p _, by rw [hsec], by rw [hsec],
      congrArg SectionController.ctx hsec, by rw [hsec], by rw [hsec], by rw [hsec], by rw [hsec], by rw [hsec], ?_,
      rest_promotes moved htime hu (by rw [hv]; rfl) hrest, fun hs c x hc hx ht => ?_, fun n => ?_,
      Eq.trans (rest .siteTime (by simp)) htime, frame .stationTime (by simp), fun n => ?_,
      frame.section_eq (by simp [hother]), frame (.pacer (otherTrack t)) (by simp [hother])⟩
    · rw [State.pacer, rest (.pacer t) (by simp)]
      exact movedOut_stops _ t
    · obtain ⟨q, hq, hclosed, hreason, -, hgiven⟩ := abandonPass_ended (s := s.atTime now) .aborted hs hc hx ht
      rw [rest .store (by simp), movedOut_store]
      exact ⟨q, hq, hclosed, hreason, hgiven⟩
    · exact (congrArg (fun x : PerScanner Scanner => x.get n) (rest (.scanners t) (by simp))).trans
        (movedOut_scanner (s.atTime now) t n)
    · exact congrArg (fun x : PerScanner Scanner => x.get n) (frame (.scanners (otherTrack t)) (by simp [hother]))
  · let v := (s.atTime now).rest t false
    let u := (v.promoteSiteIfReady.promoteTrackIfReady t).putReply p ⟨.ok, []⟩
    have rested : Frame [.siteTime, .control t, .zeroTimer t, .pacer t] s v :=
      .step (.one (atTime_frame s now)) (rest_frame _ t false)
    have rest : Frame (promotedParts t p) v u := promoted_frame v t p _
    have frame : Frame (.siteTime :: .pacer t :: promotedParts t p) s u := .step (.one rested) rest
    have hv : v.section t = (s.section t).toIdle none := rest_section _ t
    have hconfigured : (v.section t).state ≠ .unconfigured := by rw [hv]; exact TrackState.noConfusion
    have hsec : u.section t = { v.section t with approach := (u.section t).approach } := promoted_section hconfigured
    rw [hv] at hsec
    refine ⟨u, trackIn_carried h ho, putReply_phase _ p _, by rw [hsec]; rfl, by rw [hsec]; rfl, by rw [hsec]; rfl,
      rest_promotes (.one rested) rfl (by rw [ho]; exact TrackState.noConfusion) (by rw [hv]; rfl) (by rw [hv]; rfl), ?_,
      rest .siteTime (by simp), frame .stationTime (by simp), PerTrack.ext_get fun o => frame (.scanners o) (by simp),
      frame .store (by simp), frame .alarms (by simp), PerTrack.ext_get fun o => frame (.context o) (by simp),
      frame.section_eq (by simp [hother]), frame (.pacer (otherTrack t)) (by simp [hother])⟩
    have hsite : (v.promoteSiteIfReady.section t).state ≠ .unconfigured := by
      rw [(promoteSiteIfReady_frame v).section_eq]; exact hconfigured
    have hzero : v.promoteSiteIfReady.strain.zeroTimers.get t = v.strain.zeroTimers.get t :=
      promoteSiteIfReady_frame v (.zeroTimer t) (by simp)
    exact (promoteTrackIfReady_zeroTimer hsite).trans (hzero.trans (rest_zeroTimer (s.atTime now) t))

end Sys2Proof.Machine
end

section
/-! PROOFS. A rise that completes a pair's wait, as the section controller takes it (R12, R18, R30, R33), with the
reversal and the overrun that force a pass out (R36, R37). -/

namespace Sys2Proof.Machine

open Sys2Proof

/-! ### The event of a completing rise (R12, R19, R30) -/

/-- R12: the pair event that a completing rise makes. -/
def State.completed (s : State) (t : TrackId) (e : SectionEnd) (x : Role) (first stamp : SiteTime) : PairEvent :=
  pairedEvent ((s.area t).pairSpacing e) e (partner x) first stamp

/-- R30: the state in which a track that is not DRAINING takes the event: the rise has made its exit mark. -/
def State.taking (s : State) (now stamp : SiteTime) (t : TrackId) (e : SectionEnd) (x : Role) : State :=
  (s.afterRise now stamp t e x).setSection t { s.section t with exitMarks := s.marksAfter t e x stamp }

section Rise

variable {s : State} {now stamp first : SiteTime} {input : Fin 8} {t : TrackId} {e : SectionEnd} {x : Role}

theorem completed_inward : (s.completed t e x first stamp).inward = decide (x = .inner) := by
  cases x <;> rfl

theorem taking_frame (s : State) (now stamp : SiteTime) (t : TrackId) (e : SectionEnd) (x : Role) :
    Frame [.control t] (s.afterRise now stamp t e x) (s.taking now stamp t e x) := setSection_frame _ t _

theorem taking_section (s : State) (now stamp : SiteTime) (t : TrackId) (e : SectionEnd) (x : Role) :
    (s.taking now stamp t e x).section t = { s.section t with exitMarks := s.marksAfter t e x stamp } :=
  section_setSection _ t _

/-- A rise elsewhere than at the exit pair of an open pass makes no exit mark. -/
theorem marksAfter_elsewhere (h : ∀ c, s.ctx t = some c → e ≠ exitEnd c.direction) :
    s.marksAfter t e x stamp = (s.section t).exitMarks := by
  unfold State.marksAfter
  cases hc : s.ctx t with
  | none => rfl
  | some c => exact if_neg (h c hc)

theorem taking_elsewhere (h : ∀ c, s.ctx t = some c → e ≠ exitEnd c.direction) :
    s.taking now stamp t e x = s.afterRise now stamp t e x := by
  rw [State.taking, marksAfter_elsewhere h]
  exact setSection_self (s.afterRise now stamp t e x) t

theorem sensorActivity_awake (h : (s.section t).state ≠ .draining) : s.sensorActivity t e ⟨x, true, stamp⟩ =
    s.setSection t { s.section t with exitMarks := s.marksAfter t e x stamp } := by
  rw [sensorActivity_rise, State.quietAfter, if_neg h]

/-- R12: a track that is not DRAINING takes the event of a completing rise. -/
theorem exec_completesWait (h : CompletesWait s now stamp first input t e x) (hs : Settled s now t)
    (hd : (s.section t).state ≠ .draining) : exec (.debounceConfirm now input) s =
      .next ((s.taking now stamp t e x).takeEvent t (s.completed t e x first stamp)) := by
  obtain ⟨hinput, hfilter, hdue, hheld, halone, hpair, hintime⟩ := h
  rw [exec_debounceConfirm hinput hs, confirmDue_rise (s := s.atTime now) hfilter hdue (by rw [pair_atTime, hpair]) halone
    hheld, sensorActivity_awake (by simpa using hd),
    offerRise_second (x := x) (first := first) (by simp [hpair]) (by simpa using hintime)]
  have hmachine : ∀ u : State, u.pair t e = s.pair t e → u.setMachine t e .quiet = u.setPair t e ⟨.quiet, []⟩ := by
    intro u hu
    rw [State.setMachine, hu, hpair]
  rw [hmachine _ (by simp)]
  simp only [area_setSection, area_setSensor]
  rfl

end Rise

/-! ### Taking an event with a pass (R28, R33, R36) -/

/-- R33: a STANDING track returns to OCCUPIED first. -/
def State.ready (s : State) (t : TrackId) : State := if (s.section t).state = .standing then s.resume t else s

section Ready

variable {s : State} {t : TrackId} {c : PassContext}

theorem takeEvent_ready (ev : PairEvent) (h : (s.section t).state = .occupied ∨ (s.section t).state = .standing)
    (hc : s.ctx t = some c) : s.takeEvent t ev = (s.ready t).takeOccupied t c ev := by
  rcases h with h | h
  · simp only [State.takeEvent, State.ready, h, hc]
    rfl
  · simp only [State.takeEvent, State.ready, h, hc]
    rfl

theorem ready_occupied (h : (s.section t).state = .occupied) : s.ready t = s :=
  if_neg (by rw [h]; exact TrackState.noConfusion)

theorem ready_frame (s : State) (t : TrackId) : Frame [.control t, .pacer t] s (s.ready t) := by
  unfold State.ready
  split
  · exact resume_frame s t
  · exact .refl _ s

/-- R33: the section in which a track takes an event with its pass. -/
theorem ready_section (h : (s.section t).state = .occupied ∨ (s.section t).state = .standing) (hc : s.ctx t = some c) :
    (s.ready t).section t = { s.section t with
      state := .occupied
      approachTimer := if (s.section t).state = .standing then none else (s.section t).approachTimer
      closeDelay := if (s.section t).state = .standing then none else (s.section t).closeDelay
      clearTimer := if (s.section t).state = .standing then none else (s.section t).clearTimer
      holdTimer := if (s.section t).state = .standing then
        s.startTimer (holdTime (s.area t).holdDistance c.heldSpeed) else (s.section t).holdTimer } := by
  by_cases hs : (s.section t).state = .standing
  · rw [State.ready, if_pos hs, resume_section hc]
    simp only [hs, if_true]
  · have ho := h.resolve_right hs
    rw [ready_occupied ho]
    simp only [hs, if_false, ← ho]

theorem ready_ctx (hc : s.ctx t = some c) : (s.ready t).ctx t = some c := by
  unfold State.ready
  split
  · exact (congrArg SectionController.ctx (resume_section hc)).trans hc
  · exact hc

end Ready

/-! ### A pass forced out (R31, R36, R37, R40) -/

/-- What forcing a pass out changes. -/
abbrev forcedParts (t : TrackId) : List Part :=
  [.control t, .pacer t, .slot t, .choice, .context t, .store, .alarms, .notices .a, .notices .b, .view .a, .view .b,
    .site, .ambient]

section Forced

variable {s : State} {t : TrackId} {c : PassContext} {reason : EndReason} {n : Nat}

theorem forceOut_forcedParts (s : State) (t : TrackId) (reason : EndReason) (n : Nat) :
    Frame (forcedParts t) s (s.forceOut t reason n) :=
  .step (.step (.step (.one (forcedClose_frame s t)) (closePass_frame _ t _)) (drain_frame _ t _))
    (promoteSiteIfReady_frame _)

/-- R48: a forced close stops the pacer. -/
theorem forceOut_pacer : (s.forceOut t reason n).pacer t = (s.pacer t).halt := by
  have frame : Frame (.slot t :: finishParts t) s ((s.forcedClose t).closePass t reason) :=
    .step (.one (forcedClose_frame s t)) (closePass_frame _ t reason)
  rw [State.forceOut, State.pacer, promoteSiteIfReady_frame _ (.pacer t) (by simp), State.drain, State.stopPacer,
    State.setPacer, PerTrack.get_set]
  exact congrArg Pacer.halt (frame (.pacer t) (by simp))

theorem forceOut_config (h : s.config.site.committed = none) : (s.forceOut t reason n).config = s.config := by
  have frame : Frame (.pacer t :: .slot t :: finishParts t) s (((s.forcedClose t).closePass t reason).drain t n) :=
    .step (.step (.one (forcedClose_frame s t)) (closePass_frame _ t reason)) (drain_frame _ t n)
  have hconfig : (((s.forcedClose t).closePass t reason).drain t n).config = s.config := frame.config_eq
  rw [State.forceOut, promoteSiteIfReady_none (by rw [hconfig]; exact h), hconfig]

theorem forceOut_store : (s.forceOut t reason n).store = ((s.forcedClose t).closePass t reason).store := by
  have frame : Frame [.control t, .pacer t, .site, .ambient, .notices .a, .notices .b]
      ((s.forcedClose t).closePass t reason) (s.forceOut t reason n) :=
    .step (.one (drain_frame _ t n)) (promoteSiteIfReady_frame _)
  exact frame .store (by simp)

/-- R31, R36, R40: the held pass of a pass forced out. -/
theorem forceOut_ended (hs : s.store.poolsOk = true) (hc : s.ctx t = some c) {x : HeldPass}
    (hx : s.store.find c.number = some x) (ht : x.track = t) :
    ∃ q, (s.forceOut t reason n).store.find c.number = some q ∧ q.state = .closed ∧ q.endReason = some reason ∧
      q.entryCount = some c.entryCount ∧ q.exitCount = some c.exitCount ∧
      ∀ r ∈ q.axles, (∃ a ∈ (s.section t).queue, a.index = r.index) →
        r.status = .final ∧ r.flags.forcedFinish = true ∧ r.drift = none := by
  obtain ⟨rises, hforced⟩ := forcedClose_section hc
  have hctx : (s.forcedClose t).ctx t = some { c with rises := rises } := congrArg SectionController.ctx hforced
  obtain ⟨p, q, -, -, hq, hkept, -, hresults⟩ := closePass_ended reason
    (finishForced_writes (passIn_any s t) (s.section t).queue).1 hs hctx hx ht
  rw [forceOut_store]
  refine ⟨q, hq, (congrArg HeldPass.state hkept :), (congrArg HeldPass.endReason hkept :),
    (congrArg HeldPass.entryCount hkept :), (congrArg HeldPass.exitCount hkept :), ?_⟩
  rintro r hr ⟨a, ha, hi⟩
  exact hresults AxleRecord.forcedOut a.index (fun _ => Iff.rfl) (finishForced_axleIs hc ha) r hr hi.symm

end Forced

/-- What a completing rise leaves with a pass forced out, of the parts it does not change. -/
theorem Frame.forced_state {s u : State} {t : TrackId} (h : Frame (forcedParts t) s u) :
    u = { s with
      pacers := u.pacers, sections := u.sections, strain := u.strain, contexts := u.contexts,
      store := u.store, alarms := u.alarms, ports := u.ports, config := u.config, choice := u.choice } := by
  have htime : u.siteTime = s.siteTime := h .siteTime (by simp)
  have hstation : u.stationTime = s.stationTime := h .stationTime (by simp)
  have hsecond : u.secondStart = s.secondStart := h .secondStart (by simp)
  have hsensors : u.sensors = s.sensors := PerTrack.ext_get fun t => h (.sensors t) (by simp)
  have hpairs : u.pairs = s.pairs := PerTrack.ext_get fun t => h (.pairs t) (by simp)
  have hscanners : u.scanners = s.scanners := PerTrack.ext_get fun t => h (.scanners t) (by simp)
  have hpending : u.pending = s.pending := h .pending (by simp)
  cases u
  simp only [State.mk.injEq, true_and]
  exact ⟨htime, hstation, hsecond, hsensors, hpairs, hscanners, hpending⟩

/-! ### Reversal and overrun (R36, R37) -/

theorem entryEnd_ne_exitEnd (d : Direction) : entryEnd d ≠ exitEnd d := by cases d <;> decide

/-- R36, R37: the end reason and the count with which an event forces the pass out. -/
structure ForcedBy (s w : State) (t : TrackId) (c d : PassContext) (ev : PairEvent) (reason : EndReason) (n : Nat) :
    Prop where
  taken : s.takeOccupied t c ev = w.forceOut t reason n
  frame : Frame [.control t, .pacer t] s w
  ctx : w.ctx t = some d
  queue : (w.section t).queue = (s.section t).queue
  pass : d.number = c.number ∧ d.entryCount = c.entryCount ∧ d.exitCount = c.exitCount

section Forced

variable {s : State} {t : TrackId} {c : PassContext} {ev : PairEvent}

theorem takeOccupied_reversal (hin : ev.inward = true → ev.pairEnd = exitEnd c.direction)
    (hout : ev.inward = false → ev.pairEnd = entryEnd c.direction) (hc : s.ctx t = some c) :
    ForcedBy s s t c c ev .reversed (drainCount (s.section t).count ev.inward) := by
  refine ⟨?_, .refl _ s, hc, rfl, rfl, rfl, rfl⟩
  unfold State.takeOccupied
  cases hi : ev.inward with
  | true => rw [if_pos rfl, hin hi, if_neg (entryEnd_ne_exitEnd _).symm]
  | false => rw [if_neg Bool.false_ne_true, hout hi, if_neg (entryEnd_ne_exitEnd _)]

theorem takeOccupied_overrun (hin : ev.inward = true) (hend : ev.pairEnd = entryEnd c.direction)
    (hcount : ¬(s.section t).count < 32) (hc : s.ctx t = some c) :
    ForcedBy s (s.takeSpeed t ev) t c { c with heldSpeed := if ev.paired then ev.speed else c.heldSpeed } ev
      .countOverrun 32 := by
  have hsec := takeSpeed_section ev hc
  refine ⟨?_, takeSpeed_frame s t ev, congrArg SectionController.ctx hsec, by rw [hsec], rfl, rfl, rfl⟩
  simp only [State.takeOccupied, hin, if_true, if_pos hend, if_neg hcount]

end Forced

section Taken

variable {s : State} {now stamp first : SiteTime} {input : Fin 8} {t : TrackId} {e : SectionEnd} {x : Role}
  {c : PassContext}

theorem settled_of_busy (hidle : (s.section t).state ≠ .idle) (happroach : (s.section t).state ≠ .approach) :
    Settled s now t := fun _ _ _ => ⟨hidle, happroach⟩

/-- The state in which a track with a pass takes the event of a completing rise. -/
theorem takingReady_frame (s : State) (now stamp : SiteTime) (t : TrackId) (e : SectionEnd) (x : Role) :
    Frame [.control t, .pacer t] (s.afterRise now stamp t e x) ((s.taking now stamp t e x).ready t) :=
  .step (.one (taking_frame s now stamp t e x)) (ready_frame _ t)

theorem taking_ctx (hc : s.ctx t = some c) : (s.taking now stamp t e x).ctx t = some c :=
  (congrArg SectionController.ctx (taking_section s now stamp t e x)).trans hc

theorem taking_state : ((s.taking now stamp t e x).section t).state = (s.section t).state := by
  rw [taking_section]

theorem exec_completesWait_ready (h : CompletesWait s now stamp first input t e x)
    (hstate : (s.section t).state = .occupied ∨ (s.section t).state = .standing) (hc : s.ctx t = some c) :
    exec (.debounceConfirm now input) s =
      .next (((s.taking now stamp t e x).ready t).takeOccupied t c (s.completed t e x first stamp)) := by
  have hsettled : Settled s now t :=
    settled_of_busy (by rcases hstate with h | h <;> simp [h]) (by rcases hstate with h | h <;> simp [h])
  rw [exec_completesWait h hsettled (by rcases hstate with h | h <;> simp [h]),
    takeEvent_ready _ (by rw [taking_state]; exact hstate) (taking_ctx hc)]

theorem takingReady_section (hstate : (s.section t).state = .occupied ∨ (s.section t).state = .standing)
    (hc : s.ctx t = some c) : ((s.taking now stamp t e x).ready t).section t =
      { ((s.taking now stamp t e x).ready t).section t with
        count := (s.section t).count, queue := (s.section t).queue, ctx := some c } := by
  have hsec := ready_section (s := s.taking now stamp t e x) (by rw [taking_state]; exact hstate) (taking_ctx hc)
  have hctx : (s.section t).ctx = some c := hc
  rw [hsec, taking_section, ← hctx]

/-- R36, R37: a reversal or an overrun forces the pass out. -/
theorem forcedBy_of_completesWait (hstate : (s.section t).state = .occupied ∨ (s.section t).state = .standing)
    (hc : s.ctx t = some c)
    (hforced : ((x = .outer ∧ e = entryEnd c.direction) ∨ (x = .inner ∧ e = exitEnd c.direction)) ∨
      (x = .inner ∧ e = entryEnd c.direction ∧ (s.section t).count = 32)) :
    ∃ w d, ForcedBy ((s.taking now stamp t e x).ready t) w t c d (s.completed t e x first stamp)
        (if e = entryEnd c.direction ∧ x = .inner then .countOverrun else .reversed)
        (if x = .outer then (s.section t).count - 1
          else if e = exitEnd c.direction then min ((s.section t).count + 1) 32 else 32) ∧
      ((x = .outer ∧ e = entryEnd c.direction) ∨ (x = .inner ∧ e = exitEnd c.direction) →
        w = (s.taking now stamp t e x).ready t) := by
  have hctx := ready_ctx (s := s.taking now stamp t e x) (taking_ctx hc)
  have hcount : (((s.taking now stamp t e x).ready t).section t).count = (s.section t).count := by
    rw [takingReady_section hstate hc]
  have hne := entryEnd_ne_exitEnd c.direction
  rcases hforced with (⟨rfl, he⟩ | ⟨rfl, he⟩) | ⟨rfl, he, hfull⟩
  · have reversal := takeOccupied_reversal (ev := s.completed t e .outer first stamp) (fun h => nomatch h)
      (fun _ => he) hctx
    rw [hcount] at reversal
    exact ⟨_, _, by simpa [completed_inward, drainCount] using reversal, fun _ => rfl⟩
  · have reversal := takeOccupied_reversal (ev := s.completed t e .inner first stamp) (fun _ => he)
      (fun h => nomatch h) hctx
    rw [hcount] at reversal
    have hentry : e ≠ entryEnd c.direction := fun h => hne (h.symm.trans he)
    rw [if_neg fun h => hentry h.1, if_neg (by decide), if_pos he]
    exact ⟨_, _, reversal, fun _ => rfl⟩
  · have overrun := takeOccupied_overrun (ev := s.completed t e .inner first stamp) rfl he
      (by rw [hcount, hfull]; decide) hctx
    have hexit : e ≠ exitEnd c.direction := fun h => hne (he.symm.trans h)
    rw [if_pos ⟨he, rfl⟩, if_neg (by decide), if_neg hexit]
    exact ⟨_, _, overrun, fun h => by
      rcases h with ⟨h, -⟩ | ⟨-, h⟩
      · nomatch h
      · exact absurd h hexit⟩

end Taken

/-- Settles O23, from the pass forced out. -/
theorem reversalAndOverrunForceThePassOut : Obligations.ReversalAndOverrunForceThePassOut := by
  intro now stamp first input s t e x c h hstate hc reversal hforced hs
  have hother : otherTrack t ≠ t := (ne_otherTrack t).symm
  obtain ⟨w, d, ⟨htaken, hw, hctx, hqueue, hnumber, hentry, hexit⟩, hsame⟩ :=
    forcedBy_of_completesWait (now := now) (stamp := stamp) (first := first) hstate hc hforced
  generalize (if e = entryEnd c.direction ∧ x = .inner then EndReason.countOverrun else .reversed) = reason at *
  generalize (if x = .outer then (s.section t).count - 1
    else if e = exitEnd c.direction then min ((s.section t).count + 1) 32 else 32) = n at *
  have rise := afterRise_frame s now stamp t e x
  have before : Frame [.control t, .pacer t] (s.afterRise now stamp t e x) w :=
    .trans (takingReady_frame s now stamp t e x) hw
  have frame : Frame (forcedParts t) (s.afterRise now stamp t e x) (w.forceOut t reason n) :=
    .step (.one before) (forceOut_forcedParts w t reason n)
  have whole : Frame (.siteTime :: .sensors t :: .pairs t :: forcedParts t) s (w.forceOut t reason n) :=
    .step (.one rise) frame
  have hqueue' : (w.section t).queue = (s.section t).queue := by
    rw [hqueue, takingReady_section hstate hc]
  have hstore : w.store = s.store := Eq.trans (before .store (by simp)) (rise .store (by simp))
  have hsection := forceOut_section reason n hctx
  have htime : w.startTimer (w.area t).clearTime = some ⟨now, (s.area t).clearTime⟩ := by
    rw [State.startTimer, before.siteTime_eq, before.area_eq, rise.area_eq]
    rfl
  have hpacer : (w.forceOut t reason n).pacer t = (w.pacer t).halt := forceOut_pacer
  refine ⟨_, (exec_completesWait_ready h hstate hc).trans (congrArg Host.Outcome.next htaken), frame.forced_state,
    fun hrev hocc => ?_, by rw [hpacer]; rfl, by rw [hpacer]; rfl, by rw [hsection], by rw [hsection],
    congrArg SectionController.ctx hsection, by rw [hsection], by rw [hsection]; exact htime, by rw [hsection],
    fun p hp ht => ?_, PerTrack.ext_get fun o => whole (.area o) (by simp), fun hsite => ?_,
    whole.section_eq (by simp [hother]), whole (.pacer (otherTrack t)) (by simp [hother]),
    whole (.context (otherTrack t)) (by simp [hother])⟩
  · rw [hpacer, hsame hrev, ready_occupied (by rw [taking_state]; exact hocc)]
    rfl
  · have ended := forceOut_ended (reason := reason) (n := n) (by rw [hstore]; exact hs) hctx
      (by rw [hstore, hnumber]; exact hp) ht
    rwa [hqueue', hnumber, hentry, hexit] at ended
  · have hconfig : w.config = s.config := before.config_eq.trans rise.config_eq
    rw [forceOut_config (by rw [hconfig]; exact hsite), hconfig]

end Sys2Proof.Machine
end

section
/-! PROOFS. An inward event at the entry pair counts an axle in (R27, R28, R33, R47, R48). -/

namespace Sys2Proof.Machine

open Sys2Proof

/-! ### The pacer that takes the event (R47, R48) -/

section Pacer

variable {s : State} {t : TrackId} {c : PassContext}

theorem resume_pacer (s : State) (t : TrackId) : (s.resume t).pacer t = (s.pacer t).ensureRunning s.siteTime := by
  have hstart : (s.enterOccupied t).pacer t = (s.pacer t).ensureRunning s.siteTime := PerTrack.get_set _ t _
  exact Eq.trans (startHold_frame _ t (.pacer t) (by simp)) hstart

/-- R48: only the pacer of a STANDING track is started. -/
theorem takingReady_pacer (s : State) (now stamp : SiteTime) (t : TrackId) (e : SectionEnd) (x : Role) :
    ((s.taking now stamp t e x).ready t).pacer t = s.pacerTaking t now := by
  have hstate : ((s.taking now stamp t e x).section t).state = (s.section t).state := taking_state
  unfold State.ready State.pacerTaking
  rw [hstate]
  by_cases hs : (s.section t).state = .standing
  · rw [if_pos hs, resume_pacer]
    unfold Pacer.ensureRunning
    have hpacer : (s.taking now stamp t e x).pacer t = s.pacer t := rfl
    rw [hpacer]
    cases hr : (s.pacer t).running with
    | true => rw [if_pos rfl, if_neg (by simp)]
    | false =>
      rw [if_neg Bool.false_ne_true, if_pos ⟨hs, rfl⟩]
      rfl
  · rw [if_neg hs, if_neg fun h => hs h.1]
    rfl

/-- R47: a completed pair event writes its speed. -/
theorem takeSpeed_pacer {ev : PairEvent} (hpaired : ev.paired = true) (hc : s.ctx t = some c) :
    (s.takeSpeed t ev).pacer t = (s.pacer t).write (incrementOf ev.speed (s.area t).paceSpacing) := by
  rw [State.takeSpeed, hc]
  simp only [hpaired, if_true]
  exact PerTrack.get_set _ t _

end Pacer

/-! ### Counting in -/

/-- What counting in or out leaves of the parts it does not change. -/
theorem Frame.counted_state {s u : State} {t : TrackId} (h : Frame (.pacer t :: finishParts t) s u) :
    u = { s with
      pacers := s.pacers.set t (u.pacer t), sections := u.sections, contexts := u.contexts, store := u.store,
      alarms := u.alarms, ports := u.ports, choice := u.choice } := by
  have htime : u.siteTime = s.siteTime := h .siteTime (by simp)
  have hstation : u.stationTime = s.stationTime := h .stationTime (by simp)
  have hsecond : u.secondStart = s.secondStart := h .secondStart (by simp)
  have hsensors : u.sensors = s.sensors := PerTrack.ext_get fun t => h (.sensors t) (by simp)
  have hpairs : u.pairs = s.pairs := PerTrack.ext_get fun t => h (.pairs t) (by simp)
  have hpacers : u.pacers = s.pacers.set t (u.pacer t) := PerTrack.ext_get fun o => by
    by_cases ho : o = t
    · subst ho
      exact (PerTrack.get_set s.pacers o (u.pacer o)).symm
    · rw [PerTrack.get_set_of_ne _ ho]
      exact h (.pacer o) (by simp [ho])
  have hstrain : u.strain = s.strain := h.strain_eq
  have hscanners : u.scanners = s.scanners := PerTrack.ext_get fun t => h (.scanners t) (by simp)
  have hconfig : u.config = s.config := h.config_eq
  have hpending : u.pending = s.pending := h .pending (by simp)
  generalize u.pacer t = p at hpacers ⊢
  cases u
  simp only [State.mk.injEq, true_and]
  exact ⟨htime, hstation, hsecond, hsensors, hpairs, hpacers, hstrain, hscanners, hconfig, hpending⟩

/-- What counting in changes. -/
abbrev countedParts (t : TrackId) : List Part := .control t :: .pacer t :: vehicleParts t

theorem takeOccupied_countIn {s : State} {t : TrackId} {c : PassContext} {ev : PairEvent} (hin : ev.inward = true)
    (hend : ev.pairEnd = entryEnd c.direction) (hcount : (s.section t).count < 32) :
    s.takeOccupied t c ev = (s.takeSpeed t ev).countIn t ev := by
  simp only [State.takeOccupied, hin, if_true, if_pos hend, if_pos hcount]

/-- Settles O21, from the event's speed and from the count-in. -/
theorem inwardEventCountsAnAxleIn : Obligations.InwardEventCountsAnAxleIn := by
  intro now stamp first input s t e c h hstate hc he hcount v standing other
  have hother : otherTrack t ≠ t := (ne_otherTrack t).symm
  let r := (s.taking now stamp t e .inner).ready t
  let ev := s.completed t e .inner first stamp
  let u := (r.takeSpeed t ev).countIn t ev
  have hafter : s.taking now stamp t e .inner = s.afterRise now stamp t e .inner :=
    taking_elsewhere fun d hd => by
      obtain rfl := Option.some.inj (hd.symm.trans hc)
      rw [he]
      exact entryEnd_ne_exitEnd _
  have rise := afterRise_frame s now stamp t e .inner
  have before : Frame [.control t, .pacer t] (s.afterRise now stamp t e .inner) r :=
    takingReady_frame s now stamp t e .inner
  have frame : Frame (countedParts t) (s.afterRise now stamp t e .inner) u :=
    .step (.step (.one before) (takeSpeed_frame r t ev)) (countIn_frame _ t ev)
  have hchoice : u.choice = s.choice := Eq.trans (frame .choice (by simp)) (rise .choice (by simp))
  have hstate' := (frame.mono (F := .pacer t :: finishParts t) (by simp)).counted_state
  rw [hchoice] at hstate'
  have hr := ready_section (s := s.taking now stamp t e .inner) (by rw [taking_state]; exact hstate) (taking_ctx hc)
  have hrctx : r.ctx t = some c := ready_ctx (taking_ctx hc)
  have hspeed := takeSpeed_section ev hrctx
  obtain ⟨storing, hsection⟩ := countIn_section ev (congrArg SectionController.ctx hspeed)
  have hpacer : u.pacer t = (s.pacerTaking t now).write (incrementOf v (s.area t).paceSpacing) := by
    refine Eq.trans (countIn_frame _ t ev (.pacer t) (by simp)) ?_
    refine (takeSpeed_pacer (s := r) rfl hrctx).trans ?_
    rw [takingReady_pacer, before.area_eq, rise.area_eq]
    rfl
  have spoken : Frame [.control t, .pacer t] (s.afterRise now stamp t e .inner) (r.takeSpeed t ev) :=
    .trans before (takeSpeed_frame r t ev)
  have hheld : (r.takeSpeed t ev).startTimer (holdTime ((r.takeSpeed t ev).area t).holdDistance v) =
      some ⟨now, holdTime (s.area t).holdDistance v⟩ := by
    rw [State.startTimer, spoken.siteTime_eq, spoken.area_eq, rise.area_eq]
    rfl
  have hrsection : r.section t = { s.section t with
      state := .occupied, approachTimer := other (s.section t).approachTimer
      closeDelay := other (s.section t).closeDelay, clearTimer := other (s.section t).clearTimer
      holdTimer := (r.section t).holdTimer } := by
    simp only [other, standing, decide_eq_true_eq]
    rw [hr, hafter]
    rfl
  refine ⟨u, { ({ c with heldSpeed := v }.countedIn v) with storing := storing }, .ofCountIn (c.entryCount + 1) ev, ?_,
    hstate'.trans (by rw [hpacer]; rfl), hsection.trans ?_, ?_, ?_,
    frame.section_eq (by simp [hother]), frame (.context (otherTrack t)) (by simp [hother])⟩
  · have hrcount : (r.section t).count < 32 := by rw [hrsection]; exact hcount
    exact (exec_completesWait_ready h hstate hc).trans
      (congrArg Host.Outcome.next (takeOccupied_countIn (ev := ev) rfl he hrcount))
  · refine Eq.trans ?_ (congrArg (fun timer : Timer => { r.section t with
      ctx := some { ({ c with heldSpeed := v }.countedIn v) with storing := storing }
      count := (r.section t).count + 1
      queue := (r.section t).queue ++ [.ofCountIn (c.entryCount + 1) ev]
      holdTimer := timer }) hheld) |>.trans ?_
    · rw [hspeed]
      rfl
    · rw [hrsection]
  · rfl
  · rfl

end Sys2Proof.Machine
end

section
/-! PROOFS. An outward event at the exit pair takes the head of the queue out and finishes it (R29 to R31, R59, R78,
R109). -/

namespace Sys2Proof.Machine

open Sys2Proof

/-! ### The record of a finished axle (R31, R78, R109) -/

/-- R31, R59, R78, R109: an axle record that holds the results of an entry, final. -/
structure AxleRecord.Holds (r : AxleRecord) (e : AxleEntry) (drift : Option Int) (loads : PerRail WheelResult)
    (heats : PerScanner ThermalResult) : Prop where
  status : r.status = .final
  flags : r.flags = e.flags
  drift : r.drift = writtenDrift drift
  wheels : r.wheels = loads
  axleLoad : r.axleLoad = axleLoadOf loads.l.load loads.r.load
  imbalance : r.imbalance = imbalanceOf loads.l.load loads.r.load
  thermal : r.thermal = heats

/-- R31: what finishing writes into the stored record. -/
theorem finish_holds (s : State) (t : TrackId) (c : PassContext) (e : AxleEntry) (drift : Option Int)
    (uncertain forced : Bool) : AxleIs (s.finish t c e drift uncertain forced) t c.number e.index fun r =>
      r.Holds (e.fixFlags c.profile uncertain forced) drift
        (wheelResults (s.area t) (s.strain.drifted.get t) c.profile.nMin (e.fixFlags c.profile uncertain forced))
        (thermalResults c (e.fixFlags c.profile uncertain forced)) := by
  unfold State.finish
  extract_lets a wheels thermal base alarms r r2 r3 r4
  have hr : AxleIs r t c.number e.index fun x => ∃ y : AxleRecord, x = y.withResults a drift wheels thermal :=
    axleIs_updateAxle (axleIs_trivial s t _ _) fun y _ => ⟨y, rfl⟩
  have hr3 : AxleIs r3 t c.number e.index fun x => ∃ y : AxleRecord, x = y.withResults a drift wheels thermal :=
    (hr.through (raiseAll_sameAxles { r with choice := alarms.2 } alarms.1)).through (.of_store rfl)
  have hr4 : AxleIs r4 t c.number e.index fun x => x.Holds a drift wheels thermal := by
    refine axleIs_updateAxle hr3 ?_
    rintro _ ⟨y, rfl⟩
    exact ⟨rfl, rfl, rfl, rfl, rfl, rfl, rfl⟩
  exact hr4.through (tellEnded_sameAxles _ _ _ _ _ _)

/-! ### The head of the queue (R29, R30) -/

section Head

variable {s : State} {t : TrackId} {c : PassContext} {ev : PairEvent} {a : AxleEntry} {rest : List AxleEntry}

theorem headOut_holds (hq : (s.section t).queue = a :: rest) (drift : Option Int)
    (hdrift : s.driftAt t { c with exitCount := c.exitCount + 1 } a ev.firstSensor ev.firstStamp = drift) :
    AxleIs (s.headOut t c ev) t c.number a.index fun r =>
      r.Holds ((a.countedOut ev).fixFlags c.profile (exceedsDrift (s.area t) drift) false) drift
        (wheelResults (s.area t) (s.strain.drifted.get t) c.profile.nMin a) (thermalResults c a) := by
  unfold State.headOut
  rw [hq]
  dsimp only
  rw [hdrift]
  exact finish_holds (s.headGone t c) t { c with exitCount := c.exitCount + 1 } (a.countedOut ev) drift
    (exceedsDrift (s.area t) drift) false

theorem countOut_sameAxles (ev : PairEvent) (hc : s.ctx t = some c) : SameAxles (s.headOut t c ev) (s.countOut t ev) := by
  rw [countOut_eq ev hc]
  split
  · exact .of_store rfl
  · exact .of_store (startHold_frame _ t .store (by simp))

/-- R30: the drift of the head by the exit marks of the section. -/
theorem driftAt_eq (s : State) (t : TrackId) (c : PassContext) (a : AxleEntry) (x : Role) (stamp : SiteTime) :
    s.driftAt t c a x stamp = (((s.section t).exitMarks.get x).find? fun m => decide (m.stamp = stamp)).map fun m =>
      positionAt (s.area t) c.direction ((a.ticks : Int) - c.tickTotal + m.total) -
        (s.area t).sensorX (exitEnd c.direction) x := by
  unfold State.driftAt findMark
  dsimp only
  split
  next h => rw [h]; rfl
  next m h => rw [h]; rfl

theorem exceedsDrift_eq (area : TrackArea) (drift : Option Int) :
    exceedsDrift area drift = decide (∃ x ∈ drift, area.driftLimit < x.natAbs) := by
  cases drift <;> simp [exceedsDrift]

theorem takeOccupied_countOut (hin : ev.inward = false) (hend : ev.pairEnd = exitEnd c.direction) :
    s.takeOccupied t c ev = (s.takeSpeed t ev).countOut t ev := by
  simp only [State.takeOccupied, hin, Bool.false_eq_true, if_false, if_pos hend]

end Head

/-- Settles O22, from the section and the record that a count-out leaves. -/
theorem outwardEventTakesTheHeadOut : Obligations.OutwardEventTakesTheHeadOut := by
  intro now stamp first input s t e c a rest h hstate hc he hqueue hcount area speed v wheels marks sign drift
  have hother : otherTrack t ≠ t := (ne_otherTrack t).symm
  let r := (s.taking now stamp t e .outer).ready t
  let ev := s.completed t e .outer first stamp
  let w := r.takeSpeed t ev
  let d : PassContext := { c with heldSpeed := v }
  let u := w.countOut t ev
  have rise := afterRise_frame s now stamp t e .outer
  have before : Frame [.control t, .pacer t] (s.afterRise now stamp t e .outer) w :=
    .trans (takingReady_frame s now stamp t e .outer) (takeSpeed_frame r t ev)
  have spoken : Frame [.siteTime, .sensors t, .pairs t, .control t, .pacer t] s w := .step (.one rise) before
  have frame : Frame (.pacer t :: finishParts t) (s.afterRise now stamp t e .outer) u :=
    .step (.one before) (countOut_frame w t ev)
  have hrctx : r.ctx t = some c := ready_ctx (taking_ctx hc)
  have hr := ready_section (s := s.taking now stamp t e .outer) (by rw [taking_state]; exact hstate) (taking_ctx hc)
  have hspeed := takeSpeed_section ev hrctx
  have hwctx : w.ctx t = some d := congrArg SectionController.ctx hspeed
  have hmarks : s.marksAfter t e .outer stamp = ⟨(⟨stamp, c.tickTotal⟩ :: marks.outer).take 2, marks.inner⟩ := by
    rw [State.marksAfter, hc]
    exact if_pos he
  have hw : w.section t = { w.section t with
      state := .occupied, count := rest.length + 1, queue := a :: rest, ctx := some d
      exitMarks := ⟨(⟨stamp, c.tickTotal⟩ :: marks.outer).take 2, marks.inner⟩ } := by
    rw [hspeed, hr, taking_section, hmarks, ← hqueue, ← hcount]
    rfl
  have hwqueue : (w.section t).queue = a :: rest := congrArg SectionController.queue hw
  have hwcount : (w.section t).count - 1 = rest.length := congrArg (fun c : SectionController => c.count - 1) hw
  have hwarea : w.area t = area := spoken.area_eq
  have hwtime : w.siteTime = now := before.siteTime_eq
  obtain ⟨rises, hsection⟩ := countOut_section ev hwctx
  rw [hwcount, hwqueue, List.drop_one, List.tail_cons, State.startTimer, State.startTimer, hwtime, hwarea, hw] at hsection
  have hpacer : u.pacer t = (s.pacerTaking t now).write (incrementOf v area.paceSpacing) := by
    refine Eq.trans (countOut_frame w t ev (.pacer t) (by simp)) ((takeSpeed_pacer (s := r) rfl hrctx).trans ?_)
    rw [takingReady_pacer, (takingReady_frame s now stamp t e .outer).area_eq, rise.area_eq]
    rfl
  have hdrift : w.driftAt t { d with exitCount := d.exitCount + 1 } a ev.firstSensor ev.firstStamp = drift := by
    have hsign : sign = directionSign c.direction := by
      show (match c.direction with
        | .pq => 1
        | .qp => -1 : Int) = _
      cases c.direction <;> rfl
    rw [driftAt_eq, hw, hwarea]
    simp only [drift, hsign, he]
    rfl
  have hdrifted : w.strain.drifted.get t = s.strain.drifted.get t := spoken (.drifted t) (by simp)
  have holds := (headOut_holds (c := d) (ev := ev) hwqueue drift hdrift).through (countOut_sameAxles ev hwctx)
  rw [hwarea, hdrifted] at holds
  refine ⟨u, { c with exitCount := c.exitCount + 1, heldSpeed := v, rises := rises },
    (exec_completesWait_ready h hstate hc).trans
      (congrArg Host.Outcome.next (takeOccupied_countOut (ev := ev) rfl he)),
    frame.counted_state.trans (by rw [hpacer]; rfl), ?_, ?_, ?_, rfl, ?_, fun q hq ht x hx hi => ?_, fun hrest => ?_,
    fun hrest => ?_, frame.section_eq (by simp [hother]), frame (.context (otherTrack t)) (by simp [hother])⟩
  · rw [hsection]
    split <;> rfl
  · rw [hsection]
    split <;> rfl
  · rw [State.ctx, hsection]
    split <;> rfl
  · rw [hsection]
    split <;> rfl
  · obtain ⟨hmem, hn⟩ := PassStore.find_some hq
    obtain ⟨hstatus, hflags, hdriftWritten, hwheels, hload, himbalance, hthermal⟩ := holds q hmem hn ht x hx hi
    refine ⟨hstatus, hwheels, hthermal, hload, himbalance, hdriftWritten, hflags.trans ?_⟩
    rw [exceedsDrift_eq]
    simp only [AxleEntry.fixFlags, AxleEntry.countedOut, outOfBand, Bool.decide_or]
    rw [show ev.degraded = false from rfl, Bool.or_false]
    rfl
  · rw [hsection, hrest]
    exact ⟨rfl, rfl, rfl⟩
  · rw [hsection, if_neg fun hl => hrest (List.eq_nil_of_length_eq_zero hl)]
    exact ⟨rfl, rfl⟩

end Sys2Proof.Machine
end

section
/-! PROOFS. Notices keep their order in a queue (R165, R166), and the store's numbers only go while passes are written
(R26, R127, R136). -/

namespace Sys2Proof.Machine

open Sys2Proof

/-! ### Notices in a row (R166) -/

section Oldest

variable {l : List Notice} (hl : newestIsOverflow l = false)
include hl

/-- R166: the oldest notices of a queue stay so when a further notice arrives. -/
theorem pushNotice_prefix (n : Notice) {q : List Notice} (h : l <+: q) : l <+: pushNotice n q := by
  rcases pushNotice_cases n q with ⟨-, -, e⟩ | ⟨-, -, e⟩ | ⟨-, -, e⟩ | ⟨c, time, hlast, -, e⟩ <;> rw [e]
  · exact h.trans (List.prefix_append q _)
  · exact h.trans (List.prefix_append q _)
  · exact h
  · have hq : q = q.dropLast ++ [⟨.overflow c, time⟩] := (List.dropLast_append_getLast? _ hlast).symm
    rw [hq, List.prefix_concat_iff] at h
    rcases h with rfl | h
    · simp [newestIsOverflow, Notice.isOverflow] at hl
    · exact h.trans (List.prefix_append _ _)

theorem receive_prefix (n : Notice) {x : StationPort} (h : l <+: x.notices) : l <+: (x.receive n).notices := by
  unfold StationPort.receive
  split
  · exact pushNotice_prefix hl n h
  · exact h

theorem notify_prefix (b : NoticeBody) {s : State} {p : Port} (h : l <+: (s.port p).notices) :
    l <+: ((s.notify b).port p).notices := by
  rw [port_notify]
  exact receive_prefix hl _ h

theorem reclaim_prefix (q : HeldPass) (tier2 : Bool) {s : State} {p : Port} (h : l <+: (s.port p).notices) :
    l <+: ((s.reclaim q tier2).port p).notices := by
  have dropped : ∀ (x : StationPort) (holds : Bool) (n : Notice), l <+: x.notices →
      l <+: ({ x with view := x.view.afterReclaim q.number }.dropNotice holds n).notices := by
    intro x holds n hx
    unfold StationPort.dropNotice
    split
    · exact receive_prefix hl n hx
    · exact hx
  cases p
  · exact dropped _ _ _ h
  · exact dropped _ _ _ h

theorem reclaimUntil_prefix (room : PassStore → Bool) (fuel : Nat) {s : State} {p : Port}
    (h : l <+: (s.port p).notices) : l <+: ((State.reclaimUntil room fuel s).port p).notices := by
  induction fuel generalizing s with
  | zero => exact h
  | succ fuel ih =>
    unfold State.reclaimUntil
    split
    · exact h
    · split
      · exact h
      · exact ih (reclaim_prefix hl _ _ h)

theorem Move.oldest_stay {s u : State} (k : Move s u) (p : Port) (h : l <+: (s.port p).notices) :
    l <+: (u.port p).notices := by
  cases k with
  | still _ _ _ hp => rwa [(hp p).1]
  | notify b => exact notify_prefix hl b h
  | raise a =>
    unfold State.raise
    dsimp only
    split
    · exact notify_prefix hl _ h
    · exact notify_prefix hl _ h
  | reclaim q tier2 => exact reclaim_prefix hl q tier2 h
  | update => exact h
  | axleChunk => exact h
  | vehicleChunk => exact h
  | header q =>
    have room := reclaimUntil_prefix hl hasSlot s.store.passes.length (p := p)
      (s := { s with store := { s.store with nextPass := nextPassNumber s.store.takeNumber } }) h
    rcases requestHeader_cases { s with store := { s.store with nextPass := nextPassNumber s.store.takeNumber } } q with
      e | ⟨-, e⟩
    · rw [e]; exact room
    · rw [e]; exact room

theorem Moves.oldest_stay {s u : State} (k : Moves s u) (p : Port) (h : l <+: (s.port p).notices) :
    l <+: (u.port p).notices :=
  Moves.keeps (P := fun s => l <+: (s.port p).notices) (fun _ _ k => k.oldest_stay hl p) k h

end Oldest

theorem newestIsOverflow_append {l : List Notice} (hl : newestIsOverflow l = false) (hne : l ≠ []) (a : List Notice) :
    newestIsOverflow (a ++ l) = false := by
  rw [newestIsOverflow, List.getLast?_append_of_ne_nil a hne]
  exact hl

/-- R166: notices in a row stay so, wherever they stand in the queue. -/
theorem Moves.row_stays {l : List Notice} (hl : newestIsOverflow l = false) {s u : State} (k : Moves s u) (p : Port)
    (h : l <:+: (s.port p).notices) : l <:+: (u.port p).notices := by
  rcases eq_or_ne l [] with rfl | hne
  · exact List.nil_infix
  · obtain ⟨a, b, hq⟩ := h
    have kept := k.oldest_stay (newestIsOverflow_append hl hne a) p ⟨b, hq⟩
    exact (List.suffix_append a l).isInfix.trans kept.isInfix

/-! ### Numbers only go (R26, R127, R136) -/

/-- R127, R136: of two states of the pass store, the second has the first one's next number and no more held
passes, their numbers among those of the first. -/
structure PassStore.Shrinks (x y : PassStore) : Prop where
  next : y.nextPass = x.nextPass
  numbers : (y.passes.map fun p => p.number).Sublist (x.passes.map fun p => p.number)

theorem PassStore.Shrinks.refl (x : PassStore) : x.Shrinks x := ⟨rfl, .refl _⟩

theorem PassStore.Shrinks.trans {x y z : PassStore} (h : x.Shrinks y) (k : y.Shrinks z) : x.Shrinks z :=
  ⟨k.next.trans h.next, k.numbers.trans h.numbers⟩

theorem PassStore.Shrinks.length_le {x y : PassStore} (h : x.Shrinks y) : y.passes.length ≤ x.passes.length := by
  simpa using h.numbers.length_le

theorem PassStore.Shrinks.find_none {x y : PassStore} (h : x.Shrinks y) {n : Nat} (hn : x.find n = none) :
    y.find n = none := by
  rw [PassStore.find_none] at hn ⊢
  intro p hp hpn
  obtain ⟨q, hq, hqn⟩ := List.mem_map.mp (h.numbers.subset (List.mem_map_of_mem hp))
  exact hn q hq (hqn.trans hpn)

theorem updateOfTrack_shrinks {st : PassStore} {t : TrackId} {n : Nat} {f : HeldPass → HeldPass}
    (hf : ∀ p, (f p).number = p.number) : st.Shrinks (st.updateOfTrack t n f) := by
  refine ⟨rfl, ?_⟩
  have same : (st.updateOfTrack t n f).passes.map (fun p => p.number) = st.passes.map fun p => p.number := by
    rw [PassStore.updateOfTrack, List.map_map]
    refine List.map_congr_left fun p _ => ?_
    simp only [Function.comp_apply]
    split
    · exact hf p
    · rfl
  rw [same]

theorem Write.shrinks {t : TrackId} {K : Nat → Prop} {F : List Kind} {s u : State} (h : Write t K F s u) :
    s.store.Shrinks u.store := by
  cases h with
  | still hstore => rw [hstore]; exact .refl _
  | raise a => rw [raise_store]; exact updateOfTrack_shrinks fun _ => rfl
  | note k f hk hf => exact updateOfTrack_shrinks fun p => (congrArg HeldPass.number (hf.kept p) :)
  | result => exact updateOfTrack_shrinks fun _ => rfl
  | append => exact updateOfTrack_shrinks fun _ => rfl
  | axleChunk =>
    exact ⟨rfl, (updateOfTrack_shrinks (f := fun p => { p with axleChunks := p.axleChunks + 1 }) fun _ => rfl).numbers⟩
  | vehicleChunk =>
    exact ⟨rfl,
      (updateOfTrack_shrinks (f := fun p => { p with vehicleChunks := p.vehicleChunks + 1 }) fun _ => rfl).numbers⟩
  | reclaim p => exact ⟨rfl, List.filter_sublist.map _⟩

theorem Writes.shrinks {t : TrackId} {K : Nat → Prop} {F : List Kind} {s u : State} (h : Writes t K F s u) :
    s.store.Shrinks u.store := by
  induction h with
  | refl => exact .refl _
  | tail _ hw ih => exact ih.trans hw.shrinks

/-- R40: a close takes no number. -/
theorem closePass_shrinks (s : State) (t : TrackId) (reason : EndReason) :
    s.store.Shrinks (s.closePass t reason).store := by
  cases h : s.ctx t with
  | none => rw [closePass_none reason h]; exact .refl _
  | some c =>
    have begun : s.store.Shrinks (s.closeBegun t c reason).store := updateOfTrack_shrinks fun _ => rfl
    have judged : (s.closeBegun t c reason).store.Shrinks ((s.closeBegun t c reason).closeJudged t c reason).store := by
      unfold State.closeJudged
      split
      · have flagged : (s.closeBegun t c reason).store.Shrinks ((s.closeBegun t c reason).flagPass t c.number
            fun f => { f with countMismatch := true }).store := updateOfTrack_shrinks fun _ => rfl
        exact flagged.trans (mismatchAlarm_writes _ t c).shrinks
      · exact .refl _
    have completed : (((s.closeBegun t c reason).closeJudged t c reason).closingMatch t).store.Shrinks
        (s.closeStore t c reason).store := updateOfTrack_shrinks fun _ => rfl
    rw [closePass_after reason h .store (by simp)]
    exact ((begun.trans judged).trans (closingMatch_writes (contextIn_any _ t)).shrinks).trans completed

end Sys2Proof.Machine
end

section
/-! PROOFS. The pair events of a CLEARING track, and the underflow at rest (R28, R34, R35, R39). -/

namespace Sys2Proof.Machine

open Sys2Proof

/-! ### Underflow (R34, R39) -/

section Underflow

variable {s : State} {t : TrackId} {c : PassContext} {ev : PairEvent}

/-- A state with a notice of a track's underflow, where it was clear. -/
def State.underflowTold (s u : State) (t : TrackId) : State :=
  if (s.section t).underflow = true then u else u.notify (.faultChanged (.underflow t) 1)

theorem underflow_eq (s : State) (t : TrackId) :
    s.underflow t = s.underflowTold (s.setSection t { s.section t with underflow := true }) t := by
  unfold State.underflow State.underflowTold
  split
  · next h =>
    rw [← h]
    exact (setSection_self s t).symm
  · rfl

/-- R34: a count-out ignored in CLEARING shows in the exit count only. -/
theorem lateCountOut_eq (hc : s.ctx t = some c) : s.lateCountOut t c ev = s.setSection t { s.section t with
    ctx := some { c with exitCount := if ev.pairEnd = exitEnd c.direction then c.exitCount + 1 else c.exitCount } } := by
  unfold State.lateCountOut
  split
  · rfl
  · have hctx : (s.section t).ctx = some c := hc
    rw [← hctx]
    exact (setSection_self s t).symm

theorem takeEvent_rest (hout : ev.inward = false)
    (h : (s.section t).state = .idle ∨ (s.section t).state = .approach) : s.takeEvent t ev = s.underflow t := by
  rcases h with h | h <;> simp [State.takeEvent, h, hout]

theorem takeEvent_clearing (h : (s.section t).state = .clearing) (hc : s.ctx t = some c) :
    s.takeEvent t ev = s.takeClearing t c ev := by
  simp only [State.takeEvent, h, hc]

theorem takeClearing_out (hout : ev.inward = false) :
    s.takeClearing t c ev = (s.lateCountOut t c ev).underflow t := by
  simp only [State.takeClearing, hout, Bool.false_eq_true, if_false]

theorem takeClearing_entry (hin : ev.inward = true) (hend : ev.pairEnd = entryEnd c.direction) :
    s.takeClearing t c ev = (((s.enterOccupied t).takeSpeed t ev).startHold t).countIn t ev := by
  simp only [State.takeClearing, hin, if_true, if_pos hend]

theorem takeClearing_exit (hin : ev.inward = true) (hend : ev.pairEnd = exitEnd c.direction) :
    s.takeClearing t c ev = (s.closePass t .normal).openPass t ev := by
  have hne : ev.pairEnd ≠ entryEnd c.direction := by rw [hend]; exact (entryEnd_ne_exitEnd _).symm
  simp only [State.takeClearing, hin, if_true, if_neg hne]

end Underflow

/-! ### An axle more of the same pass (R34) -/

section Entry

variable {s : State} {now stamp first : SiteTime} {input : Fin 8} {t : TrackId} {e : SectionEnd} {x : Role}
  {c : PassContext}

theorem exec_completesWait_clearing (h : CompletesWait s now stamp first input t e x)
    (hstate : (s.section t).state = .clearing) (hc : s.ctx t = some c) :
    exec (.debounceConfirm now input) s =
      .next ((s.taking now stamp t e x).takeClearing t c (s.completed t e x first stamp)) := by
  rw [exec_completesWait h (settled_of_busy (by simp [hstate]) (by simp [hstate])) (by simp [hstate]),
    takeEvent_clearing (taking_state.trans hstate) (taking_ctx hc)]

/-- R34, R39: a count-out in CLEARING is an underflow. -/
theorem takeClearing_underflow (hc : s.ctx t = some c) :
    let u := (s.taking now stamp t e .outer).takeClearing t c (s.completed t e .outer first stamp)
    u = s.underflowTold ((s.afterRise now stamp t e .outer).setSection t { s.section t with
      underflow := true
      exitMarks := (u.section t).exitMarks
      ctx := some { c with exitCount := if e = exitEnd c.direction then c.exitCount + 1 else c.exitCount } }) t := by
  intro u
  let counted : SectionController := { s.section t with
    exitMarks := s.marksAfter t e .outer stamp
    ctx := some { c with exitCount := if e = exitEnd c.direction then c.exitCount + 1 else c.exitCount } }
  have hu : u = ((s.afterRise now stamp t e .outer).setSection t counted).underflow t := by
    rw [show u = _ from takeClearing_out rfl, lateCountOut_eq (taking_ctx hc), taking_section, State.taking,
      setSection_setSection]
    rfl
  have hmarks : (u.section t).exitMarks = s.marksAfter t e .outer stamp := by
    rw [hu, underflow_section, section_setSection]
  rw [hmarks, hu, underflow_eq, State.underflowTold, section_setSection, setSection_setSection]
  rfl

/-- R28, R34: the axle joins the pass that was about to close. -/
theorem takeClearing_counts (he : e = entryEnd c.direction) (hc : s.ctx t = some c)
    (hrunning : (s.pacer t).running = true) (hcount : (s.section t).count = 0) (hqueue : (s.section t).queue = []) :
    let v := (pairSpeed ((s.area t).pairSpacing e) (interval first stamp)).1
    let u := (s.taking now stamp t e .inner).takeClearing t c (s.completed t e .inner first stamp)
    ∃ storing, Frame (countedParts t) (s.afterRise now stamp t e .inner) u ∧
      u.pacer t = (s.pacer t).write (incrementOf v (s.area t).paceSpacing) ∧
      u.section t = { s.section t with
        state := .occupied, count := 1
        queue := [.ofCountIn (c.entryCount + 1) (s.completed t e .inner first stamp)]
        ctx := some { ({ c with heldSpeed := v }.countedIn v) with storing := storing }
        approachTimer := none, closeDelay := none, clearTimer := none
        holdTimer := some ⟨now, holdTime (s.area t).holdDistance v⟩ } := by
  intro v u
  let ev := s.completed t e .inner first stamp
  let r := (s.taking now stamp t e .inner).enterOccupied t
  let w := (r.takeSpeed t ev).startHold t
  have hafter : s.taking now stamp t e .inner = s.afterRise now stamp t e .inner :=
    taking_elsewhere fun d hd => by
      obtain rfl := Option.some.inj (hd.symm.trans hc)
      rw [he]
      exact entryEnd_ne_exitEnd _
  have hu : u = w.countIn t ev := takeClearing_entry rfl he
  have rise := afterRise_frame s now stamp t e .inner
  have entered : Frame [.control t, .pacer t] (s.afterRise now stamp t e .inner) r :=
    .step (.one (taking_frame s now stamp t e .inner)) (enterOccupied_frame _ t)
  have before : Frame [.control t, .pacer t] (s.afterRise now stamp t e .inner) w :=
    .step (.trans entered (takeSpeed_frame r t ev)) (startHold_frame _ t)
  have hr : r.section t = { s.section t with
      state := .occupied, approachTimer := none, closeDelay := none, clearTimer := none } := by
    rw [show r.section t = _ from enterOccupied_section _ t, hafter]
    rfl
  have hrctx : r.ctx t = some c := (congrArg SectionController.ctx hr).trans hc
  have hspeed := takeSpeed_section ev hrctx
  have hheld := startHold_section (congrArg SectionController.ctx hspeed)
  have hwctx : w.ctx t = some { c with heldSpeed := v } :=
    (congrArg SectionController.ctx hheld).trans (congrArg SectionController.ctx hspeed)
  obtain ⟨storing, hsection⟩ := countIn_section ev hwctx
  have hpacer : r.pacer t = s.pacer t := by
    have hstart : r.pacer t = (s.pacer t).ensureRunning now := PerTrack.get_set _ t _
    rw [hstart, Pacer.ensureRunning, if_pos hrunning]
  refine ⟨storing, ?_, ?_, ?_⟩
  · rw [hu]
    exact .step (.one before) (countIn_frame w t ev)
  · rw [hu]
    refine Eq.trans (countIn_frame w t ev (.pacer t) (by simp))
      (Eq.trans (startHold_frame _ t (.pacer t) (by simp)) ((takeSpeed_pacer (s := r) rfl hrctx).trans ?_))
    rw [hpacer, entered.area_eq, rise.area_eq]
    rfl
  · rw [hu, hsection, State.startTimer, before.siteTime_eq, before.area_eq, rise.area_eq, hheld, hspeed, hr]
    dsimp only
    rw [hcount, hqueue]
    rfl

end Entry

/-! ### The next pass (R35) -/

section Exit

variable {s : State} {t : TrackId} {c : PassContext} {ev : PairEvent}

/-- R144, R165: an alarm sends one notice. -/
theorem raise_port (s : State) (a : Alarm) : ∃ b, (⟨b, s.siteTime⟩ : Notice).isOverflow = false ∧
    ∀ p, ((s.raise a).port p) = (s.port p).receive ⟨b, s.siteTime⟩ := by
  unfold State.raise
  dsimp only
  split
  · exact ⟨_, rfl, fun p => by cases p <;> rfl⟩
  · exact ⟨_, rfl, fun p => by cases p <;> rfl⟩

theorem receive_short {x : StationPort} {n : Notice} (ha : x.attached = true)
    (hnewest : newestIsOverflow x.notices = false) (hroom : x.notices.length < 31) :
    (x.receive n).notices = x.notices ++ [n] := by
  rw [StationPort.receive, if_pos ha]
  rcases pushNotice_cases n x.notices with ⟨-, -, e⟩ | ⟨-, h, -⟩ | ⟨-, h, -⟩ | ⟨c, time, -, h, -⟩
  · exact e
  · omega
  · omega
  · rw [hnewest] at h
    nomatch h

/-- R40, R144: the alarm of a mismatch sends the one notice that a close may send before its own. -/
theorem closeJudged_notices (reason : EndReason) {p : Port} (ha : (s.port p).attached = true)
    (hn : (s.port p).notices = []) :
    ((s.closeJudged t c reason).port p).attached = true ∧
      ((s.closeJudged t c reason).port p).notices.length ≤ 1 ∧
      newestIsOverflow ((s.closeJudged t c reason).port p).notices = false := by
  unfold State.closeJudged
  split
  · obtain ⟨b, hplain, hport⟩ := raise_port (s.flagPass t c.number fun f => { f with countMismatch := true })
      (mismatchAlarm t c)
    have hflag : (s.flagPass t c.number fun f => { f with countMismatch := true }).port p = s.port p := rfl
    have hnotices := receive_short (x := s.port p) (n := ⟨b, s.siteTime⟩) ha (by rw [hn]; rfl) (by rw [hn]; decide)
    rw [hn, List.nil_append] at hnotices
    refine ⟨?_, ?_, ?_⟩ <;> rw [hport, hflag]
    · rw [receive_attached, ha]
    · exact (congrArg List.length hnotices).le
    · exact (congrArg newestIsOverflow hnotices).trans hplain
  · rw [hn]
    exact ⟨ha, Nat.zero_le _, rfl⟩

/-- R40, R165: a close with no vehicle to match sends at most an alarm before PASS_CLOSED. -/
theorem closePass_notices (reason : EndReason) (hc : s.ctx t = some c) (hmatch : s.context t = none) {p : Port}
    (ha : (s.port p).attached = true) (hn : (s.port p).notices = []) : ∃ before : List Notice, before.length ≤ 1 ∧
      ((s.closePass t reason).port p).attached = true ∧
      ((s.closePass t reason).port p).notices = before ++ [⟨.passClosed c.number t reason, s.siteTime⟩] := by
  have begun := closeBegun_frame s t c reason
  have judged := closeJudged_frame (s.closeBegun t c reason) t c reason
  obtain ⟨hattached, hlength, hnewest⟩ := closeJudged_notices (t := t) (c := c) (s := s.closeBegun t c reason) reason
    (Eq.trans (begun (.attached p) (by simp)) ha) (Eq.trans (begun (.notices p) (by simp)) hn)
  have hcontext : ((s.closeBegun t c reason).closeJudged t c reason).context t = none :=
    Eq.trans (judged (.context t) (by simp)) (Eq.trans (begun (.context t) (by simp)) hmatch)
  have hmatched : ((s.closeBegun t c reason).closeJudged t c reason).closingMatch t =
      (s.closeBegun t c reason).closeJudged t c reason := by
    rw [State.closingMatch, hcontext]
  have hstored : (s.closeStore t c reason).port p = ((s.closeBegun t c reason).closeJudged t c reason).port p := by
    rw [State.closeStore, hmatched]
    rfl
  have htime : (s.closeStore t c reason).siteTime = s.siteTime := by
    rw [State.closeStore, hmatched]
    exact Eq.trans (judged .siteTime (by simp)) (begun .siteTime (by simp))
  have after : ∀ u : State, Frame [.control t, .slot t] u ((u.setSection t { u.section t with
      ctx := none, exitMarks := ⟨[], []⟩ }).withdrawPace t c.number) := fun u =>
    .step (.one (setSection_frame u t _)) (withdrawPace_frame _ t _)
  refine ⟨((s.closeBegun t c reason).closeJudged t c reason).port p |>.notices, hlength, ?_, ?_⟩
  · rw [closePass_eq reason hc]
    refine Eq.trans (after _ (.attached p) (by simp)) ?_
    show (((s.closeStore t c reason).notify _).port p).attached = true
    rw [port_notify, receive_attached, hstored, hattached]
  · rw [closePass_eq reason hc]
    refine Eq.trans (after _ (.notices p) (by simp)) ?_
    show (((s.closeStore t c reason).notify _).port p).notices = _
    rw [port_notify, htime, hstored]
    exact receive_short hattached hnewest (by omega)

/-- R26: forming a pass where there is room sends PASS_OPENED only. -/
theorem formPass_port (hnumber : s.store.find s.store.nextPass = none) (hroom : s.store.passes.length < 16)
    (p : Port) : (s.formPass t ev).port p =
      (s.port p).receive ⟨.passOpened s.store.nextPass t (directionFrom ev.pairEnd) false, s.siteTime⟩ := by
  rw [formPass_eq hnumber hroom]
  cases p <;> rfl

/-- R26: the state from which the first axle of a pass that opens is counted in. -/
def State.opened (s : State) (t : TrackId) (ev : PairEvent) : State :=
  ((s.openFormed t ev).writeSpeed t ev.speed).startHold t

theorem opened_frame (s : State) (t : TrackId) (ev : PairEvent) :
    Frame [.control t, .pacer t, .scanners t] ((s.leaveRest t).formPass t ev) (s.opened t ev) :=
  .step (.step (.step (.one (enterOccupied_frame _ t)) (openFormed_after s t ev)) (writeSpeed_frame _ t _))
    (startHold_frame _ t)

/-- R26: what follows the forming of a pass. -/
theorem openPass_after (s : State) (t : TrackId) (ev : PairEvent) :
    Moves ((s.leaveRest t).formPass t ev) (s.openPass t ev) :=
  (Moves.of_frame (opened_frame s t ev) (by simp)).trans (countIn_moves (s.opened t ev) t ev)

/-- R26, R166: where PASS_CLOSED is the newest of a short queue, PASS_OPENED follows it. -/
theorem openPass_infix (hbusy : (s.section t).state ≠ .idle) (hnumber : s.store.find s.store.nextPass = none)
    (hroom : s.store.passes.length < 16) {p : Port} {before : List Notice} {n : Notice} (ha : (s.port p).attached = true)
    (hbefore : before.length ≤ 1) (hn : (s.port p).notices = before ++ [n]) (hplain : n.isOverflow = false) :
    [n, ⟨.passOpened s.store.nextPass t (directionFrom ev.pairEnd) false, s.siteTime⟩] <:+:
      ((s.openPass t ev).port p).notices := by
  have hrest : s.leaveRest t = s := if_neg (by simp [hbusy])
  have moves := openPass_after s t ev
  rw [hrest] at moves
  refine moves.row_stays rfl p ?_
  · rw [formPass_port hnumber hroom, receive_short ha (by rw [hn]; simp [newestIsOverflow, hplain])
      (by rw [hn, List.length_append, List.length_singleton]; omega), hn, List.append_assoc]
    exact (List.suffix_append _ _).isInfix

/-- R26, R136: a pass that is held after the opening of another was held before, with the same header. -/
theorem openPass_header (hs : s.store.poolsOk = true) {n : Nat} (hne : n ≠ s.store.takeNumber) {r : HeldPass}
    (hr : (s.openPass t ev).store.find n = some r) : ∃ q, s.store.find n = some q ∧ r.header = q.header := by
  have hleft : (s.leaveRest t).store = s.store := leaveRest_frame s t .store (by simp)
  obtain ⟨hformed, hheld⟩ := formPass_held (s.leaveRest t) t ev (by rwa [hleft])
  have hopened : (s.opened t ev).store = ((s.leaveRest t).formPass t ev).store := opened_frame s t ev .store (by simp)
  have hopenedOk : (s.opened t ev).store.poolsOk = true := by rwa [hopened]
  have counted : Writes t anyPass _ (s.opened t ev) (s.openPass t ev) :=
    countIn_writes (passIn_any (s.opened t ev) t) (contextIn_any _ t) ev
  obtain ⟨q, hq, written⟩ :=
    counted.was_held hopenedOk ((ofTrack_iff_find (counted.poolsOk hopenedOk)).mpr ⟨hr, rfl⟩)
  rw [hopened] at hq
  rcases hheld r.track n q hq with ⟨-, h, -⟩ | ⟨-, h⟩
  · rw [hleft] at h
    exact absurd h hne
  · rw [hleft] at h
    exact ⟨q, ((ofTrack_iff_find hs).mp h).1, written.header⟩

/-- R35: the shutters are not asked again. -/
theorem openPass_busy_frame (hbusy : (s.section t).state ≠ .idle) :
    Frame (.pacer t :: .control t :: vehicleParts t) s (s.openPass t ev) := by
  have hrest : s.leaveRest t = s := if_neg (by simp [hbusy])
  have hformed : s.openFormed t ev = (s.formPass t ev).enterOccupied t := by
    rw [State.openFormed, hrest]
    exact if_neg (by simp [hbusy])
  rw [openPass_eq, hformed]
  exact .step (.step (.step (.step (.one (formPass_frame s t ev)) (enterOccupied_frame _ t)) (writeSpeed_frame _ t _))
    (startHold_frame _ t)) (countIn_frame _ t ev)

theorem directionFrom_exitEnd (d : Direction) : directionFrom (exitEnd d) ≠ d := by cases d <;> decide

end Exit

/-- R35: a CLEARING track closes its pass and opens the next one. -/
theorem takeClearing_opens {s : State} {now stamp first : SiteTime} {t : TrackId} {e : SectionEnd} {c : PassContext}
    (he : e = exitEnd c.direction) (hstate : (s.section t).state = .clearing) (hc : s.ctx t = some c)
    (hcount : (s.section t).count = 0) (hqueue : (s.section t).queue = []) (hs : s.store.poolsOk = true)
    (hnumber : s.store.find s.store.nextPass = none) (hroom : s.store.passes.length < 16) :
    let v := (pairSpeed ((s.area t).pairSpacing e) (interval first stamp)).1
    let u := (s.taking now stamp t e .inner).takeClearing t c (s.completed t e .inner first stamp)
    ∃ d a y,
      (u.section t).state = .occupied ∧ (u.section t).count = 1 ∧ (u.section t).queue = [a] ∧
      (u.section t).clearTimer = none ∧ (u.section t).closeDelay = none ∧
      a.index = 1 ∧ a.entryTime = stamp ∧ a.v = v ∧
      u.ctx t = some d ∧ d.number = s.store.nextPass ∧ d.direction ≠ c.direction ∧
      d.entryCount = 1 ∧ d.exitCount = 0 ∧ d.heldSpeed = v ∧
      u.store.find d.number = some y ∧ y.state = .opened ∧ y.track = t ∧ y.openSite = stamp ∧
      (∀ q, s.store.find c.number = some q → q.track = t →
        ∀ r, u.store.find c.number = some r → r.state = .closed ∧ r.endReason = some .normal ∧
          r.entryCount = some c.entryCount ∧ r.exitCount = some c.exitCount) ∧
      (∀ p, (s.port p).attached = true → (s.port p).notices = [] → s.context t = none →
        [⟨.passClosed c.number t .normal, now⟩, ⟨.passOpened d.number t d.direction false, now⟩] <:+:
          (u.port p).notices) ∧
      u.scanners = s.scanners ∧ u.section (otherTrack t) = s.section (otherTrack t) ∧
      u.pacer (otherTrack t) = s.pacer (otherTrack t) := by
  intro v u
  have hother : otherTrack t ≠ t := (ne_otherTrack t).symm
  let ev := s.completed t e .inner first stamp
  let r := s.taking now stamp t e .inner
  let w := r.closePass t .normal
  have hu : u = w.openPass t ev := takeClearing_exit rfl he
  have rise := afterRise_frame s now stamp t e .inner
  have before : Frame [.control t] (s.afterRise now stamp t e .inner) r := taking_frame s now stamp t e .inner
  have hstore : r.store = s.store := rfl
  have hrctx : r.ctx t = some c := taking_ctx hc
  have hclosed := closePass_section (s := r) .normal hrctx
  have hbusy : (w.section t).state ≠ .idle := by
    rw [hclosed, taking_state, hstate]
    exact TrackState.noConfusion
  have shrinks : s.store.Shrinks w.store := closePass_shrinks r t .normal
  have hnumber' : w.store.find w.store.nextPass = none := by
    rw [shrinks.next]
    exact shrinks.find_none hnumber
  have hroom' : w.store.passes.length < 16 := shrinks.length_le.trans_lt hroom
  have hwok : w.store.poolsOk = true := closePass_poolsOk (s := r) .normal hs
  have close : Frame (.control t :: .slot t :: vehicleParts t) r w := closePass_frame r t .normal
  have opened := openPass_busy_frame (ev := ev) hbusy
  have frame : Frame (.siteTime :: .sensors t :: .pairs t :: .pacer t :: .control t :: .slot t :: vehicleParts t) s u := by
    rw [hu]
    exact .step (.step (.step (.one rise) before) close) opened
  obtain ⟨storing, hsection⟩ := openPass_section ev hnumber' hroom'
  obtain ⟨y, hy, hopening⟩ := (openPass_opens (t := t) ev hnumber' hroom').find
  rw [← hu] at hsection hy
  have hrest : w.leaveRest t = w := if_neg (by simp [hbusy])
  rw [hrest, hclosed, taking_section] at hsection
  have hopening' : y.state = .opened ∧ y.track = t ∧ y.openSite = stamp := by
    simp only [HeldPass.opening, Prod.mk.injEq] at hopening
    obtain ⟨htrack, -, hstate', hsite, -⟩ := hopening
    exact ⟨hstate', htrack, hsite⟩
  refine ⟨{ (w.newContext t w.store.nextPass (directionFrom ev.pairEnd) ev.speed true).countedIn ev.speed with
      storing := storing }, .ofCountIn 1 ev, y, by rw [hsection], ?_, ?_, by rw [hsection], by rw [hsection], rfl, rfl, rfl,
    congrArg SectionController.ctx hsection, shrinks.next, ?_, rfl, rfl, rfl, hy, hopening'.1, hopening'.2.1,
    hopening'.2.2, fun q hq ht x hx => ?_, fun p ha hn hmatch => ?_,
    PerTrack.ext_get fun o => frame (.scanners o) (by simp), frame.section_eq (by simp [hother]),
    frame (.pacer (otherTrack t)) (by simp [hother])⟩
  · rw [hsection]
    exact congrArg (· + 1) hcount
  · rw [hsection]
    exact congrArg (· ++ [_]) hqueue
  · show directionFrom e ≠ c.direction
    rw [he]
    exact directionFrom_exitEnd _
  · obtain ⟨q', hq', hkept⟩ := closePass_find (s := r) .normal hs hrctx hq ht
    have hne : c.number ≠ w.store.takeNumber := fun h => by
      rw [takeNumber_eq hnumber', shrinks.next] at h
      rw [h, hnumber] at hq
      nomatch hq
    rw [hu] at hx
    obtain ⟨q'', hq'', hheader⟩ := openPass_header hwok hne hx
    obtain rfl := Option.some.inj (hq''.symm.trans hq')
    have hall := hheader.trans (header_of_kept hkept)
    exact ⟨(congrArg HeldPass.state hall :), (congrArg HeldPass.endReason hall :),
      (congrArg HeldPass.entryCount hall :), (congrArg HeldPass.exitCount hall :)⟩
  · obtain ⟨sent, hsent, hattached, hnotices⟩ := closePass_notices (s := r) .normal hrctx hmatch ha hn
    have hinfix := openPass_infix (ev := ev) hbusy hnumber' hroom' hattached hsent hnotices rfl
    have htime : w.siteTime = now := close .siteTime (by simp)
    rw [hu]
    rw [htime] at hinfix
    exact hinfix

/-- Settles O24, by the event's pair and direction. -/
theorem clearingTrackTakesItsEvents : Obligations.ClearingTrackTakesItsEvents := by
  intro now stamp first input s t e x h v underflowed
  refine ⟨?_, fun c hstate hc => ⟨?_, ?_, ?_⟩⟩
  · rintro rfl hrest hctx hsettled
    have hd : (s.section t).state ≠ .draining := by rcases hrest with h | h <;> simp [h]
    have hafter : s.taking now stamp t e .outer = s.afterRise now stamp t e .outer :=
      taking_elsewhere fun d hd => by rw [hctx] at hd; nomatch hd
    rw [exec_completesWait h hsettled hd, takeEvent_rest rfl (by rw [taking_state]; exact hrest), hafter, underflow_eq]
    rfl
  · rintro rfl
    exact ⟨_, exec_completesWait_clearing h hstate hc, takeClearing_underflow hc⟩
  · rintro rfl he hcount hqueue hrunning
    obtain ⟨storing, frame, hpacer, hsection⟩ := takeClearing_counts (now := now) (stamp := stamp) (first := first) he hc
      hrunning hcount hqueue
    have rise := afterRise_frame s now stamp t e .inner
    have hchoice := Eq.trans (frame .choice (by simp)) (rise .choice (by simp))
    have hu := (frame.mono (F := .pacer t :: finishParts t) (by simp)).counted_state
    rw [hchoice] at hu
    have hother : otherTrack t ≠ t := (ne_otherTrack t).symm
    exact ⟨_, _, _, exec_completesWait_clearing h hstate hc, hu.trans (by rw [hpacer]; rfl), hsection, rfl, rfl, rfl, rfl,
      rfl, rfl, rfl, frame.section_eq (by simp [hother])⟩
  · rintro rfl he hcount hqueue hs hnumber hroom
    obtain ⟨d, a, y, hfacts⟩ := takeClearing_opens (now := now) (stamp := stamp) (first := first) he hstate hc hcount
      hqueue hs hnumber hroom
    exact ⟨_, d, a, y, exec_completesWait_clearing h hstate hc, hfacts⟩

end Sys2Proof.Machine
end

section
/-! PROOFS. What a warm reset keeps (R158, R175, R188): the pass store and the alarm list through the closes (R44,
R145), and the images and notices of the promotions that follow them (R186). -/

namespace Sys2Proof.Machine

open Sys2Proof

/-! ### The passes that are held after a pass is abandoned (R32, R40) -/

/-- The passes that are held in `u` were held in `s`, those of the other track as they are. -/
def HeldBefore (t : TrackId) (s u : State) : Prop :=
  ∀ o n q, u.store.ofTrack o n = some q → ∃ p, s.store.ofTrack o n = some p ∧ (o ≠ t → q = p)

section HeldBefore

variable {t : TrackId} {s u v : State}

theorem HeldBefore.of_store (h : u.store = s.store) : HeldBefore t s u := fun _ _ q hq => ⟨q, h ▸ hq, fun _ => rfl⟩

theorem HeldBefore.trans (h : HeldBefore t s u) (k : HeldBefore t u v) : HeldBefore t s v := by
  intro o n q hq
  obtain ⟨p, hp, hqp⟩ := k o n q hq
  obtain ⟨x, hx, hpx⟩ := h o n p hp
  exact ⟨x, hx, fun ho => (hqp ho).trans (hpx ho)⟩

theorem Writes.heldBefore {K : Nat → Prop} {F : List Kind} (h : Writes t K F s u) (hs : s.store.poolsOk = true) :
    HeldBefore t s u := by
  intro o n q hq
  obtain ⟨p, hp, written⟩ := h.was_held hs hq
  exact ⟨p, hp, fun ho => written.same (.inl ho)⟩

theorem updatePass_heldBefore (s : State) (t : TrackId) (k : Nat) {f : HeldPass → HeldPass}
    (hn : ∀ p, (f p).number = p.number) (ht : ∀ p, (f p).track = p.track) :
    HeldBefore t s (s.updatePass t k f) := by
  intro o n q hq
  rw [State.updatePass, ofTrack_updateOfTrack hn ht] at hq
  obtain ⟨p, hp, hqp⟩ := Option.map_eq_some_iff.mp hq
  refine ⟨p, hp, fun ho => ?_⟩
  obtain ⟨-, -, hpt⟩ := PassStore.ofTrack_some hp
  rw [← hqp, if_neg fun h => ho (hpt.symm.trans h.2)]

theorem closePass_heldBefore (t : TrackId) (reason : EndReason) (hs : s.store.poolsOk = true) :
    HeldBefore t s (s.closePass t reason) := by
  cases h : s.ctx t with
  | none => exact .of_store (by rw [closePass_none reason h])
  | some c =>
    have begun : HeldBefore t s (s.closeBegun t c reason) :=
      updatePass_heldBefore { s with alarms := s.alarms.closeBegins t c.number } t c.number
        (f := fun p => p.closeHeader c reason s.siteTime s.stationTime) (fun _ => rfl) fun _ => rfl
    have judged : HeldBefore t (s.closeBegun t c reason) ((s.closeBegun t c reason).closeJudged t c reason) := by
      unfold State.closeJudged
      split
      · have flagged := updatePass_heldBefore (s.closeBegun t c reason) t c.number
          (f := fun p => { p with flags := { p.flags with countMismatch := true } }) (fun _ => rfl) fun _ => rfl
        exact flagged.trans
          ((mismatchAlarm_writes _ t c).heldBefore (PassStore.updateOfTrack_poolsOk (fun _ => rfl) (fun _ => rfl)
            (fun _ => rfl) (closeBegun_poolsOk reason hs)))
      · exact .of_store rfl
    have matched := (closingMatch_writes (contextIn_any ((s.closeBegun t c reason).closeJudged t c reason) t)).heldBefore
      (closeMarked_poolsOk reason hs)
    have completed : HeldBefore t (((s.closeBegun t c reason).closeJudged t c reason).closingMatch t)
        (s.closeStore t c reason) :=
      updatePass_heldBefore _ t c.number (f := fun p => p.completeClose
        (((s.closeBegun t c reason).closeJudged t c reason).closingMatch t).attachedPorts) (fun _ => rfl) fun _ => rfl
    exact (((begun.trans judged).trans matched).trans completed).trans
        (.of_store (closePass_after reason h .store (by simp)))

end HeldBefore

section Abandon

variable {s : State} {t : TrackId} (reason : EndReason)

theorem abandonAll_writes {K : Nat → Prop} (h : PassIn K t s) : Writes t K [.result] s (s.abandonAll t) ∧
    (ContextIn K t s → ContextIn K t (s.abandonAll t)) := abandonEach_writes h _

theorem abandonPass_poolsOk (hs : s.store.poolsOk = true) : (s.abandonPass t reason).store.poolsOk = true :=
  closePass_poolsOk reason ((abandonAll_writes (passIn_any s t)).1.poolsOk hs)

theorem abandonPass_heldBefore (hs : s.store.poolsOk = true) : HeldBefore t s (s.abandonPass t reason) :=
  ((abandonAll_writes (passIn_any s t)).1.heldBefore hs).trans
    (closePass_heldBefore t reason ((abandonAll_writes (passIn_any s t)).1.poolsOk hs))

/-- R144, R145: what an abandoned pass leaves of the alarm list. -/
theorem abandonPass_alarms (s : State) (t : TrackId) : s.alarms.Grows (s.abandonPass t reason).alarms :=
  (abandonAll_writes (passIn_any s t)).1.alarms.trans (closePass_alarms _ t reason)

/-- R40, R133: the held pass of an abandoned pass stays held, closed. -/
theorem abandonPass_held {c : PassContext} (hs : s.store.poolsOk = true) (hc : s.ctx t = some c) {x : HeldPass}
    (hx : s.store.ofTrack t c.number = some x) : ∃ q, (s.abandonPass t reason).store.ofTrack t c.number = some q ∧
      q.state = .closed ∧ q.endReason = some reason ∧ q.closeSite = some s.siteTime ∧ q.release = ⟨false, false⟩ ∧
      q.retention = s.attachedPorts := by
  have hwrites := (abandonAll_writes (passIn_any s t)).1
  have hall : (s.abandonAll t).ctx t = some c := (congrArg SectionController.ctx (abandonEach_empties hc rfl)).trans hc
  obtain ⟨p, hp, -⟩ := hwrites.stays_held hs hx (.inl (by simp))
  obtain ⟨q, hq, hkept⟩ := closePass_held reason (hwrites.poolsOk hs) hall hp
  have htime : (s.abandonAll t).siteTime = s.siteTime := (abandonAll_frame s t).siteTime_eq
  have hports : (s.abandonAll t).attachedPorts = s.attachedPorts := attachedPorts_frame (abandonAll_frame s t)
  refine ⟨q, hq, (congrArg HeldPass.state hkept :), (congrArg HeldPass.endReason hkept :), ?_,
    (congrArg HeldPass.release hkept :), ?_⟩
  · exact (congrArg HeldPass.closeSite hkept).trans (congrArg some htime)
  · exact (congrArg HeldPass.retention hkept).trans hports

/-- R136: a pass of another number or track that no reclaim picks stays as it is. -/
theorem abandonPass_elsewhere {K : Nat → Prop} (hs : s.store.poolsOk = true) (hK : PassIn K t s)
    (hx : ContextIn K t s) {o : TrackId} {n : Nat} (hne : o ≠ t ∨ ¬K n) {p : HeldPass}
    (hp : s.store.ofTrack o n = some p) (hr : p.releasable = false) :
    (s.abandonPass t reason).store.ofTrack o n = some p := by
  obtain ⟨hwrites, hcontext⟩ := abandonAll_writes hK
  have hall : PassIn K t (s.abandonAll t) := by
    cases hc : s.ctx t with
    | none => rwa [abandonAll_none hc]
    | some c =>
      exact hK.of_section (congrArg (fun d : SectionController => d.ctx.map fun c => c.number)
        (abandonEach_empties hc rfl))
  refine closePass_elsewhere reason (hwrites.poolsOk hs) hall (hcontext hx) hne ?_ hr
  exact (hwrites.same hs (by simp) hne).trans hp

end Abandon

/-! ### The closes of a warm reset (R44) -/

section Closes

variable {s : State}

theorem closeForReset_alarms (s : State) : s.alarms.Grows s.closeForReset.alarms := by
  obtain ⟨n, o, horder⟩ := closeForReset_order s
  rw [horder]
  have first := abandonPass_alarms .reset { s with choice := n } o
  exact first.trans (abandonPass_alarms .reset _ (otherTrack o))

/-- R44: where no pass is open there is none to close. -/
theorem closeForReset_idle (h1 : s.ctx .t1 = none) (h2 : s.ctx .t2 = none) : s.closeForReset = s := by
  unfold State.closeForReset
  rw [if_neg (by simp [h1]), abandonPass_none _ h1, abandonPass_none _ h2]

/-- R44: the two closes in their order, at one of the two tracks. -/
theorem closeForReset_two (s : State) (t : TrackId) : ∃ n,
    s.closeForReset = (({ s with choice := n }).abandonPass t .reset).abandonPass (otherTrack t) .reset ∨
      s.closeForReset = (({ s with choice := n }).abandonPass (otherTrack t) .reset).abandonPass t .reset := by
  obtain ⟨n, o, horder⟩ := closeForReset_order s
  refine ⟨n, ?_⟩
  rcases eq_or_ne t o with rfl | hne
  · exact .inl horder
  · obtain rfl : o = otherTrack t := by revert hne; cases t <;> cases o <;> simp [otherTrack]
    exact .inr (horder.trans (by cases t <;> rfl))

/-- R136: a pass that some port holds and none has released is not reclaimed. -/
theorem releasable_of_retained {p : HeldPass} (hrelease : p.release = ⟨false, false⟩)
    (hretention : p.retention.a = true ∨ p.retention.b = true) : p.releasable = false := by
  simp only [HeldPass.releasable, HeldPass.fullyReleased, HeldPass.partlyReleased, hrelease]
  rcases hretention with h | h <;> simp [h]

theorem closeForReset_poolsOk (hs : s.store.poolsOk = true) : s.closeForReset.store.poolsOk = true := by
  obtain ⟨n, o, horder⟩ := closeForReset_order s
  rw [horder]
  exact abandonPass_poolsOk .reset (abandonPass_poolsOk (s := { s with choice := n }) .reset hs)

section OpenPass

variable {t : TrackId} {c : PassContext} {x : HeldPass} (hs : s.store.poolsOk = true) (hc : s.ctx t = some c)
  (hx : s.store.ofTrack t c.number = some x)
include hs hc hx

/-- R44, R133: the held pass of an open pass, where it is still held, is closed by the reset. -/
theorem closeForReset_closed {q : HeldPass} (hq : s.closeForReset.store.find c.number = some q) :
    q.state = .closed ∧ q.endReason = some .reset ∧ q.closeSite = some s.siteTime ∧ q.release = ⟨false, false⟩ ∧
      q.retention = s.attachedPorts := by
  obtain ⟨hxmem, hxn, hxt⟩ := (ofTrack_iff_mem hs).mp hx
  replace hq := (ofTrack_iff_find (closeForReset_poolsOk hs)).mpr ⟨hq, rfl⟩
  have own {o : TrackId} {p : HeldPass} (hp : s.store.ofTrack o c.number = some p) : o = t ∧ p = x := by
    obtain ⟨hpmem, hpn, hpt⟩ := (ofTrack_iff_mem hs).mp hp
    obtain rfl := eq_of_number hs hpmem hxmem (hpn.trans hxn.symm)
    exact ⟨hpt.symm.trans hxt, rfl⟩
  obtain ⟨n, horder | horder⟩ := closeForReset_two s t
  · rw [horder] at hq
    have hfirst := abandonPass_poolsOk (s := { s with choice := n }) (t := t) .reset hs
    obtain ⟨p, hp, hqp⟩ := abandonPass_heldBefore .reset hfirst _ _ _ hq
    obtain ⟨p0, hp0, -⟩ := abandonPass_heldBefore (s := { s with choice := n }) .reset hs _ _ _ hp
    obtain ⟨htrack, -⟩ := own hp0
    obtain ⟨r, hr, hclosed⟩ := abandonPass_held (s := { s with choice := n }) .reset hs hc hx
    rw [htrack] at hp hqp
    rw [hqp (ne_otherTrack t), Option.some.inj (hp.symm.trans hr)]
    exact hclosed
  · rw [horder] at hq
    have frame := abandonPass_frame { s with choice := n } (otherTrack t) .reset
    have hfirst := abandonPass_poolsOk (s := { s with choice := n }) (t := otherTrack t) .reset hs
    obtain ⟨p, hp, -⟩ := abandonPass_heldBefore .reset hfirst _ _ _ hq
    obtain ⟨p0, hp0, -⟩ := abandonPass_heldBefore (s := { s with choice := n }) .reset hs _ _ _ hp
    obtain ⟨htrack, -⟩ := own hp0
    rw [htrack] at hp hq
    obtain ⟨r, hr, hclosed⟩ := abandonPass_held .reset hfirst
      ((frame.ctx_eq (by simp [ne_otherTrack])).trans hc) hp
    rw [frame.siteTime_eq, attachedPorts_frame frame] at hclosed
    rw [Option.some.inj (hq.symm.trans hr)]
    exact hclosed

/-- R128, R133: an OPEN held pass stays held where a port is attached. -/
theorem closeForReset_held (hopen : x.state = .opened)
    (hports : s.attachedPorts.a = true ∨ s.attachedPorts.b = true) :
    (s.closeForReset.store.find c.number).isSome = true := by
  have found {q : HeldPass} (hq : s.closeForReset.store.ofTrack t c.number = some q) :
      (s.closeForReset.store.find c.number).isSome = true := by
    rw [((ofTrack_iff_find (closeForReset_poolsOk hs)).mp hq).1]
    rfl
  obtain ⟨n, horder | horder⟩ := closeForReset_two s t
  · obtain ⟨q, hq, -, -, -, hrelease, hretention⟩ := abandonPass_held (s := { s with choice := n }) .reset hs hc hx
    refine found (q := q) ?_
    rw [horder]
    exact abandonPass_elsewhere .reset (abandonPass_poolsOk (s := { s with choice := n }) .reset hs) (passIn_any _ _)
      (contextIn_any _ _) (.inl (ne_otherTrack t)) hq
      (releasable_of_retained hrelease (by rw [hretention]; exact hports))
  · have hstays := abandonPass_elsewhere (s := { s with choice := n }) (t := otherTrack t) .reset hs (passIn_any _ _)
      (contextIn_any _ _) (.inl (ne_otherTrack t)) hx (releasable_of_open (by simp [hopen]))
    have frame := abandonPass_frame { s with choice := n } (otherTrack t) .reset
    obtain ⟨q, hq, -⟩ := abandonPass_held .reset (abandonPass_poolsOk (s := { s with choice := n }) .reset hs)
      ((frame.ctx_eq (by simp [ne_otherTrack])).trans hc) hstays
    refine found (q := q) ?_
    rw [horder]
    exact hq

end OpenPass

/-- R127, R136: a pass of no open pass and of no matching context, that no reclaim picks, stays as it is. -/
theorem closeForReset_elsewhere (hs : s.store.poolsOk = true) {y : HeldPass} (hy : y ∈ s.store.passes)
    (hctx : ∀ t c, s.ctx t = some c → c.number ≠ y.number)
    (hcontext : ∀ t m, s.context t = some m → m.pass ≠ y.number) (hr : y.releasable = false) :
    y ∈ s.closeForReset.store.passes := by
  obtain ⟨n, o, horder⟩ := closeForReset_order s
  have hheld := (ofTrack_iff_mem hs).mpr ⟨hy, rfl, rfl⟩
  have frame := abandonPass_frame { s with choice := n } o .reset
  have hother : otherTrack o ≠ o := (ne_otherTrack o).symm
  have hfirst := abandonPass_elsewhere (s := { s with choice := n }) (t := o) (K := (· ≠ y.number)) .reset hs (hctx o)
    (hcontext o) (.inr (not_not.mpr rfl)) hheld hr
  have hsecond := abandonPass_elsewhere (t := otherTrack o) (K := (· ≠ y.number)) .reset
    (abandonPass_poolsOk (s := { s with choice := n }) (t := o) .reset hs)
    (fun c hc => hctx (otherTrack o) c ((frame.ctx_eq (by simp [hother])).symm.trans hc))
    (ContextIn.through (s := { s with choice := n }) (hcontext (otherTrack o)) frame (by simp [hother]))
    (.inr (not_not.mpr rfl)) hfirst hr
  rw [horder]
  exact (PassStore.ofTrack_some hsecond).1

end Closes

/-! ### The notices of the promotions (R175, R186) -/

/-- What a promotion may have put in a queue at a site time. -/
def Notice.OfPromotion (now : SiteTime) (n : Notice) : Prop :=
  n.sentAt = now ∧ ((∃ area g, n.body = .configPromoted area g) ∨
    (∃ source v, n.body = .faultChanged source v) ∨ ∃ k, n.body = .overflow k)

/-- A port's queue holds what promotions of a site time have sent. -/
def StationPort.HoldsPromotions (now : SiteTime) (x : StationPort) : Prop := ∀ n ∈ x.notices, n.OfPromotion now

section Promotions

variable {now : SiteTime}

theorem receive_holdsPromotions {x : StationPort} {n : Notice} (h : x.HoldsPromotions now) (hn : n.OfPromotion now) :
    (x.receive n).HoldsPromotions now := by
  unfold StationPort.receive
  split
  · intro m hm
    replace hm : m ∈ pushNotice n x.notices := hm
    rcases pushNotice_cases n x.notices with ⟨-, -, e⟩ | ⟨-, -, e⟩ | ⟨-, -, e⟩ | ⟨c, time, hlast, -, e⟩ <;> rw [e] at hm
    · exact (List.mem_append.mp hm).elim (h m) fun hm => List.mem_singleton.mp hm ▸ hn
    · exact (List.mem_append.mp hm).elim (h m) fun hm =>
        List.mem_singleton.mp hm ▸ ⟨hn.1, .inr (.inr ⟨1, rfl⟩)⟩
    · exact h m hm
    · exact (List.mem_append.mp hm).elim (fun hm => h m (List.mem_of_mem_dropLast hm)) fun hm =>
        List.mem_singleton.mp hm ▸ ⟨(h _ (List.mem_of_getLast? hlast)).1, .inr (.inr ⟨_, rfl⟩)⟩
  · exact h

theorem receiveAll_holdsPromotions {bs : List NoticeBody} (hbs : ∀ b ∈ bs, (⟨b, now⟩ : Notice).OfPromotion now)
    {x : StationPort} (h : x.HoldsPromotions now) :
    (bs.foldl (fun x b => x.receive ⟨b, now⟩) x).HoldsPromotions now := by
  induction bs generalizing x with
  | nil => exact h
  | cons b rest ih =>
    exact ih (fun b hb => hbs b (List.mem_cons_of_mem _ hb)) (receive_holdsPromotions h (hbs b List.mem_cons_self))

theorem heldNotices_ofPromotion {s : State} {t : TrackId} {b : NoticeBody} (hb : b ∈ s.heldNotices t) :
    (⟨b, now⟩ : Notice).OfPromotion now := by
  obtain ⟨i, -, rfl⟩ := List.mem_map.mp hb
  exact ⟨rfl, .inr (.inl ⟨_, _, rfl⟩)⟩

theorem driftNotices_ofPromotion {t : TrackId} {area : TrackArea} {before after : PerRail (Vector Bool 8)}
    {b : NoticeBody} (hb : b ∈ (driftNotices t area before after).flatten) :
    (⟨b, now⟩ : Notice).OfPromotion now := by
  simp only [driftNotices, List.flatten_cons, List.flatten_nil, List.append_nil, List.mem_append, List.mem_map] at hb
  obtain ⟨i, -, rfl⟩ | ⟨i, -, rfl⟩ := hb <;> exact ⟨rfl, .inr (.inl ⟨_, _, rfl⟩)⟩

/-- R186: a promotion of a track sends FAULT_CHANGED notices and CONFIG_PROMOTED. -/
theorem promoteTrack_holdsPromotions {s : State} (t : TrackId) (image : TrackArea) (g : Nat) {q : Port}
    (h : (s.port q).HoldsPromotions s.siteTime) :
    ((s.promoteTrack t image g).port q).HoldsPromotions s.siteTime := by
  have taken := takeImage_frame s t image g
  have hsplit : s.promoteTrack t image g = ((s.takeImage t image g).notifyTogether [s.heldNotices t]
      (driftNotices t image (s.strain.drifted.get t) ((s.takeImage t image g).strain.drifted.get t))).notify
        (.configPromoted (.track t) g) := rfl
  obtain ⟨bs, hperm, hport⟩ := notifyTogether_port (s.takeImage t image g) [s.heldNotices t]
    (driftNotices t image (s.strain.drifted.get t) ((s.takeImage t image g).strain.drifted.get t))
  have together := notifyTogether_frame (s.takeImage t image g) [s.heldNotices t]
    (driftNotices t image (s.strain.drifted.get t) ((s.takeImage t image g).strain.drifted.get t))
  have hbefore : ((s.takeImage t image g).port q).HoldsPromotions s.siteTime := by
    intro n hn
    refine h n ?_
    rwa [show ((s.takeImage t image g).port q).notices = (s.port q).notices from taken (.notices q) (by simp)] at hn
  rw [hsplit, port_notify, hport, together.siteTime_eq, taken.siteTime_eq]
  refine receive_holdsPromotions (receiveAll_holdsPromotions (fun b hb => ?_) hbefore) ⟨rfl, .inl ⟨_, _, rfl⟩⟩
  rcases List.mem_append.mp (hperm.mem_iff.mp hb) with hb | hb
  · exact heldNotices_ofPromotion (by simpa using hb)
  · exact driftNotices_ofPromotion hb

theorem promoteTrackIfReady_holdsPromotions {s : State} (t : TrackId) {q : Port}
    (h : (s.port q).HoldsPromotions s.siteTime) : ((s.promoteTrackIfReady t).port q).HoldsPromotions s.siteTime := by
  unfold State.promoteTrackIfReady
  split
  · exact h
  · split
    · exact promoteTrack_holdsPromotions t _ _ h
    · exact h

theorem promoteSiteIfReady_holdsPromotions {s : State} {q : Port} (h : (s.port q).HoldsPromotions s.siteTime) :
    ((s.promoteSiteIfReady).port q).HoldsPromotions s.siteTime := by
  unfold State.promoteSiteIfReady State.promoteSite
  split
  · exact h
  · split
    · rw [port_notify]
      exact receive_holdsPromotions h ⟨rfl, .inl ⟨_, _, rfl⟩⟩
    · exact h

theorem promoteReady_holdsPromotions {s : State} {q : Port} (h : (s.port q).HoldsPromotions s.siteTime) :
    (s.promoteReady.port q).HoldsPromotions s.siteTime := by
  have site := promoteSiteIfReady_frame s
  have first := promoteTrackIfReady_frame s.promoteSiteIfReady .t1
  have h1 := promoteSiteIfReady_holdsPromotions h
  rw [← site.siteTime_eq] at h1
  have h2 := promoteTrackIfReady_holdsPromotions .t1 h1
  rw [← first.siteTime_eq] at h2
  have h3 := promoteTrackIfReady_holdsPromotions .t2 h2
  rwa [first.siteTime_eq, site.siteTime_eq] at h3

/-- R186: with no area pending there is nothing to promote. -/
theorem promoteReady_idle {s : State} (hsite : s.config.site.committed = none)
    (htracks : ∀ t, (s.config.tracks.get t).committed = none) : s.promoteReady = s := by
  rw [State.promoteReady, promoteSiteIfReady_none hsite, promoteTrackIfReady_none (htracks .t1),
    promoteTrackIfReady_none (htracks .t2)]

end Promotions

/-! ### The images after a warm reset (R188) -/

section Images

variable (s : State)

theorem unstage_track (c : ConfigStore) (t : TrackId) :
    c.unstage.tracks.get t = { c.tracks.get t with staged := (c.tracks.get t).active } := by
  cases t <;> rfl

theorem beforeReady_area (t : TrackId) : s.beforeReady.config.tracks.get t = s.config.tracks.get t :=
  beforeReady_kept s (x := .area t) (by cases t <;> simp) (by cases t <;> simp) (by cases t <;> simp)

theorem beforeReady_site : s.beforeReady.config.site = s.config.site :=
  beforeReady_kept s (x := .site) (by simp) (by simp) (by simp)

/-- R44: after the closes every track is at rest. -/
theorem beforeReady_atRest (t : TrackId) : (s.beforeReady.section t).state.atRest = true := by
  cases hc : s.configured t with
  | true =>
    rw [(beforeReady_configured s hc).1]
    rfl
  | false =>
    obtain ⟨v, hv, hw⟩ := settleBoth_track s.resetBegun t
    have hsec : v.section t = s.resetBegun.section t := hv.section_eq (by simp [ne_otherTrack t])
    have hun : v.configured t = false := by rw [State.configured, hsec, ← State.configured, resetBegun_configured, hc]
    rw [(beforeReady_frame s).section_eq, hw.section_eq (by simp [ne_otherTrack t]), settle_unconfigured hun]
    exact (atRest_iff _).mpr (.inl (by simpa [State.configured] using hun))

/-- R44, R145: the pass store and the alarm list before the promotions are those after the closes. -/
theorem beforeReady_store : s.beforeReady.store = s.closeForReset.store :=
  Eq.trans (beforeReady_frame s .store (by simp))
    (Eq.trans (settleBoth_frame _ .store (by simp)) (clearAllIndications_frame _ .store (by simp)))

theorem beforeReady_alarms : s.beforeReady.alarms = s.closeForReset.alarms.warmReset :=
  congrArg AlarmUnit.warmReset
    (Eq.trans (settleBoth_frame _ .alarms (by simp)) (clearAllIndications_frame _ .alarms (by simp)))

/-- R175: the queues are emptied before the promotions. -/
theorem beforeReady_notices (q : Port) : (s.beforeReady.port q).notices = [] := by cases q <;> rfl

theorem beforeReady_siteTime : s.beforeReady.siteTime = s.siteTime :=
  beforeReady_kept s (x := .siteTime) (by simp) (by simp) (by simp)

theorem beforeReady_noOpenPass : s.beforeReady.noOpenPass = true :=
  (noOpenPass_iff _).mpr ⟨beforeReady_ctx s .t1, beforeReady_ctx s .t2⟩

theorem warmReset_track (t : TrackId) : s.warmReset.config.tracks.get t =
    { s.beforeReady.promoteReady.config.tracks.get t with
      staged := (s.beforeReady.promoteReady.config.tracks.get t).active } := unstage_track _ t

theorem warmReset_site : s.warmReset.config.site =
    { s.beforeReady.promoteReady.config.site with staged := s.beforeReady.promoteReady.config.site.active } := rfl

variable {s}

/-- R186, R188: a track's pending image is active after the reset; the image of one without is as it was. -/
theorem warmReset_track_pending {t : TrackId} {x : TrackArea × Nat} (h : (s.config.tracks.get t).committed = some x) :
    s.warmReset.config.tracks.get t = ⟨x.1, x.1, x.2, none⟩ := by
  rw [warmReset_track, promoteReady_config (image := x.1) (g := x.2) (by rw [beforeReady_area]; exact h)
    (beforeReady_atRest s t)]
  rfl

theorem warmReset_track_idle {t : TrackId} (h : (s.config.tracks.get t).committed = none) :
    s.warmReset.config.tracks.get t = { s.config.tracks.get t with staged := s.area t } := by
  rw [warmReset_track, (promoteReady_stays (.inl (by rw [beforeReady_area, h]))).config, beforeReady_area]
  rfl

theorem warmReset_site_pending {x : SiteArea × Nat} (h : s.config.site.committed = some x) :
    s.warmReset.config.site = ⟨x.1, x.1, x.2, none⟩ := by
  rw [warmReset_site, (promoteReady_site_promoted (image := x.1) (g := x.2) (by rw [beforeReady_site]; exact h)
    (beforeReady_noOpenPass s)).1]
  rfl

theorem warmReset_site_idle (h : s.config.site.committed = none) :
    s.warmReset.config.site = { s.config.site with staged := s.siteArea } := by
  rw [warmReset_site, (promoteReady_site_stays (.inl (by rw [beforeReady_site, h]))).1, beforeReady_site]
  rfl

end Images

/-! ### The statement -/

/-- Settles O15: the store and the alarm list through the closes, then the images and the queues through the
promotions. -/
theorem warmResetKeepsRecordsAndImages : Obligations.WarmResetKeepsRecordsAndImages := by
  intro now p bytes s hcompletes
  generalize hA : s.atTime now = A
  have after := warmReset_keeps A p ⟨.ok, []⟩
  have promoted : Frame (.transaction p :: .site :: .area .t1 :: .area .t2 :: .generation :: promoteParts)
      A.beforeReady (A.warmReset.putReply p ⟨.ok, []⟩) := .step (.one (promoteReady_frame _)) after
  have replied := putReply_frame A.warmReset p ⟨.ok, []⟩
  have hstore : (A.warmReset.putReply p ⟨.ok, []⟩).store = A.closeForReset.store :=
    Eq.trans (promoted .store (by simp)) (beforeReady_store A)
  have halarms : (A.warmReset.putReply p ⟨.ok, []⟩).alarms = A.closeForReset.alarms.warmReset :=
    Eq.trans (promoted .alarms (by simp)) (beforeReady_alarms A)
  have hgrows := closeForReset_alarms A
  have htrack (t : TrackId) : (A.warmReset.putReply p ⟨.ok, []⟩).config.tracks.get t =
      A.warmReset.config.tracks.get t :=
    replied (.area t) (by simp)
  have hsite : (A.warmReset.putReply p ⟨.ok, []⟩).config.site = A.warmReset.config.site := replied .site (by simp)
  have hnotices (q : Port) : ((A.warmReset.putReply p ⟨.ok, []⟩).port q).notices =
      (A.beforeReady.promoteReady.port q).notices := after (.notices q) (by simp)
  subst hA
  refine ⟨_, exec_reset hcompletes, fun h1 h2 => ?idle, ?listed, ?next, ?full, fun t ht => ?kept, fun hc => ?siteKept,
    fun t x ht => ?taken, fun x hc => ?siteTaken, fun t => ?staged, ?siteMark, ?siteStaged, fun hc ht q => ?quiet,
    fun q n hn => ?sent, fun hs t c x hc hx ht => ⟨fun q hq => ?closed, fun hopen hports => ?held⟩,
    fun hs y hy hctx hcontext hrelease hretention => ?others⟩
  case idle =>
    have hidle := closeForReset_idle (s := s.atTime now) h1 h2
    rw [hstore, halarms, hidle]
    exact ⟨rfl, rfl, rfl, rfl⟩
  case listed => rw [halarms]; exact hgrows.listed
  case next => rw [halarms]; exact hgrows.next
  case full => rw [halarms]; exact hgrows.listFull
  case kept =>
    have hstays : SameTrack t (s.atTime now).beforeReady (s.atTime now).beforeReady.promoteReady :=
      promoteReady_stays (.inl (by rw [beforeReady_area]; exact ht))
    have hactive := (htrack t).trans (warmReset_track_idle (s := s.atTime now) ht)
    refine ⟨(congrArg AreaStore.active hactive :), (congrArg AreaStore.activeGeneration hactive :), ?_, ?_⟩
    · exact Eq.trans (after (.zeros t) (by simp)) (Eq.trans (hstays.side (.zeros t) (by simp))
        (beforeReady_kept _ (x := .zeros t) (by simp) (by simp) (by simp)))
    · exact Eq.trans (after (.drifted t) (by simp)) (Eq.trans (hstays.side (.drifted t) (by simp))
        (beforeReady_kept _ (x := .drifted t) (by simp) (by simp) (by simp)))
  case siteKept =>
    have hactive := hsite.trans (warmReset_site_idle (s := s.atTime now) hc)
    exact ⟨(congrArg AreaStore.active hactive :), (congrArg AreaStore.activeGeneration hactive :)⟩
  case taken =>
    have hactive := (htrack t).trans (warmReset_track_pending (s := s.atTime now) ht)
    exact ⟨(congrArg AreaStore.active hactive :), (congrArg AreaStore.activeGeneration hactive :)⟩
  case siteTaken =>
    have hactive := hsite.trans (warmReset_site_pending (s := s.atTime now) hc)
    exact ⟨(congrArg AreaStore.active hactive :), (congrArg AreaStore.activeGeneration hactive :)⟩
  case staged =>
    rw [State.area, htrack]
    cases ht : (s.config.tracks.get t).committed with
    | none =>
      rw [warmReset_track_idle (s := s.atTime now) ht]
      exact ⟨ht, rfl⟩
    | some x =>
      rw [warmReset_track_pending (s := s.atTime now) ht]
      exact ⟨rfl, rfl⟩
  case siteMark =>
    rw [hsite]
    cases hc : s.config.site.committed with
    | none => rw [warmReset_site_idle (s := s.atTime now) hc]; exact hc
    | some x => rw [warmReset_site_pending (s := s.atTime now) hc]
  case siteStaged =>
    rw [State.siteArea, hsite]
    rfl
  case quiet =>
    rw [hnotices, promoteReady_idle (by rw [beforeReady_site]; exact hc)
      fun t => by rw [beforeReady_area]; exact ht t]
    exact beforeReady_notices _ q
  case sent =>
    rw [hnotices] at hn
    have hempty : ((s.atTime now).beforeReady.port q).HoldsPromotions (s.atTime now).beforeReady.siteTime := by
      intro m hm
      rw [beforeReady_notices] at hm
      nomatch hm
    have hsent := promoteReady_holdsPromotions hempty n hn
    rwa [beforeReady_siteTime] at hsent
  case closed =>
    rw [hstore] at hq
    exact closeForReset_closed (s := s.atTime now) hs hc ((ofTrack_iff_find hs).mpr ⟨hx, ht⟩) hq
  case held =>
    have hheld := (ofTrack_iff_find hs).mpr ⟨hx, ht⟩
    rw [hstore]
    exact closeForReset_held (s := s.atTime now) hs hc hheld
      ((openPassesOk_iff hs).mp hopen t c hc x hheld) hports
  case others =>
    rw [hstore]
    exact closeForReset_elsewhere (s := s.atTime now) hs hy hctx hcontext (releasable_of_retained hrelease hretention)

end Sys2Proof.Machine
end

section
/-! PROOFS. A pass that opens on a full store (R26, R129, R136, R139): one reclaim gives its header a slot, or it runs
unrecorded; with chunks free its first axle asks for no further room. -/

namespace Sys2Proof.Machine

open Sys2Proof

/-! ### What a reclaim picks (R136) -/

theorem HeldPass.fullyReleased_iff {p : HeldPass} : p.fullyReleased = true ↔
    p.state = .closed ∧ ∀ q, p.retention.get q = true → p.release.get q = true := by
  have ports : (∀ q, p.retention.get q = true → p.release.get q = true) ↔
      (p.retention.a = true → p.release.a = true) ∧ (p.retention.b = true → p.release.b = true) :=
    ⟨fun h => ⟨h .a, h .b⟩, fun h q => by cases q; exacts [h.1, h.2]⟩
  rw [ports]
  simp only [HeldPass.fullyReleased, Bool.and_eq_true, decide_eq_true_eq, Bool.or_eq_true, Bool.not_eq_true',
    ← Bool.not_eq_true, ← imp_iff_not_or, and_assoc]

theorem HeldPass.partlyReleased_iff {p : HeldPass} : p.partlyReleased = true ↔
    p.state = .closed ∧ ¬(p.state = .closed ∧ ∀ q, p.retention.get q = true → p.release.get q = true) ∧
      ∃ q, p.release.get q = true := by
  have ports : (∃ q, p.release.get q = true) ↔ p.release.a = true ∨ p.release.b = true :=
    ⟨fun ⟨q, h⟩ => by cases q; exacts [.inl h, .inr h], fun h => h.elim (⟨.a, ·⟩) (⟨.b, ·⟩)⟩
  rw [← HeldPass.fullyReleased_iff, ports]
  simp only [HeldPass.partlyReleased, Bool.and_eq_true, decide_eq_true_eq, Bool.or_eq_true, Bool.not_eq_true',
    ← Bool.not_eq_true]
  tauto

section Room

variable {s : State} {room : PassStore → Bool} {y : HeldPass} {tier2 : Bool}

theorem reclaimUntil_room (h : room s.store = true) (fuel : Nat) : State.reclaimUntil room fuel s = s := by
  cases fuel with
  | zero => rfl
  | succ fuel => rw [State.reclaimUntil, if_pos h]

/-- R136: where one reclaim makes room there is no second. -/
theorem makeRoom_once (hroom : room s.store = false) (hpick : s.store.pick = some (y, tier2))
    (hafter : room (s.store.drop y) = true) : s.makeRoom room = s.reclaim y tier2 := by
  unfold State.makeRoom
  cases hlen : s.store.passes.length with
  | zero =>
    have hmem := (PassStore.pick_some hpick).1
    rw [List.length_eq_zero_iff.mp hlen] at hmem
    nomatch hmem
  | succ fuel =>
    rw [State.reclaimUntil, if_neg (by simp [hroom]), hpick]
    exact reclaimUntil_room hafter fuel

theorem makeRoom_unable (hpick : s.store.pick = none) : s.makeRoom room = s := by
  unfold State.makeRoom
  cases s.store.passes.length with
  | zero => rfl
  | succ fuel =>
    rw [State.reclaimUntil, hpick]
    split <;> rfl

theorem hasSlot_drop {st : PassStore} (hy : y ∈ st.passes) (hfull : st.passes.length = 16) :
    hasSlot (st.drop y) = true := by
  refine decide_eq_true ?_
  have hlt : (st.drop y).passes.length < st.passes.length :=
    List.length_filter_lt_length_iff_exists.mpr ⟨y, hy, by simp⟩
  exact hlt.trans_eq hfull

/-- R129, R136: a header on a full store takes the slot of the pass that is reclaimed. -/
theorem requestHeader_once (h : HeldPass) (hfull : s.store.passes.length = 16) (hpick : s.store.pick = some (y, tier2)) :
    s.requestHeader h = ({ s.reclaim y tier2 with store :=
      { s.store.drop y with passes := (s.store.drop y).passes ++ [h] } }, true) := by
  have hslot := hasSlot_drop (PassStore.pick_some hpick).1 hfull
  have hroom : s.makeRoom hasSlot = s.reclaim y tier2 :=
    makeRoom_once (by rw [hasSlot, hfull]; rfl) hpick hslot
  unfold State.requestHeader
  rw [hroom]
  exact if_pos hslot

/-- R129: a header on a full store with nothing to reclaim is refused. -/
theorem requestHeader_unable (h : HeldPass) (hfull : s.store.passes.length = 16) (hpick : s.store.pick = none) :
    s.requestHeader h = (s, false) := by
  unfold State.requestHeader
  rw [makeRoom_unable hpick]
  exact if_neg (by rw [hasSlot, hfull]; decide)

/-- R136, R139: a port after a reclaim. -/
theorem reclaim_port (s : State) (y : HeldPass) (tier2 : Bool) (p : Port) : (s.reclaim y tier2).port p =
    { s.port p with view := (s.port p).view.afterReclaim y.number }.dropNotice
      (tier2 && y.retention.get p && !y.release.get p) ⟨.passDropped y.number, s.siteTime⟩ := by
  cases p <;> rfl

end Room

/-! ### Forming the pass (R26) -/

/-- R26: the state with the next number taken. -/
def State.numbered (s : State) : State :=
  { s with store := { s.store with nextPass := nextPassNumber s.store.nextPass } }

/-- R26, step 4: a pass formed under a number once its header has been asked for. -/
def State.formed (s : State) (t : TrackId) (n : Nat) (ev : PairEvent) (recorded : Bool) : State :=
  { s.setSection t { s.section t with
      ctx := some (s.newContext t n (directionFrom ev.pairEnd) ev.speed recorded), exitMarks := ⟨[], []⟩ } with
    alarms := s.alarms.passOpens t n }.notify (.passOpened n t (directionFrom ev.pairEnd) (!recorded))

section Forming

variable {s v : State} {t : TrackId} {ev : PairEvent} {recorded : Bool}

theorem formPass_asked (hnumber : s.store.find s.store.nextPass = none)
    (hasked : s.numbered.requestHeader (s.newHeader t s.store.nextPass (directionFrom ev.pairEnd) ev.time) =
      (v, recorded)) : s.formPass t ev = v.formed t s.store.nextPass ev recorded := by
  unfold State.formPass
  rw [takeNumber_eq hnumber]
  dsimp only
  have hasked' := hasked
  unfold State.numbered at hasked'
  rw [show ({ s with store := { s.store with nextPass := nextPassNumber s.store.nextPass } } : State).newHeader t
    s.store.nextPass (directionFrom ev.pairEnd) ev.time = s.newHeader t s.store.nextPass (directionFrom ev.pairEnd)
    ev.time from rfl, hasked']
  rfl

theorem formed_port (v : State) (n : Nat) (p : Port) : (v.formed t n ev recorded).port p =
    (v.port p).receive ⟨.passOpened n t (directionFrom ev.pairEnd) (!recorded), v.siteTime⟩ := port_notify _ _ p

theorem formed_ctx (v : State) (n : Nat) : (v.formed t n ev recorded).ctx t =
    some (v.newContext t n (directionFrom ev.pairEnd) ev.speed recorded) := by
  rw [State.ctx, State.formed, (notify_frame _ _).section_eq]
  exact congrArg SectionController.ctx (section_setSection v t _)

end Forming

/-! ### What follows (R26 to R28) -/

section Counting

variable {s : State} {t : TrackId} {c : PassContext} {ev : PairEvent}

theorem opened_ctx (h : ((s.leaveRest t).formPass t ev).ctx t = some c) : (s.opened t ev).ctx t = some c := by
  have hformed : ((s.openFormed t ev).writeSpeed t ev.speed).ctx t = some c := by
    rw [(writeSpeed_frame _ t _).ctx_eq, (openFormed_after s t ev).ctx_eq, State.ctx, enterOccupied_section]
    exact h
  rw [State.opened, State.ctx, startHold_section hformed]
  exact hformed

/-- R130: a request for an axle record takes no vehicle chunk. -/
theorem requestAxle_vehicleChunks (hfree : hasAxleChunk s.store = true) (e : AxleEntry) :
    (s.requestAxle t c e).1.store.freeVehicleChunks = s.store.freeVehicleChunks := by
  unfold State.requestAxle
  dsimp only
  rw [makeRoom_eq hfree]
  split
  · rfl
  · split
    · split <;> rfl
    · rfl

/-- R28, R130, R132: with chunks free the first axle of a pass is counted in without a reclaim. -/
theorem countIn_writes_first (hc : s.ctx t = some c) (hfirst : c.entryCount = 0)
    (haxles : 0 < s.store.freeAxleChunks) (hvehicles : 0 < s.store.freeVehicleChunks) :
    Writes t (· = c.number) [.append] s (s.countIn t ev) := by
  have hfree : hasAxleChunk s.store = true := decide_eq_true haxles
  unfold State.countIn
  rw [hc]
  dsimp only
  let d := c.countedIn ev.speed
  let e := AxleEntry.ofCountIn d.entryCount ev
  have joined : Writes t (· = c.number) [.append] s (s.joinQueue t d e) := .of_frame (joinQueue_frame s t d e)
  have asked : Writes t (· = c.number) [.append] (s.joinQueue t d e) ((s.joinQueue t d e).askRecord t d e).1 ∧
      ((s.joinQueue t d e).askRecord t d e).1.store.freeVehicleChunks = s.store.freeVehicleChunks := by
    unfold State.askRecord
    split
    · exact ⟨requestAxle_writes_free (K := (· = c.number)) (s := s.joinQueue t d e) (c := d) hfree rfl e,
        requestAxle_vehicleChunks (s := s.joinQueue t d e) hfree e⟩
    · exact ⟨.refl _ _ _ _, rfl⟩
  have hindex : e.index = 1 := congrArg (· + 1) hfirst
  have told := tellCounted_writes_first (t := t) (K := (· = c.number)) (F := [.append]) (pass := c.number)
    (s := ((s.joinQueue t d e).askRecord t d e).1) (decide_eq_true (by rw [asked.2]; exact hvehicles)) rfl hindex
    ((s.joinQueue t d e).askRecord t d e).2
  exact ((joined.trans asked.1).trans told).trans (.of_frame (startHold_frame _ t))

theorem tellCounted_unstored (s : State) (t : TrackId) (n : Nat) (e : AxleEntry) :
    Frame [.context t] s (s.tellCounted t n e false) := by
  unfold State.tellCounted
  dsimp only
  split
  · exact .refl _ s
  · rw [if_neg (by decide)]
    exact setContext_frame s t _

/-- R28, R129: an axle of a pass that runs unrecorded makes no record. -/
theorem countIn_unrecorded (hc : s.ctx t = some c) (hstoring : c.storing = false) :
    Frame [.control t, .context t] s (s.countIn t ev) ∧ (s.countIn t ev).ctx t = some (c.countedIn ev.speed) := by
  let d := c.countedIn ev.speed
  let e := AxleEntry.ofCountIn d.entryCount ev
  let told := (s.joinQueue t d e).tellCounted t c.number e false
  have hcount : s.countIn t ev = told.startHold t := by
    unfold State.countIn State.askRecord
    rw [hc]
    dsimp only
    rw [if_neg (by simpa [PassContext.countedIn] using hstoring)]
    rfl
  have frame := tellCounted_unstored (s.joinQueue t d e) t c.number e
  have hctx : told.ctx t = some d := by
    rw [frame.ctx_eq]
    exact congrArg SectionController.ctx (section_setSection s t _)
  rw [hcount]
  refine ⟨.step (.step (.one (joinQueue_frame s t d e)) frame) (startHold_frame _ t), ?_⟩
  rw [State.ctx, startHold_section hctx]
  exact hctx

end Counting

/-! ### Opening a pass on a full store -/

/-- R136, R139: a port at which a pass is dropped and the next one opened. -/
def StationPort.dropped (x : StationPort) (y : HeldPass) (tell : Bool) (now : SiteTime) (n : Notice) : StationPort :=
  ({ x with view := x.view.afterReclaim y.number }.dropNotice tell ⟨.passDropped y.number, now⟩).receive n

section Opening

variable {s : State} {t : TrackId} {y : HeldPass} {tier2 : Bool} (ev : PairEvent)
  (hnumber : s.store.find s.store.nextPass = none) (hfull : s.store.passes.length = 16)
include hnumber hfull

/-- R26, R129, R136: the pass that is reclaimed goes, and the pass that opens takes its place at the tail. -/
theorem openPass_reclaiming (hpick : s.store.pick = some (y, tier2)) (haxles : 0 < s.store.freeAxleChunks)
    (hvehicles : 0 < s.store.freeVehicleChunks) :
    (∃ x, (s.openPass t ev).store.passes = (s.store.passes.filter fun z => decide (z.number ≠ y.number)) ++ [x] ∧
      x.number = s.store.nextPass ∧ x.track = t ∧ x.state = .opened) ∧
    (∃ c, (s.openPass t ev).ctx t = some c ∧ c.number = s.store.nextPass ∧ c.recorded = true) ∧
    ∀ p, ((s.openPass t ev).port p).view = (s.port p).view.afterReclaim y.number ∧
      ∀ l, newestIsOverflow l = false →
        l <+: ((s.port p).dropped y (tier2 && y.retention.get p && !y.release.get p) s.siteTime
          ⟨.passOpened s.store.nextPass t (directionFrom ev.pairEnd) false, s.siteTime⟩).notices →
        l <+: ((s.openPass t ev).port p).notices := by
  let b := s.leaveRest t
  let h := b.newHeader t s.store.nextPass (directionFrom ev.pairEnd) ev.time
  let v : State := { b.numbered.reclaim y tier2 with store :=
    { b.numbered.store.drop y with passes := (b.numbered.store.drop y).passes ++ [h] } }
  have rest := leaveRest_frame s t
  have hstore : b.store = s.store := rest .store (by simp)
  have hports : b.ports = s.ports := rest.ports_eq
  have hasked : b.numbered.requestHeader (b.newHeader t b.store.nextPass (directionFrom ev.pairEnd) ev.time) =
      (v, true) := by
    rw [hstore]
    exact requestHeader_once (s := b.numbered) h (by rw [← hfull, ← hstore]; rfl) (by rw [← hpick, ← hstore]; rfl)
  have hform : b.formPass t ev = v.formed t s.store.nextPass ev true := by
    rw [← hstore]
    exact formPass_asked (by rwa [hstore]) hasked
  have hport (p : Port) : (b.formPass t ev).port p = (s.port p).dropped y
      (tier2 && y.retention.get p && !y.release.get p) s.siteTime
      ⟨.passOpened s.store.nextPass t (directionFrom ev.pairEnd) false, s.siteTime⟩ := by
    have htime : b.siteTime = s.siteTime := rest .siteTime (by simp)
    have hreclaimed := reclaim_port b.numbered y tier2 p
    rw [show b.numbered.port p = s.port p from congrArg (PerPort.get · p) hports,
      show b.numbered.siteTime = s.siteTime from htime] at hreclaimed
    rw [hform, formed_port, show v.port p = _ from hreclaimed, show v.siteTime = s.siteTime from htime]
    rfl
  have hctx := opened_ctx (s := s) (c := v.newContext t s.store.nextPass (directionFrom ev.pairEnd) ev.speed true)
    (by rw [show (s.leaveRest t).formPass t ev = _ from hform]; exact formed_ctx v _)
  have after := opened_frame s t ev
  have hopened : (s.opened t ev).store = v.store := by
    refine Eq.trans (after .store (by simp)) ?_
    rw [show (s.leaveRest t).formPass t ev = _ from hform]
    rfl
  have haxlesLeft : 0 < b.store.freeAxleChunks := by rwa [hstore]
  have hvehiclesLeft : 0 < b.store.freeVehicleChunks := by rwa [hstore]
  have writes := countIn_writes_first (ev := ev) hctx rfl
    (by rw [hopened]; exact Nat.lt_of_lt_of_le haxlesLeft (Nat.le_add_right _ _))
    (by rw [hopened]; exact Nat.lt_of_lt_of_le hvehiclesLeft (Nat.le_add_right _ _))
  rw [openPass_eq]
  refine ⟨?_, ?_, fun p => ⟨?_, fun l hl hprefix => ?_⟩⟩
  · obtain ⟨g, hg, hkeeps⟩ := writes.passes (by simp)
    have hpasses : (s.opened t ev).store.passes =
        (s.store.passes.filter fun z => decide (z.number ≠ y.number)) ++ [h] := by
      rw [hopened, ← hstore]
      rfl
    rw [hpasses, List.map_append] at hg
    have hothers : (s.store.passes.filter fun z => decide (z.number ≠ y.number)).map g =
        s.store.passes.filter fun z => decide (z.number ≠ y.number) := by
      refine (List.map_congr_left fun z hz => (hkeeps z).2 ?_).trans (List.map_id _)
      exact PassStore.find_none.mp hnumber z (List.mem_filter.mp hz).1
    rw [hothers] at hg
    have hheader := (hkeeps h).1
    exact ⟨g h, hg, (congrArg HeldPass.number hheader :), (congrArg HeldPass.track hheader :),
      (congrArg HeldPass.state hheader :)⟩
  · obtain ⟨storing, hsection⟩ := countIn_section ev hctx
    exact ⟨_, congrArg SectionController.ctx hsection, rfl, rfl⟩
  · refine (writes.views (by simp) p).trans (Eq.trans (after (.view p) (by simp)) ?_)
    show ((b.formPass t ev).port p).view = _
    rw [hport, StationPort.dropped, receive_view, StationPort.dropNotice]
    split
    · rw [receive_view]
    · rfl
  · refine (openPass_after s t ev).oldest_stay hl p ?_
    rw [show (s.leaveRest t).formPass t ev = b.formPass t ev from rfl, hport]
    exact hprefix

/-- R26, R129: with nothing to reclaim the pass runs unrecorded. -/
theorem openPass_unrecorded (hpick : s.store.pick = none) :
    (∃ c, (s.openPass t ev).ctx t = some c ∧ c.number = s.store.nextPass ∧ c.recorded = false ∧ c.storing = false) ∧
    (s.openPass t ev).store = { s.store with nextPass := (s.openPass t ev).store.nextPass } ∧
    ∀ p, ((s.openPass t ev).port p).view = (s.port p).view ∧
      ∀ l, newestIsOverflow l = false →
        l <+: ((s.port p).receive
          ⟨.passOpened s.store.nextPass t (directionFrom ev.pairEnd) true, s.siteTime⟩).notices →
        l <+: ((s.openPass t ev).port p).notices := by
  let b := s.leaveRest t
  have rest := leaveRest_frame s t
  have hstore : b.store = s.store := rest .store (by simp)
  have hports : b.ports = s.ports := rest.ports_eq
  have hform : b.formPass t ev = b.numbered.formed t s.store.nextPass ev false := by
    rw [← hstore]
    exact formPass_asked (by rwa [hstore]) (requestHeader_unable (s := b.numbered) _ (by rw [← hfull, ← hstore]; rfl)
      (by rw [← hpick, ← hstore]; rfl))
  have hport (p : Port) : (b.formPass t ev).port p = (s.port p).receive
      ⟨.passOpened s.store.nextPass t (directionFrom ev.pairEnd) true, s.siteTime⟩ := by
    rw [hform, formed_port, show b.numbered.port p = s.port p from congrArg (PerPort.get · p) hports,
      show b.numbered.siteTime = s.siteTime from rest .siteTime (by simp)]
    rfl
  have hctx := opened_ctx (s := s)
    (c := b.numbered.newContext t s.store.nextPass (directionFrom ev.pairEnd) ev.speed false)
    (by rw [show (s.leaveRest t).formPass t ev = _ from hform]; exact formed_ctx b.numbered _)
  have after := opened_frame s t ev
  obtain ⟨counted, hcounted⟩ := countIn_unrecorded (ev := ev) hctx rfl
  have whole : Frame [.control t, .pacer t, .scanners t, .context t] ((s.leaveRest t).formPass t ev) (s.openPass t ev) := by
    rw [openPass_eq]
    exact .step (.one after) counted
  refine ⟨⟨_, hcounted, rfl, rfl, rfl⟩, ?_, fun p => ⟨Eq.trans (whole (.view p) (by simp)) ?_, fun l hl hprefix => ?_⟩⟩
  · have hkept : (s.openPass t ev).store = b.numbered.store := by
      refine Eq.trans (whole .store (by simp)) ?_
      rw [show (s.leaveRest t).formPass t ev = _ from hform]
      rfl
    rw [hkept, ← hstore]
    rfl
  · show ((b.formPass t ev).port p).view = _
    rw [hport, receive_view]
  · refine (openPass_after s t ev).oldest_stay hl p ?_
    rw [show (s.leaveRest t).formPass t ev = b.formPass t ev from rfl, hport]
    exact hprefix

end Opening

/-! ### The notices of the port (R165, R166) -/

/-- A notice at an empty queue. -/
theorem receive_empty {x : StationPort} (n : Notice) (ha : x.attached = true) (hn : x.notices = []) :
    (x.receive n).notices = [n] := by
  rw [receive_short ha (by rw [hn]; rfl) (by rw [hn]; decide), hn]
  rfl

/-- R136: a drop that is not told leaves the opening as the first notice. -/
theorem dropped_untold {x : StationPort} (y : HeldPass) (n : Notice) (now : SiteTime) (ha : x.attached = true)
    (hn : x.notices = []) :
    (x.dropped y false now n).notices = [n] :=
  receive_empty (x := { x with view := x.view.afterReclaim y.number }) n ha hn

/-- R136: a drop that is told comes before the opening. -/
theorem dropped_told {x : StationPort} (y : HeldPass) (n : Notice) (now : SiteTime) (ha : x.attached = true)
    (hn : x.notices = []) :
    (x.dropped y true now n).notices = [⟨.passDropped y.number, now⟩, n] := by
  let viewed : StationPort := { x with view := x.view.afterReclaim y.number }
  have hfirst : (viewed.receive ⟨.passDropped y.number, now⟩).notices = [⟨.passDropped y.number, now⟩] :=
    receive_empty (x := viewed) _ ha hn
  have hattached : (viewed.receive ⟨.passDropped y.number, now⟩).attached = true := (receive_attached _ _).trans ha
  rw [StationPort.dropped, StationPort.dropNotice, if_pos rfl,
    receive_short hattached (by rw [hfirst]; rfl) (by rw [hfirst]; simp), hfirst]
  rfl

theorem head?_of_prefix {n : Notice} {l : List Notice} (h : [n] <+: l) : l.head? = some n := by
  obtain ⟨rest, rfl⟩ := h
  rfl

theorem take_two_of_prefix {m n : Notice} {l : List Notice} (h : [m, n] <+: l) : l.take 2 = [m, n] := by
  obtain ⟨rest, rfl⟩ := h
  rfl

/-- Settles O52, by what the store can reclaim for the header. -/
theorem fullStoreReclaimsOrRunsUnrecorded : Obligations.FullStoreReclaimsOrRunsUnrecorded := by
  intro now stamp first input s t e h hrest hctx hcount hqueue hs hfull hnumber haxles hvehicles released partly dropped
    opened
  let a := s.afterRise now stamp t e .inner
  let ev := (s.atTime now).inwardEvent t e first stamp
  let u := a.openPass t ev
  have hopens := confirmDue_opens (opensNext_of_completesWait h hrest hctx)
  have hoccupied : (u.section t).state = .occupied ∧ (u.section t).queue.length = 1 := by
    obtain ⟨c, late, -, hsection⟩ := openPass_section_of a t ev
    rw [hsection]
    exact ⟨rfl, by rw [show (a.section t).queue = [] from hqueue]; rfl⟩
  have hexec : exec (.debounceConfirm now input) s = .next u := by
    have hrun : (s.atTime now).confirmDue t e .inner = u := hopens
    rw [exec_debounceConfirm_orAsBefore h.1, orAsBefore_opens (by rw [hrun, hoccupied.1]; rfl), hrun]
  have whole : Frame (openParts t) a u := openPass_openParts a t ev
  have hattached (p : Port) : (s.port p).attached = (u.port p).attached := (whole (.attached p) (by simp)).symm
  have reclaims {y : HeldPass} {tier2 : Bool} (hpick : s.store.pick = some (y, tier2)) :=
    openPass_reclaiming (s := a) (t := t) (y := y) (tier2 := tier2) ev hnumber hfull hpick haxles hvehicles
  have drops {y : HeldPass} {tier2 : Bool} (hpick : s.store.pick = some (y, tier2)) : dropped y u := by
    obtain ⟨⟨x, hpasses, hn, ht, hstate⟩, ⟨c, hc, hcn, hrecorded⟩, hports⟩ := reclaims hpick
    refine ⟨x, c, hpasses, hn, ht, hstate, hc, hcn, hrecorded, fun p => ⟨fun n part offset hview => ?_, hattached p⟩⟩
    have hviewed : (a.port p).view = .names n part offset := hview
    rw [(hports p).1, hviewed, hview]
    rfl
  have notices {y : HeldPass} {tier2 : Bool} (hpick : s.store.pick = some (y, tier2)) (p : Port)
      (ha : (s.port p).attached = true) (hn : (s.port p).notices = []) :
      ((tier2 && y.retention.get p && !y.release.get p) = false → (u.port p).notices.head? = some (opened false)) ∧
      ((tier2 && y.retention.get p && !y.release.get p) = true →
        (u.port p).notices.take 2 = [⟨.passDropped y.number, now⟩, opened false]) := by
    obtain ⟨-, -, hports⟩ := reclaims hpick
    refine ⟨fun huntold => head?_of_prefix ((hports p).2 _ rfl ?_),
      fun htold => take_two_of_prefix ((hports p).2 _ rfl ?_)⟩
    · rw [huntold, dropped_untold (x := a.port p) _ _ _ ha hn]
      exact List.prefix_rfl
    · rw [htold, dropped_told (x := a.port p) _ _ _ ha hn]
      exact List.prefix_rfl
  refine ⟨u, hexec, fun before y after hlist hy hbefore => ?_, fun before y after hlist hy hnone hbefore => ?_,
    fun hnone => ?_⟩
  · have hfind : s.store.passes.find? HeldPass.fullyReleased = some y := by
      rw [hlist, List.find?_eq_some_iff_append]
      refine ⟨HeldPass.fullyReleased_iff.mpr hy, before, after, rfl, fun z hz => ?_⟩
      rw [Bool.not_eq_true', ← Bool.not_eq_true, HeldPass.fullyReleased_iff]
      exact hbefore z hz
    have hpick : s.store.pick = some (y, false) := by rw [PassStore.pick, hfind]
    exact ⟨drops hpick, fun p ha hn => (notices hpick p ha hn).1 rfl⟩
  · have hfull' : s.store.passes.find? HeldPass.fullyReleased = none :=
      List.find?_eq_none.mpr fun z hz hfully => hnone z hz (HeldPass.fullyReleased_iff.mp hfully)
    have hfind : s.store.passes.find? HeldPass.partlyReleased = some y := by
      rw [hlist, List.find?_eq_some_iff_append]
      refine ⟨HeldPass.partlyReleased_iff.mpr hy, before, after, rfl, fun z hz => ?_⟩
      rw [Bool.not_eq_true', ← Bool.not_eq_true, HeldPass.partlyReleased_iff]
      exact hbefore z hz
    have hpick : s.store.pick = some (y, true) := by rw [PassStore.pick, hfull', hfind]
    refine ⟨drops hpick, fun p ha hn => ⟨fun hretention hrelease => (notices hpick p ha hn).2 ?_,
      fun hgone => (notices hpick p ha hn).1 ?_⟩⟩
    · rw [hretention, hrelease]
      rfl
    · rcases hgone with hgone | hgone <;> simp [hgone]
  · have hpick : s.store.pick = none := by
      have hfully : s.store.passes.find? HeldPass.fullyReleased = none :=
        List.find?_eq_none.mpr fun z hz hfully => (hnone z hz).1 (HeldPass.fullyReleased_iff.mp hfully)
      have hpartly : s.store.passes.find? HeldPass.partlyReleased = none :=
        List.find?_eq_none.mpr fun z hz hpartly => (hnone z hz).2 (HeldPass.partlyReleased_iff.mp hpartly)
      rw [PassStore.pick, hfully, hpartly]
    obtain ⟨⟨c, hc, hcn, hrecorded, hstoring⟩, hstore, hports⟩ :=
      openPass_unrecorded (s := a) (t := t) ev hnumber hfull hpick
    refine ⟨c, hc, hcn, hrecorded, hstoring, hstore, hoccupied.1, hoccupied.2, fun p => ⟨(hports p).1, fun ha hn => ?_⟩⟩
    refine head?_of_prefix ((hports p).2 _ rfl ?_)
    rw [receive_empty (x := a.port p) _ ha hn]
    exact List.prefix_rfl

end Sys2Proof.Machine
end

section
/-! PROOFS. What handling the edges of a track's sensors comes to (R5, R6, R10 to R14): changes of its sensors and
pair machines, pair events and sensor activity that its section controller takes, and notices. -/

namespace Sys2Proof.Machine

open Sys2Proof

-- One proof after another: elaborated side by side they ask for more threads than check.sh allows.
set_option Elab.async false

/-- `u` follows from `s` by what handling the edges of a track consists of. -/
inductive EdgeRun (t : TrackId) : State → State → Prop where
  | inputs {s u : State} (h : Frame [.sensors t, .pairs t, .notices .a, .notices .b] s u) : EdgeRun t s u
  | event (s : State) (ev : PairEvent) : EdgeRun t s (s.takeEvent t ev)
  | activity (s : State) (e : SectionEnd) (x : Edge) : EdgeRun t s (s.sensorActivity t e x)
  | trans {s u v : State} (h : EdgeRun t s u) (k : EdgeRun t u v) : EdgeRun t s v

theorem EdgeRun.refl (t : TrackId) (s : State) : EdgeRun t s s := .inputs (.refl _ s)

section Edges

variable (s : State) (t : TrackId) (e : SectionEnd) (x : Role) (stamp : SiteTime)

/-! ### Pair machines (R10 to R14) -/

theorem setMachine_run (m : PairState) : EdgeRun t s (s.setMachine t e m) := .inputs (.one (setMachine_frame s t e m))

theorem singleCount_run : EdgeRun t s (s.singleCount t e x stamp) := by
  have marked : EdgeRun t s (s.markSuspect t e (partner x)) := .inputs (.one (markSuspect_frame s t e _))
  unfold State.singleCount
  dsimp only
  split
  · exact marked
  · exact marked.trans (.event _ _)

theorem endWait_run : EdgeRun t s (s.endWait t e x stamp) :=
  (setMachine_run s t e _).trans (singleCount_run _ t e x stamp)

theorem expirePassed_run : EdgeRun t s (s.expirePassed t e stamp) := by
  unfold State.expirePassed
  split
  · exact .refl t s
  · split
    · exact endWait_run s t e _ _
    · exact .refl t s

theorem firstRise_run : EdgeRun t s (s.firstRise t e x stamp) := by
  unfold State.firstRise
  split
  · exact singleCount_run s t e x stamp
  · exact setMachine_run s t e _

theorem restartWait_run (first : SiteTime) : EdgeRun t s (s.restartWait t e x first stamp) := by
  unfold State.restartWait
  dsimp only
  split
  · exact (singleCount_run s t e x first).trans (setMachine_run _ t e _)
  · exact setMachine_run s t e _

theorem offerRise_run : EdgeRun t s (s.offerRise t e x stamp) := by
  unfold State.offerRise
  refine (expirePassed_run s t e stamp).trans ?_
  dsimp only
  split
  · exact firstRise_run _ t e x stamp
  · split
    · exact restartWait_run _ t e x stamp _
    · exact (setMachine_run _ t e _).trans (.event _ _)

theorem partnerHeld_run : EdgeRun t s (s.partnerHeld t e x) := by
  unfold State.partnerHeld
  split
  · exact .refl t s
  · split
    · exact endWait_run s t e _ _
    · exact .refl t s

/-! ### Edges (R5, R6, R8) -/

theorem takeEdge_run (y : Edge) : EdgeRun t s (s.takeEdge t e y) := by
  have taken (z : Sensor) : EdgeRun t s ((s.setSensor t e y.role z).sensorActivity t e y) :=
    .trans (.inputs (.one (setSensor_frame s t e _ z))) (.activity _ e y)
  unfold State.takeEdge
  dsimp only
  split
  · split
    · exact .refl t s
    · exact .inputs (.one (leaveHeld_frame s t e _))
  · split
    · exact (taken _).trans (offerRise_run _ t e _ _)
    · exact taken _

theorem release_run (fuel : Nat) (s : State) : EdgeRun t s (State.release t e fuel s) := by
  induction fuel generalizing s with
  | zero => exact .refl t s
  | succ fuel ih =>
    unfold State.release
    split
    · exact .refl t s
    · split
      · exact .refl t s
      · exact (EdgeRun.trans (.inputs (.one (setPair_frame s t e _))) (takeEdge_run _ t e _)).trans (ih _)

theorem confirmEdge_run : EdgeRun t s (s.confirmEdge t e x stamp) := by
  unfold State.confirmEdge
  exact .trans (.inputs (.step (.one (setSensor_frame s t e x _)) (setPair_frame _ t e _))) (release_run t e _ _)

theorem rawChange_run (level : Bool) : EdgeRun t s (s.rawChange t e x level) := by
  have filtered (f : InputFilter) : EdgeRun t s (s.setFilter t e x f) := .inputs (.one (setFilter_frame s t e x f))
  unfold State.rawChange
  dsimp only
  split
  · exact (filtered _).trans (confirmEdge_run _ t e x _)
  · exact (filtered _).trans (release_run t e _ _)
  · exact (filtered _).trans (release_run t e _ _)
  · exact filtered _

theorem takeRawChange_run (level : Bool) : EdgeRun t s (s.takeRawChange t e x level) := by
  unfold State.takeRawChange
  dsimp only
  split
  · exact (rawChange_run s t e .outer _).trans (rawChange_run _ t e x level)
  · exact rawChange_run s t e x level

theorem confirmDue_run : EdgeRun t s (s.confirmDue t e x) := by
  unfold State.confirmDue
  split
  · exact .refl t s
  · split
    · exact confirmEdge_run s t e x _
    · exact .refl t s

end Edges

end Sys2Proof.Machine
end

section
/-! PROOFS. Every step keeps the pacers in order (R45, R48): what each operation on a pacer leaves of it, which
operations of the section controller start and stop it, and that every other leaves it and whether its track's state
is one in which it runs. -/

namespace Sys2Proof.Machine

open Sys2Proof

-- One proof after another: elaborated side by side they ask for more threads than check.sh allows.
set_option Elab.async false

/-! ### A pacer in order -/

theorem okIn_iff (p : Pacer) (state : TrackState) : p.okIn state = true ↔
    p.running = state.pacing ∧ (p.running = false → p.acc = 0 ∧ p.fresh = false) := by
  rw [Pacer.okIn]
  cases p.running <;> simp

section Pacer

variable {p : Pacer} {state : TrackState}

/-- R48: a stopped pacer is in order where none runs. -/
theorem halt_okIn (p : Pacer) (h : state.pacing = false) : p.halt.okIn state = true :=
  (okIn_iff _ _).mpr ⟨h.symm, fun _ => ⟨rfl, rfl⟩⟩

theorem warmReset_okIn (p : Pacer) (h : state.pacing = false) : p.warmReset.okIn state = true :=
  (okIn_iff _ _).mpr ⟨h.symm, fun _ => ⟨rfl, rfl⟩⟩

/-- R48: a pacer that runs or is started is in order where it is to run. -/
theorem ensureRunning_okIn (p : Pacer) (now : SiteTime) (h : state.pacing = true) :
    (p.ensureRunning now).okIn state = true := by
  have hrunning : (p.ensureRunning now).running = true := by
    unfold Pacer.ensureRunning
    split
    · assumption
    · rfl
  exact (okIn_iff _ _).mpr ⟨hrunning.trans h.symm, fun hstopped => nomatch hrunning.symm.trans hstopped⟩

/-- R47: a speed write leaves a pacer in order. -/
theorem write_okIn (increment : BitVec 32) (h : p.okIn state = true) : (p.write increment).okIn state = true := by
  unfold Pacer.write
  split <;> exact h

/-- A pacer that runs stays in order while it runs. -/
theorem okIn_of_running {q : Pacer} (h : p.okIn state = true) (hp : p.running = true) (hq : q.running = true) :
    q.okIn state = true :=
  (okIn_iff _ _).mpr
    ⟨hq.trans (hp.symm.trans ((okIn_iff _ _).mp h).1), fun hstopped => nomatch hq.symm.trans hstopped⟩

end Pacer

/-- R45: the pacer of a track is in order. -/
def State.Paced (s : State) (t : TrackId) : Prop := (s.pacer t).okIn (s.section t).state = true

theorem pacersOk_iff (s : State) : s.pacersOk = true ↔ ∀ t, s.Paced t := by
  rw [State.pacersOk, Bool.and_eq_true]
  refine ⟨fun ⟨h1, h2⟩ t => ?_, fun h => ⟨h .t1, h .t2⟩⟩
  cases t
  · exact h1
  · exact h2

/-- Of two states, the second keeps the pacers in order that are in order in the first. -/
def KeepsPace (s u : State) : Prop := ∀ t, s.Paced t → u.Paced t

section KeepsPace

variable {s u v : State} {t : TrackId} {P : List Part}

theorem KeepsPace.refl (s : State) : KeepsPace s s := fun _ h => h

theorem KeepsPace.trans (h : KeepsPace s u) (k : KeepsPace u v) : KeepsPace s v := fun t hs => k t (h t hs)

theorem KeepsPace.of_pacing (h : Frame P s u)
    (hstate : ∀ t, (u.section t).state.pacing = (s.section t).state.pacing)
    (hP : ∀ t, Part.pacer t ∉ P := by simp) : KeepsPace s u := by
  intro t hs
  have hpacer : u.pacer t = s.pacer t := h (.pacer t) (hP t)
  rw [State.Paced, okIn_iff] at hs ⊢
  rwa [hpacer, hstate]

/-- What leaves both pacers and sections. -/
theorem KeepsPace.of_frame (h : Frame P s u) (hcontrol : ∀ t, Part.control t ∉ P := by simp)
    (hpacer : ∀ t, Part.pacer t ∉ P := by simp) : KeepsPace s u :=
  .of_pacing h (fun t => by rw [h.section_eq (hcontrol t)]) hpacer

/-- What happens on one track. -/
theorem KeepsPace.of_track (t : TrackId) (h : Frame P s u) (own : s.Paced t → u.Paced t)
    (hcontrol : ∀ o, o ≠ t → Part.control o ∉ P := by simp) (hpacer : ∀ o, o ≠ t → Part.pacer o ∉ P := by simp) :
    KeepsPace s u := by
  intro o ho
  by_cases hot : o = t
  · exact hot ▸ own (hot ▸ ho)
  · have hp : u.pacer o = s.pacer o := h (.pacer o) (hpacer o hot)
    rwa [State.Paced, hp, h.section_eq (hcontrol o hot)]

/-- A change of one track's section that leaves its pacer, and whether it is to run. -/
theorem KeepsPace.of_section (t : TrackId) (h : Frame P s u)
    (hstate : (u.section t).state.pacing = (s.section t).state.pacing)
    (hcontrol : ∀ o, o ≠ t → Part.control o ∉ P := by simp) (hpacer : ∀ o, Part.pacer o ∉ P := by simp) :
    KeepsPace s u := by
  refine .of_pacing h (fun o => ?_) hpacer
  by_cases hot : o = t
  · exact hot ▸ hstate
  · rw [h.section_eq (hcontrol o hot)]

/-- What leaves the sections' states. -/
theorem Retouched.keepsPace (h : Retouched s u) (k : Frame P s u) (hP : ∀ t, Part.pacer t ∉ P := by simp) :
    KeepsPace s u := .of_pacing k (fun t => by rw [(h.sections t).state]) hP

end KeepsPace

/-! ### Starting, stopping and writing (R47, R48) -/

section Operations

variable {s : State} {t : TrackId} {c : PassContext}

theorem stopPacer_paced (h : (s.section t).state.pacing = false) : (s.stopPacer t).Paced t := by
  rw [State.Paced, (stopPacer_frame s t).section_eq, State.stopPacer, pacer_setPacer]
  exact halt_okIn _ h

theorem startPacer_paced (h : (s.section t).state.pacing = true) : (s.startPacer t).Paced t := by
  rw [State.Paced, (startPacer_frame s t).section_eq, State.startPacer, pacer_setPacer]
  exact ensureRunning_okIn _ _ h

theorem setPacer_keepsPace {p : Pacer}
    (h : (s.pacer t).okIn (s.section t).state = true → p.okIn (s.section t).state = true) :
    KeepsPace s (s.setPacer t p) := by
  refine .of_track t (setPacer_frame s t p) fun hs => ?_
  rw [State.Paced, (setPacer_frame s t p).section_eq, pacer_setPacer]
  exact h hs

theorem writeSpeed_keepsPace (s : State) (t : TrackId) (v : Nat) : KeepsPace s (s.writeSpeed t v) :=
  setPacer_keepsPace (write_okIn _)

/-! ### Sections (R26 to R42) -/

theorem setSection_keepsPace {d : SectionController} (h : d.state.pacing = (s.section t).state.pacing) :
    KeepsPace s (s.setSection t d) := .of_section t (setSection_frame s t d) (by rw [section_setSection, h])

theorem startHold_keepsPace (s : State) (t : TrackId) : KeepsPace s (s.startHold t) := by
  unfold State.startHold
  split
  · exact .refl s
  · exact setSection_keepsPace rfl

theorem takeSpeed_keepsPace (s : State) (t : TrackId) (ev : PairEvent) : KeepsPace s (s.takeSpeed t ev) := by
  unfold State.takeSpeed
  split
  · exact .refl s
  · split
    · refine .trans (setSection_keepsPace ?_) (writeSpeed_keepsPace _ t _)
      rfl
    · exact .refl s

theorem countIn_keepsPace (s : State) (t : TrackId) (ev : PairEvent) : KeepsPace s (s.countIn t ev) := by
  refine .of_section t (countIn_frame s t ev) ?_
  cases hc : s.ctx t with
  | none => rw [State.countIn, hc]
  | some c =>
    obtain ⟨storing, hsec⟩ := countIn_section ev hc
    rw [hsec]

/-- R29: whether the section empties or not, the pacer runs on. -/
theorem countOut_keepsPace (ev : PairEvent) (h : (s.section t).state = .occupied) : KeepsPace s (s.countOut t ev) := by
  refine .of_section t (countOut_frame s t ev) ?_
  cases hc : s.ctx t with
  | none => rw [State.countOut, hc]
  | some c =>
    obtain ⟨rises, hsec⟩ := countOut_section ev hc
    rw [hsec]
    split
    · rw [h]
      rfl
    · rfl

theorem underflow_keepsPace (s : State) (t : TrackId) : KeepsPace s (s.underflow t) :=
  .of_section t (underflow_frame s t) (by rw [underflow_section])

theorem closePass_keepsPace (s : State) (t : TrackId) (reason : EndReason) : KeepsPace s (s.closePass t reason) := by
  refine .of_section t (closePass_frame s t reason) ?_
  cases hc : s.ctx t with
  | none => rw [closePass_none reason hc]
  | some c => rw [closePass_section reason hc]

theorem abandonPass_keepsPace (s : State) (t : TrackId) (reason : EndReason) :
    KeepsPace s (s.abandonPass t reason) :=
  .of_section t (abandonPass_frame s t reason) (by rw [abandonPass_section])

theorem leaveIdle_keepsPace (s : State) (t : TrackId) : KeepsPace s (s.leaveIdle t) :=
  .of_section t (leaveIdle_frame s t) (by rw [leaveIdle_section])

theorem enterOccupied_paced (s : State) (t : TrackId) : (s.enterOccupied t).Paced t := by
  refine startPacer_paced ?_
  rw [section_setSection]
  rfl

theorem resume_paced (s : State) (t : TrackId) : (s.resume t).Paced t :=
  startHold_keepsPace _ t t (enterOccupied_paced s t)

theorem drain_paced (s : State) (t : TrackId) (n : Nat) : (s.drain t n).Paced t := by
  refine stopPacer_paced ?_
  rw [section_setSection]
  rfl

theorem rest_paced (s : State) (t : TrackId) (withDelay : Bool) : (s.rest t withDelay).Paced t := by
  refine stopPacer_paced ?_
  rw [(startZeroTimer_frame _ t).section_eq, section_setSection]
  rfl

theorem openPass_paced (s : State) (t : TrackId) (ev : PairEvent) : (s.openPass t ev).Paced t := by
  obtain ⟨c, late, -, hsec⟩ := openPass_section_of s t ev
  rw [State.Paced, hsec, openPass_pacer]
  exact write_okIn _ (ensureRunning_okIn _ _ rfl)

/-! ### Taking events (R18, R19) -/

theorem promoteSiteIfReady_keepsPace (s : State) : KeepsPace s s.promoteSiteIfReady :=
  .of_frame (promoteSiteIfReady_frame s)

theorem forceOut_paced (s : State) (t : TrackId) (reason : EndReason) (n : Nat) : (s.forceOut t reason n).Paced t :=
  promoteSiteIfReady_keepsPace _ t (drain_paced _ t n)

/-- R27 to R29, R36, R37: an OCCUPIED track takes an event. -/
theorem takeOccupied_paced (ev : PairEvent) (hc : s.ctx t = some c) (hstate : (s.section t).state = .occupied)
    (h : s.Paced t) : (s.takeOccupied t c ev).Paced t := by
  have taken : (s.takeSpeed t ev).Paced t := takeSpeed_keepsPace s t ev t h
  rw [State.takeOccupied]
  dsimp only
  split
  · split
    · split
      · exact countIn_keepsPace _ t ev t taken
      · exact forceOut_paced _ t _ _
    · exact forceOut_paced _ t _ _
  · split
    · exact countOut_keepsPace ev (by rw [takeSpeed_section ev hc]; exact hstate) t taken
    · exact forceOut_paced _ t _ _

/-- R34, R35: a CLEARING track takes an event. -/
theorem takeClearing_paced (c : PassContext) (ev : PairEvent) (h : s.Paced t) : (s.takeClearing t c ev).Paced t := by
  rw [State.takeClearing]
  split
  · split
    · have resumed := takeSpeed_keepsPace _ t ev t (enterOccupied_paced s t)
      exact countIn_keepsPace _ t ev t (startHold_keepsPace _ t t resumed)
    · exact openPass_paced _ t ev
  · have late : KeepsPace s (s.lateCountOut t c ev) := by
      unfold State.lateCountOut
      split
      · exact setSection_keepsPace rfl
      · exact .refl s
    exact underflow_keepsPace _ t t (late t h)

theorem takeEvent_keepsPace (s : State) (t : TrackId) (ev : PairEvent) : KeepsPace s (s.takeEvent t ev) := by
  refine .of_track t (takeEvent_frame s t ev) fun h => ?_
  have atRest : (if ev.inward then s.openPass t ev else s.underflow t).Paced t := by
    split
    · exact openPass_paced s t ev
    · exact underflow_keepsPace s t t h
  unfold State.takeEvent
  split
  case h_1 => exact h
  case h_2 => exact h
  case h_3 => exact atRest
  case h_4 => exact atRest
  case h_5 =>
    refine setSection_keepsPace ?_ t h
    rfl
  case h_6 =>
    split
    · exact h
    · exact takeClearing_paced _ ev h
  case h_7 =>
    split
    · exact h
    · next c hc =>
      have resumed := resume_section hc
      exact takeOccupied_paced ev ((congrArg SectionController.ctx resumed).trans hc)
        (congrArg SectionController.state resumed) (resume_paced s t)
  case h_8 hstate =>
    split
    · exact h
    · next c hc => exact takeOccupied_paced ev hc hstate h

/-! ### Edges -/

theorem sensorActivity_keepsPace (s : State) (t : TrackId) (e : SectionEnd) (x : Edge) :
    KeepsPace s (s.sensorActivity t e x) := by
  unfold State.sensorActivity
  refine ((markExit_retouched s t e x).keepsPace (markExit_frame s t e x)).trans ?_
  dsimp only
  split
  · exact setSection_keepsPace rfl
  · exact .refl _

theorem EdgeRun.keepsPace {u : State} (h : EdgeRun t s u) : KeepsPace s u := by
  induction h with
  | inputs h => exact .of_frame h
  | event s ev => exact takeEvent_keepsPace s t ev
  | activity s e x => exact sensorActivity_keepsPace s t e x
  | trans _ _ ih ik => exact ih.trans ik

/-- R187: an input taken as well by what a COMMIT has kept. -/
theorem orAsBefore_keepsPace (s : State) (t : TrackId) (run : State → State) (h : ∀ u, EdgeRun t u (run u)) :
    KeepsPace s (s.orAsBefore t run) := by
  rcases orAsBefore_cases s t run with ⟨f, hrun⟩ | hrun | ⟨x, -, -, hrun⟩ <;> rw [hrun]
  · exact (h s).keepsPace.trans ((changeCoinciding_retouched _ t f).keepsPace (changeCoinciding_frame _ t f))
  · exact (h s).keepsPace
  · exact ((KeepsPace.of_frame (inputsBefore_frame s t x)).trans (h _).keepsPace).trans
      (.of_frame (inputsOf_frame _ _ t))

/-! ### Waking, promoting and coming to rest (R23 to R25, R43, R186) -/

theorem closeShutters_keepsPace (s : State) (t : TrackId) : KeepsPace s (s.closeShutters t) :=
  .of_frame (closeShutters_frame s t)

theorem wakeTrack_keepsPace (s : State) (t : TrackId) : KeepsPace s (s.wakeTrack t) := by
  unfold State.wakeTrack
  dsimp only
  split
  case h_1 hstate =>
    have left : KeepsPace s ((s.keepLateClose t).leaveIdle t) :=
      .trans (u := s.keepLateClose t) (setSection_keepsPace rfl) (leaveIdle_keepsPace _ t)
    refine (left.trans (setSection_keepsPace ?_)).trans (.of_frame (openShutters_frame _ t))
    rw [leaveIdle_section, State.keepLateClose, section_setSection, hstate]
    rfl
  case h_2 => exact setSection_keepsPace rfl
  all_goals exact .refl s

theorem configureTrack_keepsPace (s : State) (t : TrackId) : KeepsPace s (s.configureTrack t) := by
  by_cases hstate : (s.section t).state = .unconfigured
  · refine .of_section t (configureTrack_frame s t) ?_
    rw [(configureTrack_unconfigured hstate).1, hstate]
    rfl
  · rw [configureTrack_configured hstate]
    exact .refl s

theorem promoteTrackIfReady_keepsPace (s : State) (t : TrackId) : KeepsPace s (s.promoteTrackIfReady t) := by
  unfold State.promoteTrackIfReady
  split
  · exact .refl s
  · next x _ =>
    split
    · have installed : KeepsPace s (s.installTrack t x.1 x.2) := .of_frame (withConfig_frame s _)
      have restarted (s : State) : KeepsPace s (s.restartFilters t) :=
        (restartFilters_retouched s t).keepsPace (restartFilters_frame s t)
      exact (((installed.trans (configureTrack_keepsPace _ t)).trans (restarted _)).trans
        (.of_frame (realign_frame _ t _))).trans (.of_frame (promoteTrack_notices s t x.1 x.2))
    · exact .refl s

theorem promoteReady_keepsPace (s : State) : KeepsPace s s.promoteReady :=
  ((promoteSiteIfReady_keepsPace s).trans (promoteTrackIfReady_keepsPace _ .t1)).trans
    (promoteTrackIfReady_keepsPace _ .t2)

theorem enterIdle_keepsPace (s : State) (t : TrackId) (withDelay : Bool) : KeepsPace s (s.enterIdle t withDelay) :=
  ((KeepsPace.of_track t (rest_frame s t withDelay) fun _ => rest_paced s t withDelay).trans
    (promoteSiteIfReady_keepsPace _)).trans (promoteTrackIfReady_keepsPace _ t)

/-! ### Aborting, taking out and resetting (R41, R42, R44, R45) -/

theorem abortTrack_keepsPace (s : State) (t : TrackId) : KeepsPace s (s.abortTrack t) :=
  (((abandonPass_keepsPace s t .aborted).trans (leaveIdle_keepsPace _ t)).trans
    (.of_track t (drain_frame _ t 0) fun _ => drain_paced _ t 0)).trans (promoteSiteIfReady_keepsPace _)

theorem movedOut_paced (s : State) (t : TrackId) : (s.movedOut t).Paced t := by
  refine closeShutters_keepsPace _ t t (stopPacer_paced ?_)
  rw [section_setSection]
  rfl

theorem takeOut_keepsPace (s : State) (t : TrackId) : KeepsPace s (s.takeOut t) := by
  rw [takeOut_eq]
  exact ((KeepsPace.of_track t (movedOut_frame s t) fun _ => movedOut_paced s t).trans
    (promoteSiteIfReady_keepsPace _)).trans (promoteTrackIfReady_keepsPace _ t)

/-- R44: a track settled at a warm reset is IDLE or UNCONFIGURED. -/
theorem settle_rests (s : State) (t : TrackId) : ((s.settle t).section t).state.pacing = false := by
  cases hc : s.configured t with
  | true =>
    rw [settle_section hc]
    rfl
  | false =>
    have hstate : (s.section t).state = .unconfigured := by
      by_contra hne
      rw [(configured_iff s t).mpr hne] at hc
      nomatch hc
    rw [settle_unconfigured hc, hstate]
    rfl

/-- R45: both pacers are stopped before the promotions of a warm reset, and neither is to run. -/
theorem beforeReady_paced (s : State) (t : TrackId) : s.beforeReady.Paced t := by
  obtain ⟨v, -, hsettled⟩ := settleBoth_track s.resetBegun t
  have hpacer : s.beforeReady.pacer t = Pacer.warmReset _ := resetBlocks_pacer _ t
  rw [State.Paced, hpacer, (beforeReady_frame s).section_eq, hsettled.section_eq (by simp [ne_otherTrack t])]
  exact warmReset_okIn _ (settle_rests v t)

theorem warmReset_keepsPace (s : State) : KeepsPace s s.warmReset := by
  rw [warmReset_eq]
  have unstaged (u : State) : KeepsPace u { u with config := u.config.unstage } := .of_frame (withConfig_frame u _)
  exact fun t _ => unstaged _ t (promoteReady_keepsPace _ t (beforeReady_paced s t))

end Operations

/-! ### The commands -/

/-- The outcome is a next state that keeps the pacers in order. -/
def KeepsPaceIn (s : State) (r : Host.Outcome State Fault Refusal) : Prop := ∃ u, r = .next u ∧ KeepsPace s u

section Commands

variable {s u : State} {now : SiteTime}

theorem KeepsPaceIn.next (h : KeepsPace (s.atTime now) u) : KeepsPaceIn s (.next u) :=
  ⟨u, rfl, (KeepsPace.of_frame (atTime_frame s now)).trans h⟩

theorem KeepsPaceIn.same (s : State) (now : SiteTime) : KeepsPaceIn s (.next (s.atTime now)) := .next (.refl _)

theorem Does.keepsPace {F : List Part} {r : Host.Outcome State Fault Refusal} (h : Does F now s r)
    (hcontrol : ∀ t, Part.control t ∉ F := by simp) (hpacer : ∀ t, Part.pacer t ∉ F := by simp) : KeepsPaceIn s r := by
  obtain ⟨u, hu, -, frame⟩ := h
  exact ⟨u, hu, .of_frame frame (by simp [hcontrol]) (by simp [hpacer])⟩

theorem transact_keepsPace {p : Port} {bytes : List Byte} {row : Byte → List Byte → Bool}
    {run : List Byte → State → Executed} (h : ∀ args, KeepsPace s (run args s).1) :
    KeepsPace s (s.transact p bytes row run) := by
  rcases transact_cases s p bytes row run with heq | ⟨args, heq⟩ <;> rw [heq]
  · exact .refl s
  · exact (h args).trans (.of_frame (putReply_frame _ p _))

theorem runTrackControl_keepsPace {args : List Byte} {run : TrackId → Executed} (h : ∀ t, KeepsPace s (run t).1) :
    KeepsPace s (s.runTrackControl args run).1 := by
  unfold State.runTrackControl
  split
  · exact checked_state (P := KeepsPace s) (.refl s) (.refl s)
  · exact h _

theorem execSensorRawChange_keepsPace (now : SiteTime) (input : Fin 8) (level : Bool) (s : State) :
    KeepsPaceIn s (execSensorRawChange now input level s) := by
  unfold execSensorRawChange
  dsimp only
  split
  · exact .same s now
  · split
    · exact .next (orAsBefore_keepsPace _ _ _ fun u => takeRawChange_run u _ _ _ level)
    · exact .next (.of_frame (setFilter_frame _ _ _ _ _))

theorem execDebounceConfirm_keepsPace (now : SiteTime) (input : Fin 8) (s : State) :
    KeepsPaceIn s (execDebounceConfirm now input s) :=
  .next (orAsBefore_keepsPace _ _ _ fun u => confirmDue_run u _ _ _)

theorem execHeldTimerExpiry_keepsPace (now : SiteTime) (input : Fin 8) (s : State) :
    KeepsPaceIn s (execHeldTimerExpiry now input s) := by
  unfold execHeldTimerExpiry
  dsimp only
  split
  · exact .next ((KeepsPace.of_frame (enterHeld_frame _ _ _ _)).trans (partnerHeld_run _ _ _ _).keepsPace)
  · exact .same s now

theorem execPairTimeoutExpiry_keepsPace (now : SiteTime) (t : TrackId) (e : SectionEnd) (s : State) :
    KeepsPaceIn s (execPairTimeoutExpiry now t e s) := by
  unfold execPairTimeoutExpiry
  dsimp only
  split
  · exact .same s now
  · split
    · exact .next (endWait_run _ t e _ _).keepsPace
    · exact .same s now

theorem setApproachInput_keepsPace (s : State) (t : TrackId) (e : SectionEnd) (f : InputFilter) :
    KeepsPace s (s.setApproachInput t e f) := setSection_keepsPace rfl

theorem changeApproachBefore_keepsPace (s : State) (t : TrackId) (e : SectionEnd) (g : InputFilter → InputFilter) :
    KeepsPace s (s.changeApproachBefore t e g) :=
  (changeCoinciding_retouched s t _).keepsPace (changeCoinciding_frame s t _)

theorem execApproachInputChange_keepsPace (now : SiteTime) (t : TrackId) (e : SectionEnd) (level : Bool) (s : State) :
    KeepsPaceIn s (execApproachInputChange now t e level s) := by
  unfold execApproachInputChange
  dsimp only
  split
  · exact .next ((setApproachInput_keepsPace _ t e _).trans (changeApproachBefore_keepsPace _ t e _))
  · exact .next (setApproachInput_keepsPace _ t e _)

theorem execApproachEdge_keepsPace (now : SiteTime) (t : TrackId) (e : SectionEnd) (s : State) :
    KeepsPaceIn s (execApproachEdge now t e s) := by
  unfold execApproachEdge
  dsimp only
  split
  · exact .next ((setApproachInput_keepsPace _ t e _).trans (wakeTrack_keepsPace _ t))
  · split
    · exact .next ((changeApproachBefore_keepsPace _ t e _).trans (wakeTrack_keepsPace _ t))
    · exact .same s now

theorem execApproachInputInactive_keepsPace (now : SiteTime) (t : TrackId) (e : SectionEnd) (s : State) :
    KeepsPaceIn s (execApproachInputInactive now t e s) := by
  unfold execApproachInputInactive
  dsimp only
  split
  · exact .next (setApproachInput_keepsPace _ t e _)
  · exact .same s now

theorem execApproachTimerExpiry_keepsPace (now : SiteTime) (t : TrackId) (s : State) :
    KeepsPaceIn s (execApproachTimerExpiry now t s) := by
  unfold execApproachTimerExpiry
  dsimp only
  split
  · exact .next (enterIdle_keepsPace _ t true)
  · exact .same s now

theorem execCloseDelayExpiry_keepsPace (now : SiteTime) (t : TrackId) (s : State) :
    KeepsPaceIn s (execCloseDelayExpiry now t s) := by
  unfold execCloseDelayExpiry
  dsimp only
  split
  · refine .next (.trans (setSection_keepsPace ?_) (closeShutters_keepsPace _ t))
    rfl
  · split
    · refine .next (.trans (setSection_keepsPace ?_) (closeShutters_keepsPace _ t))
      rfl
    · exact .same s now

theorem execHoldTimerExpiry_keepsPace (now : SiteTime) (t : TrackId) (s : State) :
    KeepsPaceIn s (execHoldTimerExpiry now t s) := by
  unfold execHoldTimerExpiry
  dsimp only
  split
  · exact .same s now
  · next c _ =>
    split
    · refine .next (.of_track t (enterStanding_frame _ t c) fun _ => stopPacer_paced ?_)
      rw [section_setSection]
      rfl
    · exact .same s now

theorem execClearTimerExpiry_keepsPace (now : SiteTime) (t : TrackId) (s : State) :
    KeepsPaceIn s (execClearTimerExpiry now t s) := by
  unfold execClearTimerExpiry
  dsimp only
  split
  · exact .next ((closePass_keepsPace _ t .normal).trans (enterIdle_keepsPace _ t true))
  · exact .same s now

theorem execQuietTimerExpiry_keepsPace (now : SiteTime) (t : TrackId) (s : State) :
    KeepsPaceIn s (execQuietTimerExpiry now t s) := by
  unfold execQuietTimerExpiry
  dsimp only
  split
  · split
    · exact .next (enterIdle_keepsPace _ t true)
    · exact .next (setSection_keepsPace rfl)
  · exact .same s now

/-- R48: the first step is made by a pacer that runs, and it runs on. -/
theorem execPacerFirstStep_keepsPace (now : SiteTime) (t : TrackId) (s : State) :
    KeepsPaceIn s (execPacerFirstStep now t s) := by
  unfold execPacerFirstStep
  dsimp only
  split
  · next hdue =>
    obtain ⟨⟨hrunning, -⟩, -⟩ : (_ ∧ _) ∧ _ := by simpa only [Bool.and_eq_true] using hdue
    exact .next (setPacer_keepsPace fun h => okIn_of_running h hrunning hrunning)
  · exact .same s now

/-- R49: a step that overflows is made by a pacer that runs, and it runs on. -/
theorem execPaceTick_keepsPace (now : SiteTime) (t : TrackId) (s : State) : KeepsPaceIn s (execPaceTick now t s) := by
  unfold execPaceTick
  dsimp only
  split
  · next hdue =>
    obtain ⟨⟨hrunning, -⟩, -⟩ : (_ ∧ _) ∧ _ := by simpa only [Pacer.tickDue, Bool.and_eq_true] using hdue
    have overflowed : KeepsPace (s.atTime now) ((s.atTime now).setPacer t ((s.atTime now).pacer t).overflowed) :=
      setPacer_keepsPace fun h => okIn_of_running h hrunning hrunning
    split
    · exact .next overflowed
    · next c hc => exact .next (overflowed.trans ((takeTick_retouched hc).keepsPace (takeTick_frame _ t c)))
  · exact .same s now

theorem creditPace_keepsPace (s : State) (t : TrackId) (pass : Nat) (bays : BayAssignment) (channel : Nat)
    (sample : Int) : KeepsPace s (s.creditPace t pass bays channel sample) :=
  (creditPace_retouched s t pass bays channel sample).keepsPace (creditPace_frame s t pass bays channel sample)

theorem takeSample_keepsPace (s : State) (x : Scan) (sample : Int) : KeepsPace s (s.takeSample x sample) := by
  unfold State.takeSample
  split
  · exact .of_frame (takeAmbient_frame s sample)
  · split
    · exact creditPace_keepsPace s _ _ _ _ _
    · split
      · exact .refl s
      · split
        · split
          · exact wakeTrack_keepsPace s _
          · exact .refl s
        · unfold State.takeZeroSample
          split
          · exact .refl s
          · split
            · exact .refl s
            · split
              · exact wakeTrack_keepsPace s _
              · split
                · exact .refl s
                · exact (KeepsPace.of_frame (setZero_frame s _ _ _ _)).trans (.of_frame (checkDrift_frame _ _ _ _))

theorem execConversionEnd_keepsPace (now : SiteTime) (sample : BitVec 16) (s : State) :
    KeepsPaceIn s (execConversionEnd now sample s) := by
  unfold execConversionEnd
  dsimp only
  split
  · exact .same s now
  · split
    · exact .next ((takeSample_keepsPace _ _ _).trans (.of_frame (endConversion_frame _ _)))
    · exact .same s now

theorem execScannerLine_keepsPace (now : SiteTime) (link : Fin 8) (seqNo : BitVec 8) (pixels : List (BitVec 16))
    (s : State) : KeepsPaceIn s (execScannerLine now link seqNo pixels s) := by
  unfold execScannerLine
  dsimp only
  split
  · exact .same s now
  · split
    · have ended (x : Scanner) : KeepsPace (s.atTime now)
          ((s.atTime now).setScanner (scannerOfLink link).1 (scannerOfLink link).2 x) :=
        .of_frame (setScanner_frame _ _ _ x)
      split
      · refine .next ((ended _).trans (setSection_keepsPace ?_))
        rfl
      · exact .next (ended _)
    · exact .same s now

theorem execCommit_keepsPace (now : SiteTime) (p : Port) (bytes : List Byte) (s : State) :
    KeepsPaceIn s (execCommit now p bytes s) := by
  have kept (s : State) (t : TrackId) : KeepsPace s (s.keepCoinciding t) :=
    (keepCoinciding_retouched s t).keepsPace (keepCoinciding_frame s t)
  refine .next (transact_keepsPace fun args => checked_state (P := KeepsPace _) (.refl _) ?_)
  split
  · exact .refl _
  · exact (((KeepsPace.of_frame (withConfig_frame _ _)).trans (kept _ .t1)).trans (kept _ .t2)).trans
      (promoteReady_keepsPace _)

theorem execTrackAbort_keepsPace (now : SiteTime) (p : Port) (bytes : List Byte) (s : State) :
    KeepsPaceIn s (execTrackAbort now p bytes s) := by
  refine .next (transact_keepsPace fun args => runTrackControl_keepsPace fun t => ?_)
  unfold State.runTrackAbort
  split
  · exact abortTrack_keepsPace _ t
  · exact .refl _

theorem execTrackOut_keepsPace (now : SiteTime) (p : Port) (bytes : List Byte) (s : State) :
    KeepsPaceIn s (execTrackOut now p bytes s) := by
  refine .next (transact_keepsPace fun args => runTrackControl_keepsPace fun t => ?_)
  unfold State.runTrackOut
  split
  case h_1 => exact .refl _
  case h_2 => exact .refl _
  all_goals exact takeOut_keepsPace _ t

theorem execTrackIn_keepsPace (now : SiteTime) (p : Port) (bytes : List Byte) (s : State) :
    KeepsPaceIn s (execTrackIn now p bytes s) := by
  refine .next (transact_keepsPace fun args => runTrackControl_keepsPace fun t => ?_)
  unfold State.runTrackIn
  split
  · exact enterIdle_keepsPace _ t false
  · exact .refl _

theorem runPurge_keepsPace (s : State) (p : Port) (args : List Byte) : KeepsPace s (s.runPurge p args).1 := by
  refine .of_pacing (runPurge_frame s p args) fun t => ?_
  unfold State.runPurge
  split
  · exact checked_state (P := fun u => (u.section t).state.pacing = (s.section t).state.pacing) rfl rfl
  · exact congrArg TrackState.pacing ((purge_retouched s p _).sections t).state

theorem execReset_keepsPace (now : SiteTime) (p : Port) (bytes : List Byte) (s : State) :
    KeepsPaceIn s (execReset now p bytes s) :=
  .next (transact_keepsPace fun _ => checked_state (P := KeepsPace _) (.refl _) (warmReset_keepsPace _))

theorem fullReset_keepsPace (s : State) : KeepsPace s s.fullReset := by
  intro t _
  cases t <;> rfl

theorem exec_keepsPace (c : Instr) (s : State) : KeepsPaceIn s (exec c s) := by
  cases c with
  | fullReset => exact ⟨_, rfl, fullReset_keepsPace s⟩
  | sensorRawChange => exact execSensorRawChange_keepsPace _ _ _ s
  | debounceConfirm => exact execDebounceConfirm_keepsPace _ _ s
  | heldTimerExpiry => exact execHeldTimerExpiry_keepsPace _ _ s
  | pairTimeoutExpiry => exact execPairTimeoutExpiry_keepsPace _ _ _ s
  | approachInputChange => exact execApproachInputChange_keepsPace _ _ _ _ s
  | approachEdge => exact execApproachEdge_keepsPace _ _ _ s
  | approachTimerExpiry => exact execApproachTimerExpiry_keepsPace _ _ s
  | closeDelayExpiry => exact execCloseDelayExpiry_keepsPace _ _ s
  | holdTimerExpiry => exact execHoldTimerExpiry_keepsPace _ _ s
  | clearTimerExpiry => exact execClearTimerExpiry_keepsPace _ _ s
  | quietTimerExpiry => exact execQuietTimerExpiry_keepsPace _ _ s
  | paceTick => exact execPaceTick_keepsPace _ _ s
  | zeroTimerExpiry => exact (zeroTimerExpiry_does _ _ s).keepsPace
  | conversionEnd => exact execConversionEnd_keepsPace _ _ s
  | linkMessageDiscarded => exact (linkMessageDiscarded_does _ _ s).keepsPace
  | scannerStatus => exact (scannerStatus_does _ _ _ _ s).keepsPace
  | scannerLine => exact execScannerLine_keepsPace _ _ _ _ s
  | silenceTimerExpiry => exact (silenceTimerExpiry_does _ _ s).keepsPace
  | openingTimerExpiry => exact (openingTimerExpiry_does _ _ s).keepsPace
  | lineTimerExpiry => exact (lineTimerExpiry_does _ _ s).keepsPace
  | spacingLimitPassed => exact (spacingLimitPassed_does _ _ s).keepsPace
  | pulseTimerExpiry => exact (pulseTimerExpiry_does _ _ s).keepsPace
  | recoveryTimerExpiry => exact (recoveryTimerExpiry_does _ _ s).keepsPace
  | stationTimeAdvance => exact (stationTimeAdvance_does _ s).keepsPace
  | selectAssert => exact (selectAssert_does _ _ s).keepsPace
  | selectDeassert => exact (selectDeassert_does _ _ s).keepsPace
  | unknownCommand => exact (unknownCommand_does _ _ _ s).keepsPace
  | status => exact (status_does _ _ _ s).keepsPace
  | attach => exact (attach_does _ _ _ s).keepsPace
  | detach => exact (detach_does _ _ _ s).keepsPace
  | listPasses => exact (listPasses_does _ _ _ s).keepsPace
  | selectPass => exact (selectPass_does _ _ _ s).keepsPace
  | readHeader => exact (readHeader_does _ _ _ s).keepsPace
  | readAxles => exact (readAxles_does _ _ _ s).keepsPace
  | readVehicles => exact (readVehicles_does _ _ _ s).keepsPace
  | releasePass => exact (releasePass_does _ _ _ s).keepsPace
  | readNotice => exact (readNotice_does _ _ _ s).keepsPace
  | readAlarms => exact (readAlarms_does _ _ _ s).keepsPace
  | ackAlarm => exact (ackAlarm_does _ _ _ s).keepsPace
  | stageWrite => exact (stageWrite_does _ _ _ s).keepsPace
  | stageRead => exact (stageRead_does _ _ _ s).keepsPace
  | activeRead => exact (activeRead_does _ _ _ s).keepsPace
  | commit => exact execCommit_keepsPace _ _ _ s
  | abandon => exact (abandon_does _ _ _ s).keepsPace
  | trackAbort => exact execTrackAbort_keepsPace _ _ _ s
  | trackOut => exact execTrackOut_keepsPace _ _ _ s
  | trackIn => exact execTrackIn_keepsPace _ _ _ s
  | purgeFaults => exact .next (transact_keepsPace fun _ => runPurge_keepsPace _ _ _)
  | purgeNotices => exact .next (transact_keepsPace fun _ => runPurge_keepsPace _ _ _)
  | purgeAcked => exact .next (transact_keepsPace fun _ => runPurge_keepsPace _ _ _)
  | purgeReleased => exact .next (transact_keepsPace fun _ => runPurge_keepsPace _ _ _)
  | setTime => exact (setTime_does _ _ _ s).keepsPace
  | reset => exact execReset_keepsPace _ _ _ s
  | byteShiftedIn => exact (byteShiftedIn_does _ _ _ s).keepsPace
  | pacerFirstStep => exact execPacerFirstStep_keepsPace _ _ s
  | approachInputInactive => exact execApproachInputInactive_keepsPace _ _ _ s

theorem step_keepsPace (h : step s = .next u) : KeepsPace s u := by
  unfold step at h
  split at h
  · obtain rfl := Host.Outcome.next.inj h
    exact fun _ hs => hs
  · next c rest _ =>
    obtain ⟨v, hv, kept⟩ := exec_keepsPace c { s with pending := rest }
    obtain rfl := Host.Outcome.next.inj (hv.symm.trans h)
    exact fun t hs => kept t hs

end Commands

/-- Settles O8, from what each command keeps of a pacer in order. -/
theorem everyStepKeepsPacers : Obligations.EveryStepKeepsPacers := by
  intro s t hs hstep
  rw [pacersOk_iff] at hs ⊢
  exact fun o => step_keepsPace hstep o (hs o)

end Sys2Proof.Machine
end

section
/-! PROOFS. The assignment of a tick (R50 to R56, R105): the queue with its positions after the increment and its
overlap marks, what bays and scanners are assigned, and what asking the scanners one after another leaves of them, of
the entries and of the header's flags. -/

namespace Sys2Proof.Machine

open Sys2Proof

-- One proof after another: elaborated side by side they ask for more threads than check.sh allows.
set_option Elab.async false

theorem PerScanner.get_set_of_ne {α : Type} (x : PerScanner α) {n m : ScannerName} (h : m ≠ n) (v : α) :
    (x.set n v).get m = x.get m := by
  cases n <;> cases m <;> first | rfl | exact absurd rfl h

/-! ### Regions, gates and single entries (R52 to R54) -/

theorem inRegion_iff {slot : BaySlot} {margin : Nat} {x : Int} : inRegion slot margin x = true ↔
    slot.set = true ∧ (slot.start : Int) + margin ≤ x ∧ x ≤ (slot.stop : Int) - margin := by
  rw [inRegion, Bool.and_eq_true, Bool.and_eq_true, decide_eq_true_iff, decide_eq_true_iff, and_assoc]

theorem inGate_iff {a : TrackArea} {n : ScannerName} {x : Int} : inGate a n x = true ↔
    (a.scannerX n : Int) - a.gateHalf n ≤ x ∧ x ≤ (a.scannerX n : Int) + a.gateHalf n := by
  rw [inGate, Bool.and_eq_true, decide_eq_true_iff, decide_eq_true_iff]

theorem onlyIndex_map {f : AxleEntry → AxleEntry} (hf : ∀ e, (f e).index = e.index) (l : List AxleEntry) :
    onlyIndex (l.map f) = onlyIndex l := by
  rcases l with _ | ⟨e, _ | ⟨y, rest⟩⟩
  · rfl
  · simp only [List.map_cons, List.map_nil, onlyIndex, hf]
  · rfl

theorem mem_of_onlyIndex {l : List AxleEntry} {i : Nat} (h : onlyIndex l = some i) : ∃ e ∈ l, e.index = i := by
  rcases l with _ | ⟨e, _ | ⟨y, rest⟩⟩
  · nomatch h
  · exact ⟨e, List.mem_singleton_self e, Option.some.inj h⟩
  · nomatch h
theorem bayGet_bayAssignment (a : TrackArea) (d : Direction) (queue : List AxleEntry) (rail : Rail) (b : Fin 8) :
    bayGet (bayAssignment a d queue) rail b = onlyIndex (insideBay a d queue rail b) :=
  bayGet_tabulate (fun rail b => onlyIndex (insideBay a d queue rail b)) rail b

theorem bayAssignment_any (x : BayAssignment) : x.any = true ↔ ∃ rail b, bayGet x rail b ≠ none := by
  rw [BayAssignment.any, List.any_eq_true]
  constructor
  · rintro ⟨⟨rail, b⟩, -, h⟩
    exact ⟨rail, b, Option.isSome_iff_ne_none.mp h⟩
  · rintro ⟨rail, b, h⟩
    exact ⟨(rail, b), mem_allBays rail b, Option.isSome_iff_ne_none.mpr h⟩

/-! ### The queue of a tick (R50, R55) -/

/-- R50: an entry after the increment of a tick. -/
def AxleEntry.ticked (e : AxleEntry) : AxleEntry := { e with ticks := e.ticks + 1 }

/-- R55: an entry of a queue after the increment of a tick, with its overlap marks. -/
def AxleEntry.assigned (a : TrackArea) (d : Direction) (queue : List AxleEntry) (e : AxleEntry) : AxleEntry :=
  e.ticked.markOverlaps (sharesBay a d (queue.map AxleEntry.ticked) e.ticked)

section Queue

variable (a : TrackArea) (d : Direction) (queue : List AxleEntry)

theorem insideBay_map {f : AxleEntry → AxleEntry} (hf : ∀ e, (f e).ticks = e.ticks + 1) (rail : Rail) (b : Fin 8) :
    insideBay a d (queue.map f) rail b =
      (queue.filter fun e => inRegion (a.bay rail b) a.margin (positionAt a d e.ticked.ticks)).map f := by
  rw [insideBay, List.filter_map]
  refine congrArg (List.map f) (List.filter_congr fun e _ => ?_)
  rw [Function.comp_apply, hf]
  rfl

theorem insideGate_map {f : AxleEntry → AxleEntry} (hf : ∀ e, (f e).ticks = e.ticks + 1) (n : ScannerName) :
    insideGate a d (queue.map f) n =
      (queue.filter fun e => inGate a n (positionAt a d e.ticked.ticks)).map f := by
  rw [insideGate, List.filter_map]
  refine congrArg (List.map f) (List.filter_congr fun e _ => ?_)
  rw [Function.comp_apply, hf]
  rfl

theorem sharesBay_iff (e : AxleEntry) (rail : Rail) (b : Fin 8) :
    sharesBay a d (queue.map AxleEntry.ticked) e.ticked rail b = true ↔
      inRegion (a.bay rail b) a.margin (positionAt a d e.ticked.ticks) = true ∧
      2 ≤ (queue.filter fun y => inRegion (a.bay rail b) a.margin (positionAt a d y.ticked.ticks)).length := by
  rw [sharesBay, insideBay_map a d queue (f := AxleEntry.ticked) (fun _ => rfl), List.length_map, Bool.and_eq_true,
    decide_eq_true_iff, and_comm]

/-- R55: the marks of an entry after a tick, and its flag OVERLAP. -/
theorem markOverlaps_bays (e : AxleEntry) (shares : Rail → Fin 8 → Bool) (rail : Rail) (b : Fin 8) :
    bayGet (e.markOverlaps shares).bays rail b =
      { bayGet e.bays rail b with overlap := (bayGet e.bays rail b).overlap || shares rail b } :=
  bayGet_tabulate (fun rail b => { bayGet e.bays rail b with
    overlap := (bayGet e.bays rail b).overlap || shares rail b }) rail b

theorem markOverlaps_overlap (e : AxleEntry) (shares : Rail → Fin 8 → Bool) :
    (e.markOverlaps shares).flags.overlap = true ↔ e.flags.overlap = true ∨ ∃ rail b, shares rail b = true := by
  refine Bool.or_eq_true_iff.trans (or_congr_right ?_)
  rw [List.any_eq_true]
  constructor
  · rintro ⟨⟨rail, b⟩, -, h⟩
    exact ⟨rail, b, h⟩
  · rintro ⟨rail, b, h⟩
    exact ⟨(rail, b), mem_allBays rail b, h⟩

end Queue

/-! ### One entry as the scanners are asked (R105) -/

/-- R105: an entry whose scanner is asked for a line while its view is as given. -/
def AxleEntry.answered (e : AxleEntry) (n : ScannerName) : ShutterView → AxleEntry
  | .opened => e
  | .opening => e.markShutter n
  | .closed => e.markShutter n
  | .closing => e.markShutter n
  | .fault => e.markFault n
  | .silent => e.markFault n

/-- R105: an entry as a scanner is asked for a line of the entry of an index, if it has no request outstanding. -/
def AxleEntry.asked (e : AxleEntry) (x : Scanner) (n : ScannerName) (index : Option Nat) : AxleEntry :=
  if index = some e.index ∧ x.request = none then e.answered n x.view else e

/-- The entry's reason mark at a scanner is not due to be changed, or it is changed as R105 has it. -/
theorem asked_cases (e : AxleEntry) (x : Scanner) (n : ScannerName) (index : Option Nat) :
    e.asked x n index = e ∨
    (index = some e.index ∧ x.request = none ∧ x.view ≠ .opened ∧ x.view ≠ .fault ∧ x.view ≠ .silent ∧
      e.asked x n index = e.markShutter n) ∨
    (index = some e.index ∧ x.request = none ∧ (x.view = .fault ∨ x.view = .silent) ∧
      e.asked x n index = e.markFault n) := by
  unfold AxleEntry.asked
  split
  · next h =>
    obtain ⟨hindex, hrequest⟩ := h
    cases hview : x.view <;> simp [AxleEntry.answered, hindex, hrequest]
  · exact .inl rfl

section Asked

variable {e : AxleEntry} {x : Scanner} {n : ScannerName} {index : Option Nat}

theorem asked_unasked (h : ¬(index = some e.index ∧ x.request = none)) : e.asked x n index = e := if_neg h

theorem asked_faulty (hindex : index = some e.index) (hrequest : x.request = none)
    (h : x.view = .fault ∨ x.view = .silent) : e.asked x n index = e.markFault n := by
  rw [AxleEntry.asked, if_pos ⟨hindex, hrequest⟩]
  rcases h with h | h <;> rw [h] <;> rfl

theorem asked_shut (hindex : index = some e.index) (hrequest : x.request = none) (hopened : x.view ≠ .opened)
    (hfaulty : ¬(x.view = .fault ∨ x.view = .silent)) : e.asked x n index = e.markShutter n := by
  rw [AxleEntry.asked, if_pos ⟨hindex, hrequest⟩]
  cases hview : x.view with
  | opened => exact absurd hview hopened
  | fault => exact absurd (.inl hview) hfaulty
  | silent => exact absurd (.inr hview) hfaulty
  | opening => rfl
  | closed => rfl
  | closing => rfl

theorem asked_opened (h : x.view = .opened) : e.asked x n index = e := by
  rw [AxleEntry.asked, h]
  exact ite_self e

theorem markShutter_of_fault (h : (e.scanners.get n).mark = .fault) : e.markShutter n = e := if_pos h

theorem markShutter_of_ne (h : (e.scanners.get n).mark ≠ .fault) : e.markShutter n = { e with
    scanners := e.scanners.set n { e.scanners.get n with mark := .shutter }
    flags := { e.flags with shutter := true } } := by
  rw [AxleEntry.markShutter, if_neg h, ScannerAccumulator.markShutter, if_neg h]

/-- What a question to a scanner leaves of any entry: all but one reason mark and two flags, which only rise. -/
structure AxleEntry.Marked (e y : AxleEntry) (n : ScannerName) : Prop where
  rest : y = { e with scanners := y.scanners, flags := y.flags }
  flags : y.flags = { e.flags with shutter := y.flags.shutter, scannerFault := y.flags.scannerFault }
  others : ∀ m, m ≠ n → y.scanners.get m = e.scanners.get m
  own : y.scanners.get n = { e.scanners.get n with mark := (y.scanners.get n).mark }
  shutter : e.flags.shutter = true → y.flags.shutter = true
  scannerFault : e.flags.scannerFault = true → y.flags.scannerFault = true

theorem AxleEntry.Marked.index_eq {y : AxleEntry} (h : e.Marked y n) : y.index = e.index := by rw [h.rest]

theorem AxleEntry.Marked.bays_eq {y : AxleEntry} (h : e.Marked y n) : y.bays = e.bays := by rw [h.rest]

theorem AxleEntry.Marked.overlap_eq {y : AxleEntry} (h : e.Marked y n) : y.flags.overlap = e.flags.overlap := by
  rw [h.flags]

theorem AxleEntry.Marked.refl (e : AxleEntry) (n : ScannerName) : e.Marked e n :=
  ⟨rfl, rfl, fun _ _ => rfl, rfl, id, id⟩

theorem asked_marked (e : AxleEntry) (x : Scanner) (n : ScannerName) (index : Option Nat) :
    e.Marked (e.asked x n index) n := by
  rcases asked_cases e x n index with h | ⟨-, -, -, -, -, h⟩ | ⟨-, -, -, h⟩ <;> rw [h]
  · exact .refl e n
  · by_cases hmark : (e.scanners.get n).mark = .fault
    · rw [markShutter_of_fault hmark]
      exact .refl e n
    · rw [markShutter_of_ne hmark]
      exact ⟨rfl, rfl, fun m hm => PerScanner.get_set_of_ne _ hm _, by simp, fun _ => rfl, id⟩
  · exact ⟨rfl, rfl, fun m hm => PerScanner.get_set_of_ne _ hm _, by simp [AxleEntry.markFault], id, fun _ => rfl⟩

end Asked

/-- R105: an entry as scanners are asked one after another, each for the entry assigned to it. -/
def AxleEntry.askedAll (e : AxleEntry) (x : ScannerName → Scanner) (index : ScannerName → Option Nat)
    (names : List ScannerName) : AxleEntry :=
  names.foldl (fun e n => e.asked (x n) n (index n)) e

section AskedAll

variable {x : ScannerName → Scanner} {index : ScannerName → Option Nat} {names : List ScannerName}

/-- What every question leaves of an entry is left by all of them. -/
theorem askedAll_keeps {β : Type} (f : AxleEntry → β) (e : AxleEntry)
    (h : ∀ e, ∀ n ∈ names, f (e.asked (x n) n (index n)) = f e) : f (e.askedAll x index names) = f e := by
  induction names generalizing e with
  | nil => rfl
  | cons n rest ih =>
    exact (ih (e.asked (x n) n (index n)) fun e m hm => h e m (List.mem_cons_of_mem n hm)).trans
      (h e n List.mem_cons_self)

/-- What no question takes back stays. -/
theorem askedAll_stays {P : AxleEntry → Prop} {e : AxleEntry} (he : P e)
    (h : ∀ e n, P e → P (e.asked (x n) n (index n))) : P (e.askedAll x index names) := by
  induction names generalizing e with
  | nil => exact he
  | cons n rest ih => exact ih (h e n he)

theorem askedAll_index (e : AxleEntry) : (e.askedAll x index names).index = e.index :=
  askedAll_keeps AxleEntry.index e fun e _ _ => (asked_marked e _ _ _).index_eq

theorem askedAll_bays (e : AxleEntry) : (e.askedAll x index names).bays = e.bays :=
  askedAll_keeps AxleEntry.bays e fun e _ _ => (asked_marked e _ _ _).bays_eq

theorem askedAll_overlap (e : AxleEntry) : (e.askedAll x index names).flags.overlap = e.flags.overlap :=
  askedAll_keeps (fun e => e.flags.overlap) e fun e _ _ => (asked_marked e _ _ _).overlap_eq

theorem askedAll_scanner_of_not_mem {m : ScannerName} (hm : m ∉ names) (e : AxleEntry) :
    (e.askedAll x index names).scanners.get m = e.scanners.get m :=
  askedAll_keeps (fun e => e.scanners.get m) e fun e _ hn =>
    (asked_marked e _ _ _).others m fun h => hm (h ▸ hn)

/-- Of the questions, one is for a scanner, and the entry stands at it as before when it comes. -/
theorem askedAll_through {m : ScannerName} (hm : m ∈ names) (hnames : names.Nodup) (e : AxleEntry) :
    ∃ (before : AxleEntry) (after : List ScannerName), before.index = e.index ∧
      before.scanners.get m = e.scanners.get m ∧ m ∉ after ∧
      e.askedAll x index names = (before.asked (x m) m (index m)).askedAll x index after := by
  obtain ⟨first, after, rfl⟩ := List.append_of_mem hm
  obtain ⟨-, hafter, hfirst⟩ := List.nodup_append.mp hnames
  refine ⟨e.askedAll x index first, after, askedAll_index e,
    askedAll_scanner_of_not_mem (fun h => hfirst m h m List.mem_cons_self rfl) e, (List.nodup_cons.mp hafter).1, ?_⟩
  rw [AxleEntry.askedAll, List.foldl_append]
  rfl

section Mark

variable {m : ScannerName} (hm : m ∈ names) (hnames : names.Nodup) (e : AxleEntry)
include hm hnames

theorem askedAll_mark : (e.askedAll x index names).scanners.get m =
    { e.scanners.get m with mark := ((e.askedAll x index names).scanners.get m).mark } := by
  obtain ⟨before, after, -, hbefore, hafter, heq⟩ := askedAll_through (x := x) (index := index) hm hnames e
  rw [heq, askedAll_scanner_of_not_mem hafter, ← hbefore]
  exact (asked_marked before _ _ _).own

/-- R105: the scanner has a view of FAULT or SILENT. -/
theorem askedAll_faulty (hindex : index m = some e.index) (hrequest : (x m).request = none)
    (h : (x m).view = .fault ∨ (x m).view = .silent) :
    ((e.askedAll x index names).scanners.get m).mark = .fault ∧
      (e.askedAll x index names).flags.scannerFault = true := by
  obtain ⟨before, after, hi, -, hafter, heq⟩ := askedAll_through (x := x) (index := index) hm hnames e
  rw [heq, asked_faulty (hindex.trans (congrArg some hi.symm)) hrequest h]
  refine ⟨?_, askedAll_stays (P := fun e => e.flags.scannerFault = true) rfl fun e n =>
    (asked_marked e _ _ _).scannerFault⟩
  rw [askedAll_scanner_of_not_mem hafter]
  simp [AxleEntry.markFault]

/-- R105: the scanner has a view in which its shutter does not stand open. -/
theorem askedAll_shut (hindex : index m = some e.index) (hrequest : (x m).request = none)
    (hopened : (x m).view ≠ .opened) (hfaulty : ¬((x m).view = .fault ∨ (x m).view = .silent))
    (hmark : (e.scanners.get m).mark ≠ .fault) :
    ((e.askedAll x index names).scanners.get m).mark = .shutter ∧
      (e.askedAll x index names).flags.shutter = true := by
  obtain ⟨before, after, hi, hbefore, hafter, heq⟩ := askedAll_through (x := x) (index := index) hm hnames e
  rw [heq, asked_shut (hindex.trans (congrArg some hi.symm)) hrequest hopened hfaulty,
    markShutter_of_ne (by rwa [hbefore])]
  refine ⟨?_, askedAll_stays (P := fun e => e.flags.shutter = true) rfl fun e n => (asked_marked e _ _ _).shutter⟩
  rw [askedAll_scanner_of_not_mem hafter]
  simp

/-- R105: a scanner that is not asked, whose shutter stands open, or at which the entry is FAULT already. -/
theorem askedAll_mark_same (h : ¬(index m = some e.index ∧ (x m).request = none) ∨ (x m).view = .opened ∨
      ((x m).view ≠ .opened ∧ ¬((x m).view = .fault ∨ (x m).view = .silent)) ∧ (e.scanners.get m).mark = .fault) :
    ((e.askedAll x index names).scanners.get m).mark = (e.scanners.get m).mark := by
  obtain ⟨before, after, hi, hbefore, hafter, heq⟩ := askedAll_through (x := x) (index := index) hm hnames e
  rw [heq, askedAll_scanner_of_not_mem hafter]
  suffices hsame : before.asked (x m) m (index m) = before by rw [hsame, hbefore]
  rcases h with h | h | ⟨⟨hopened, hfaulty⟩, hmark⟩
  · exact asked_unasked (by rwa [hi])
  · exact asked_opened h
  · by_cases hasked : index m = some before.index ∧ (x m).request = none
    · obtain ⟨hindex, hrequest⟩ := hasked
      rw [asked_shut hindex hrequest hopened hfaulty, markShutter_of_fault (by rw [hbefore, hmark])]
    · exact asked_unasked hasked

end Mark

end AskedAll

/-! ### Header flags -/

/-- Every held pass of a track and a number has a header flag. -/
def State.Flagged (s : State) (t : TrackId) (pass : Nat) (g : PassFlags → Bool) : Prop :=
  ∀ q ∈ s.store.passes, q.number = pass → q.track = t → g q.flags = true

section Flagged

variable {s : State} {t : TrackId} {pass : Nat} {g : PassFlags → Bool} {f : PassFlags → PassFlags}

theorem flagPass_flagged (hf : ∀ x, g (f x) = true) : (s.flagPass t pass f).Flagged t pass g := by
  intro q hq hn ht
  obtain ⟨p, -, rfl⟩ := List.mem_map.mp hq
  by_cases hp : p.number = pass ∧ p.track = t
  · rw [if_pos hp]
    exact hf _
  · rw [if_neg hp] at hn ht
    exact absurd ⟨hn, ht⟩ hp

theorem State.Flagged.flagPass (h : s.Flagged t pass g) (hf : ∀ x, g x = true → g (f x) = true) :
    (s.flagPass t pass f).Flagged t pass g := by
  intro q hq hn ht
  obtain ⟨p, hp, rfl⟩ := List.mem_map.mp hq
  by_cases hnamed : p.number = pass ∧ p.track = t
  · rw [if_pos hnamed]
    exact hf _ (h p hp hnamed.1 hnamed.2)
  · rw [if_neg hnamed] at hn ht
    exact absurd ⟨hn, ht⟩ hnamed

theorem State.Flagged.find (h : s.Flagged t pass g) {q : HeldPass} (hq : s.store.find pass = some q)
    (ht : q.track = t) : g q.flags = true :=
  h q (List.mem_of_find?_eq_some hq) (of_decide_eq_true (List.find?_some hq :)) ht

end Flagged

/-! ### One scanner asked (R105) -/

/-- R54: the scanner's part of a tick assignment. -/
def State.askAt (t : TrackId) (pass : Nat) (index : ScannerName → Option Nat) (s : State) (n : ScannerName) : State :=
  match index n with
  | none => s
  | some i => s.askScanner t pass n i

/-- The pass is the open pass of the track, and every entry assigned stands in its queue. -/
structure Assigns (s : State) (t : TrackId) (pass : Nat) (index : ScannerName → Option Nat) : Prop where
  opened : ∃ c, s.ctx t = some c ∧ c.number = pass
  listed : ∀ n i, index n = some i → i ∈ (s.section t).queue.map AxleEntry.index

/-- R105: a scanner that is asked for a line of an entry. -/
def Scanner.asked (x : Scanner) (now : SiteTime) (pass : Nat) (index : Option Nat) : Scanner :=
  match index with
  | none => x
  | some i => if x.request = none ∧ x.view = .opened then x.sendLine now pass i else x

section AskAt

variable {s : State} {t : TrackId} {pass : Nat} {index : ScannerName → Option Nat}

theorem askAt_frame (s : State) (n : ScannerName) : Frame (lineParts t) s (s.askAt t pass index n) := by
  unfold State.askAt
  split
  · exact .refl _ s
  · exact askScanner_frame s t pass n _

/-- R54: the entry assigned to a scanner. -/
theorem Assigns.entry (h : Assigns s t pass index) {n : ScannerName} {i : Nat} (hi : index n = some i) :
    ∃ e, s.entry t pass i = some e ∧ e.index = i ∧ e ∈ (s.section t).queue := by
  obtain ⟨c, hc, hn⟩ := h.opened
  obtain ⟨y, hy, hyi⟩ := List.mem_map.mp (h.listed n i hi)
  have hentry : s.entry t pass i = (s.section t).queue.find? fun e => decide (e.index = i) := by
    rw [State.entry, hc]
    exact if_pos hn
  cases hfind : (s.section t).queue.find? fun e => decide (e.index = i) with
  | none => exact absurd (decide_eq_true hyi) (List.find?_eq_none.mp hfind y hy)
  | some e =>
    exact ⟨e, hentry.trans hfind, of_decide_eq_true (List.find?_some hfind :), List.mem_of_find?_eq_some hfind⟩

theorem markEntryShutter_section (s : State) (t : TrackId) (n : ScannerName) (pass : Nat) (e : AxleEntry) :
    (s.markEntryShutter t n pass e).section t = (s.updateEntry t e.index fun e => e.markShutter n).section t := by
  unfold State.markEntryShutter
  dsimp only
  split
  · rw [(flagPass_frame _ t pass _).section_eq]
  · rfl

theorem updateEntry_section (s : State) (t : TrackId) (i : Nat) (f : AxleEntry → AxleEntry) :
    (s.updateEntry t i f).section t = { s.section t with
      queue := (s.section t).queue.map fun e => if e.index = i then f e else e } := section_setSection s t _

/-- R105: the entries after a scanner is asked. -/
theorem askAt_section (h : Assigns s t pass index) (n : ScannerName) : (s.askAt t pass index n).section t =
    { s.section t with queue := (s.section t).queue.map fun e => e.asked (s.scanner t n) n (index n) } := by
  have unasked (hno : ∀ e ∈ (s.section t).queue, e.asked (s.scanner t n) n (index n) = e) :
      s.section t = { s.section t with
        queue := (s.section t).queue.map fun e => e.asked (s.scanner t n) n (index n) } := by
    rw [List.map_congr_left hno, List.map_id']
  have asked (i : Nat) (f : AxleEntry → AxleEntry) (hi : index n = some i) (hr : (s.scanner t n).request = none)
      (hf : ∀ e : AxleEntry, e.answered n (s.scanner t n).view = f e) : (s.updateEntry t i f).section t =
        { s.section t with queue := (s.section t).queue.map fun e => e.asked (s.scanner t n) n (index n) } := by
    rw [updateEntry_section]
    refine congrArg (fun q => { s.section t with queue := q }) (List.map_congr_left fun e _ => ?_)
    rw [AxleEntry.asked, hi, hf]
    simp only [Option.some.injEq, hr, and_true, eq_comm]
  unfold State.askAt
  split
  · next hnone => exact unasked fun e _ => asked_unasked (by simp [hnone])
  · next i hi =>
    obtain ⟨e, he, hei, -⟩ := h.entry hi
    rw [State.askScanner, he]
    dsimp only
    split
    · next r hr => exact unasked fun e _ => asked_unasked (by simp [hr])
    · next hr =>
      split
      · next hview =>
        rw [(setScanner_frame s t n _).section_eq]
        exact unasked fun e _ => asked_opened hview
      · next hview => exact (markEntryShutter_section ..).trans (hei ▸ asked i _ hi hr fun e => by rw [hview]; rfl)
      · next hview => exact (markEntryShutter_section ..).trans (hei ▸ asked i _ hi hr fun e => by rw [hview]; rfl)
      · next hview => exact (markEntryShutter_section ..).trans (hei ▸ asked i _ hi hr fun e => by rw [hview]; rfl)
      · next hview => exact asked i _ hi hr fun e => by rw [hview]; rfl
      · next hview => exact asked i _ hi hr fun e => by rw [hview]; rfl

theorem askAt_indices (h : Assigns s t pass index) (n : ScannerName) :
    ((s.askAt t pass index n).section t).queue.map AxleEntry.index = (s.section t).queue.map AxleEntry.index := by
  rw [askAt_section h, List.map_map]
  exact List.map_congr_left fun e _ => (asked_marked e _ _ _).index_eq

theorem Assigns.askAt (h : Assigns s t pass index) (n : ScannerName) :
    Assigns (s.askAt t pass index n) t pass index := by
  refine ⟨?_, fun m i hi => ?_⟩
  · rw [State.ctx, askAt_section h]
    exact h.opened
  · rw [askAt_indices h]
    exact h.listed m i hi

/-- The scanners of a track read through a frame. -/
theorem Frame.scanner_eq {F : List Part} {s u : State} {t : TrackId} (h : Frame F s u) (n : ScannerName)
    (hF : Part.scanners t ∉ F := by simp) : u.scanner t n = s.scanner t n :=
  congrArg (fun x => PerScanner.get x n) (h (.scanners t) hF)

theorem asked_scanner_same {x : Scanner} {i : Nat} (h : ¬(x.request = none ∧ x.view = .opened)) (now : SiteTime) :
    x.asked now pass (some i) = x := if_neg h

/-- R105: the scanners after one is asked. -/
theorem askAt_scanner (h : Assigns s t pass index) (n m : ScannerName) : (s.askAt t pass index n).scanner t m =
    if m = n then (s.scanner t n).asked s.siteTime pass (index n) else s.scanner t m := by
  have unchanged {F : List Part} {u : State} (hu : Frame F s u)
      (hn : (s.scanner t n).asked s.siteTime pass (index n) = s.scanner t n) (hF : Part.scanners t ∉ F) :
      u.scanner t m = if m = n then (s.scanner t n).asked s.siteTime pass (index n) else s.scanner t m := by
    rw [hu.scanner_eq m hF, hn]
    split
    · next hmn => rw [hmn]
    · rfl
  unfold State.askAt
  split
  · next hnone => exact unchanged (.refl [] s) (by rw [hnone]; rfl) (by simp)
  · next i hi =>
    obtain ⟨e, he, -, -⟩ := h.entry hi
    have idle (hx : ¬((s.scanner t n).request = none ∧ (s.scanner t n).view = .opened)) :
        (s.scanner t n).asked s.siteTime pass (index n) = s.scanner t n := by
      rw [hi]
      exact asked_scanner_same hx _
    rw [State.askScanner, he]
    dsimp only
    split
    · next r hr => exact unchanged (.refl [] s) (idle (by simp [hr])) (by simp)
    · next hr =>
      split
      case h_1 hview =>
        have hsent : (s.scanner t n).asked s.siteTime pass (index n) = (s.scanner t n).sendLine s.siteTime pass i := by
          rw [hi]
          exact if_pos ⟨hr, hview⟩
        rw [hsent]
        split
        · next hmn => rw [hmn, scanner_setScanner]
        · next hmn =>
          rw [State.scanner, State.setScanner, PerTrack.get_set, PerScanner.get_set_of_ne _ hmn]
          rfl
      case h_2 hview => exact unchanged (markEntryShutter_frame s t n pass e) (idle (by simp [hview])) (by simp)
      case h_3 hview => exact unchanged (markEntryShutter_frame s t n pass e) (idle (by simp [hview])) (by simp)
      case h_4 hview => exact unchanged (markEntryShutter_frame s t n pass e) (idle (by simp [hview])) (by simp)
      case h_5 hview => exact unchanged (updateEntry_frame s t i _) (idle (by simp [hview])) (by simp)
      case h_6 hview => exact unchanged (updateEntry_frame s t i _) (idle (by simp [hview])) (by simp)

theorem askAt_scanner_of_ne (h : Assigns s t pass index) {n m : ScannerName} (hmn : m ≠ n) :
    (s.askAt t pass index n).scanner t m = s.scanner t m := by rw [askAt_scanner h, if_neg hmn]

/-- The scanners still to be asked are as they were. -/
theorem askAt_later (h : Assigns s t pass index) {x : ScannerName → Scanner} {n : ScannerName}
    {rest : List ScannerName} (hx : ∀ m ∈ n :: rest, s.scanner t m = x m) (hn : n ∉ rest) :
    ∀ m ∈ rest, (s.askAt t pass index n).scanner t m = x m := fun m hm =>
  (askAt_scanner_of_ne h (ne_of_mem_of_not_mem hm hn)).trans (hx m (List.mem_cons_of_mem n hm))

/-! ### SHUTTER_LATE (R105) -/

theorem State.Flagged.askAt {g : PassFlags → Bool} (h : s.Flagged t pass g)
    (hg : ∀ f, g f = true → g { f with shutterLate := true } = true) (n : ScannerName) :
    (s.askAt t pass index n).Flagged t pass g := by
  have marked (e : AxleEntry) : (s.markEntryShutter t n pass e).Flagged t pass g := by
    unfold State.markEntryShutter
    dsimp only
    split
    · exact State.Flagged.flagPass (s := s.updateEntry t e.index _) h hg
    · exact h
  unfold State.askAt State.askScanner
  split
  · exact h
  · split
    · exact h
    · dsimp only
      split
      · exact h
      · split
        case h_2 => exact marked _
        case h_3 => exact marked _
        case h_4 => exact marked _
        all_goals exact h

/-- R105: a scanner that is asked while its shutter does not stand open. -/
theorem askScanner_shut {n : ScannerName} {i : Nat} {e : AxleEntry} (he : s.entry t pass i = some e)
    (hr : (s.scanner t n).request = none) (hopened : (s.scanner t n).view ≠ .opened)
    (hfault : (s.scanner t n).view ≠ .fault) (hsilent : (s.scanner t n).view ≠ .silent) :
    s.askScanner t pass n i = s.markEntryShutter t n pass e := by
  simp only [State.askScanner, he, hr]
  split
  · contradiction
  · rfl
  · rfl
  · rfl
  · contradiction
  · contradiction

/-- R105: an entry that gets the flag SHUTTER gives its pass SHUTTER_LATE. -/
theorem askAt_late (h : Assigns s t pass index) (hnodup : ((s.section t).queue.map AxleEntry.index).Nodup)
    {n : ScannerName} {e : AxleEntry} (he : e ∈ (s.section t).queue) (hclear : e.flags.shutter = false)
    (hset : (e.asked (s.scanner t n) n (index n)).flags.shutter = true) :
    (s.askAt t pass index n).Flagged t pass PassFlags.shutterLate := by
  rcases asked_cases e (s.scanner t n) n (index n) with
    heq | ⟨hindex, hr, hopened, hfault, hsilent, heq⟩ | ⟨-, -, -, heq⟩ <;> rw [heq] at hset
  · nomatch hclear.symm.trans hset
  · obtain ⟨y, hy, hyi, hmem⟩ := h.entry hindex
    obtain rfl : y = e := List.inj_on_of_nodup_map hnodup hmem he hyi
    simp only [State.askAt, hindex]
    rw [askScanner_shut hy hr hopened hfault hsilent, State.markEntryShutter, if_pos (by rw [hset, hclear]; rfl)]
    exact flagPass_flagged fun _ => rfl
  · nomatch hclear.symm.trans hset

end AskAt

/-! ### The scanners asked one after another (R105) -/

section AskAll

variable {s : State} {t : TrackId} {pass : Nat} {index : ScannerName → Option Nat} {names : List ScannerName}

theorem askAll_frame (t : TrackId) (pass : Nat) (index : ScannerName → Option Nat) (names : List ScannerName)
    (s : State) : Frame (lineParts t) s (names.foldl (State.askAt t pass index) s) := by
  induction names generalizing s with
  | nil => exact .refl _ s
  | cons n rest ih => exact (askAt_frame s n).trans (ih _)

theorem askAll_section (x : ScannerName → Scanner) (hx : ∀ n ∈ names, s.scanner t n = x n)
    (h : Assigns s t pass index) (hnames : names.Nodup) :
    (names.foldl (State.askAt t pass index) s).section t =
      { s.section t with queue := (s.section t).queue.map fun e => e.askedAll x index names } := by
  induction names generalizing s with
  | nil => exact congrArg (fun q => { s.section t with queue := q }) (List.map_id' _).symm
  | cons n rest ih =>
    obtain ⟨hn, hrest⟩ := List.nodup_cons.mp hnames
    rw [List.foldl_cons, ih (askAt_later h hx hn) (h.askAt n) hrest, askAt_section h, hx n List.mem_cons_self,
      List.map_map]
    rfl

theorem askAll_scanner (h : Assigns s t pass index) (hnames : names.Nodup) {m : ScannerName} (hm : m ∈ names) :
    (names.foldl (State.askAt t pass index) s).scanner t m =
      (s.scanner t m).asked s.siteTime pass (index m) := by
  have outside {names : List ScannerName} {s : State} (h : Assigns s t pass index) (hm : m ∉ names) :
      (names.foldl (State.askAt t pass index) s).scanner t m = s.scanner t m := by
    induction names generalizing s with
    | nil => rfl
    | cons n rest ih =>
      obtain ⟨hmn, hrest⟩ := List.ne_and_not_mem_of_not_mem_cons hm
      rw [List.foldl_cons, ih (h.askAt n) hrest, askAt_scanner_of_ne h hmn]
  induction names generalizing s with
  | nil => nomatch hm
  | cons n rest ih =>
    obtain ⟨hn, hrest⟩ := List.nodup_cons.mp hnames
    rw [List.foldl_cons]
    rcases List.mem_cons.mp hm with rfl | hlater
    · rw [outside (h.askAt m) hn, askAt_scanner h, if_pos rfl]
    · rw [ih (h.askAt n) hrest hlater, askAt_scanner_of_ne h (ne_of_mem_of_not_mem hlater hn),
        (askAt_frame s n).siteTime_eq]

theorem State.Flagged.askAll {g : PassFlags → Bool} (h : s.Flagged t pass g)
    (hg : ∀ f, g f = true → g { f with shutterLate := true } = true) :
    (names.foldl (State.askAt t pass index) s).Flagged t pass g := by
  induction names generalizing s with
  | nil => exact h
  | cons n rest ih => exact ih (h.askAt hg n)

/-- R105: where an entry first gets the flag SHUTTER, the open pass gets SHUTTER_LATE. -/
theorem askAll_late (x : ScannerName → Scanner) (hx : ∀ n ∈ names, s.scanner t n = x n) (h : Assigns s t pass index)
    (hnames : names.Nodup) (hnodup : ((s.section t).queue.map AxleEntry.index).Nodup) {e : AxleEntry}
    (he : e ∈ (s.section t).queue) (hclear : e.flags.shutter = false)
    (hset : (e.askedAll x index names).flags.shutter = true) :
    (names.foldl (State.askAt t pass index) s).Flagged t pass PassFlags.shutterLate := by
  induction names generalizing s e with
  | nil => nomatch hclear.symm.trans hset
  | cons n rest ih =>
    obtain ⟨hn, hrest⟩ := List.nodup_cons.mp hnames
    rw [List.foldl_cons]
    have hxn := hx n List.mem_cons_self
    cases hfirst : (e.asked (x n) n (index n)).flags.shutter with
    | true =>
      exact (askAt_late h hnodup he hclear (by rwa [hxn])).askAll fun _ _ => rfl
    | false =>
      refine ih (askAt_later h hx hn) (h.askAt n) hrest (by rwa [askAt_indices h]) ?_ hfirst hset
      rw [askAt_section h, ← hxn]
      exact List.mem_map_of_mem he

end AskAll

/-! ### Scan requests of a tick (R56, R62, R63) -/

section Request

variable {s : State} {t : TrackId} {r : ScanRequest}

theorem requestScan_waits (hslot : s.slot t = none) (hscan : s.strain.scan ≠ none) :
    (s.requestScan t r).strain = { s.strain with slots := s.strain.slots.set t (some r) } := by
  obtain ⟨x, hx⟩ := Option.ne_none_iff_exists'.mp hscan
  have hbusy : (s.setSlot t (some r)).strain.scan = some x := hx
  simp only [State.requestScan, hslot, State.arbitrate, hbusy]
  rfl

/-- R64: the free converter is granted to the only request that waits. -/
theorem arbitrate_alone (hscan : s.strain.scan = none)
    (hslots : s.strain.slots = (⟨none, none⟩ : PerTrack (Option ScanRequest)).set t (some r)) :
    s.arbitrate = s.grant t r := by
  cases t <;> simp only [State.arbitrate, hscan, hslots] <;> rfl

theorem requestScan_granted (hslots : s.strain.slots = ⟨none, none⟩) (hscan : s.strain.scan = none) :
    (s.requestScan t r).strain = { s.strain with lastServed := t, scan := some (s.scanOf t r) } := by
  have hslot : s.slot t = none := by
    rw [State.slot, hslots]
    cases t <;> rfl
  have hgranted : (s.setSlot t (some r)).arbitrate = (s.setSlot t (some r)).grant t r :=
    arbitrate_alone hscan (congrArg (fun x => PerTrack.set x t (some r)) hslots)
  have hempty : (s.strain.slots.set t (some r)).set t none = s.strain.slots := by
    rw [hslots]
    cases t <;> rfl
  simp only [State.requestScan, hslot, hgranted]
  exact congrArg (fun x => { s.strain with slots := x, lastServed := t, scan := some (s.scanOf t r) }) hempty

theorem requestScan_dropped {pass : Nat} {bays : BayAssignment} (hslot : s.slot t ≠ none) :
    s.requestScan t (.pace pass bays) = s.flagPass t pass fun f => { f with paceOverrun := true } := by
  obtain ⟨x, hx⟩ := Option.ne_none_iff_exists'.mp hslot
  simp only [State.requestScan, hx]

end Request

/-! ### The tick (R50, R54 to R56) -/

/-- R50, R55: the queue of a tick, on which bays and scanners are assigned. -/
def State.tickQueue (s : State) (t : TrackId) (c : PassContext) : List AxleEntry :=
  (s.section t).queue.map (AxleEntry.assigned (s.area t) c.direction (s.section t).queue)

/-- R50: the section of a track with a tick of its open pass. -/
def State.ticked (s : State) (t : TrackId) (c : PassContext) : State :=
  s.setSection t { s.section t with
    queue := s.tickQueue t c
    ctx := some { c with tickTotal := c.tickTotal + 1 } }

/-- R54: the bays of a tick. -/
def State.tickBays (s : State) (t : TrackId) (c : PassContext) : BayAssignment :=
  bayAssignment (s.area t) c.direction (s.tickQueue t c)

/-- R54: the entry of a tick that a scanner is assigned. -/
def State.tickGate (s : State) (t : TrackId) (c : PassContext) (n : ScannerName) : Option Nat :=
  onlyIndex (insideGate (s.area t) c.direction (s.tickQueue t c) n)

/-- R56: a tick with its scan request made. -/
def State.scanAsked (s : State) (t : TrackId) (c : PassContext) : State :=
  if (s.tickBays t c).any then (s.ticked t c).requestScan t (.pace c.number (s.tickBays t c)) else s.ticked t c

theorem takeTick_eq (s : State) (t : TrackId) (c : PassContext) : s.takeTick t c =
    scannerNames.foldl (State.askAt t c.number (s.tickGate t c)) (s.scanAsked t c) := by
  have hqueue : (((s.section t).queue.map fun e => { e with ticks := e.ticks + 1 }).map fun e =>
      e.markOverlaps (sharesBay (s.area t) c.direction
        ((s.section t).queue.map fun e => { e with ticks := e.ticks + 1 }) e)) = s.tickQueue t c := List.map_map
  unfold State.takeTick
  dsimp only
  rw [hqueue]
  rfl

section Tick

variable (s : State) (t : TrackId) (c : PassContext)

theorem tickQueue_indices : (s.tickQueue t c).map AxleEntry.index = (s.section t).queue.map AxleEntry.index := by
  rw [State.tickQueue, List.map_map]
  rfl

/-- R52, R54: the bays of a tick by the positions after its increment. -/
theorem bayGet_tickBays (rail : Rail) (b : Fin 8) : bayGet (s.tickBays t c) rail b =
    onlyIndex ((s.section t).queue.filter fun e =>
      inRegion ((s.area t).bay rail b) (s.area t).margin (positionAt (s.area t) c.direction e.ticked.ticks)) := by
  rw [State.tickBays, bayGet_bayAssignment, State.tickQueue, insideBay_map, onlyIndex_map]
  · exact fun _ => rfl
  · exact fun _ => rfl

/-- R53, R54: the scanners of a tick by the positions after its increment. -/
theorem tickGate_eq (n : ScannerName) : s.tickGate t c n =
    onlyIndex ((s.section t).queue.filter fun e =>
      inGate (s.area t) n (positionAt (s.area t) c.direction e.ticked.ticks)) := by
  rw [State.tickGate, State.tickQueue, insideGate_map, onlyIndex_map]
  · exact fun _ => rfl
  · exact fun _ => rfl

theorem scanAsked_section : (s.scanAsked t c).section t = { s.section t with
    queue := s.tickQueue t c, ctx := some { c with tickTotal := c.tickTotal + 1 } } := by
  unfold State.scanAsked
  split
  · rw [(requestScan_frame _ t _).section_eq]
    exact section_setSection s t _
  · exact section_setSection s t _

theorem scanAsked_frame : Frame [.control t, .store, .slot .t1, .slot .t2, .scan, .lastServed] s (s.scanAsked t c) := by
  have ticked := setSection_frame s t { s.section t with
    queue := s.tickQueue t c, ctx := some { c with tickTotal := c.tickTotal + 1 } }
  unfold State.scanAsked
  split
  · exact .step (.one ticked) (requestScan_frame _ t _)
  · exact .one ticked

theorem scanAsked_assigns : Assigns (s.scanAsked t c) t c.number (s.tickGate t c) := by
  refine ⟨⟨_, congrArg SectionController.ctx (scanAsked_section s t c), rfl⟩, fun n i hi => ?_⟩
  obtain ⟨e, he, hei⟩ := mem_of_onlyIndex hi
  rw [scanAsked_section]
  exact List.mem_map.mpr ⟨e, List.mem_of_mem_filter he, hei⟩

theorem takeTick_queue : ((s.takeTick t c).section t).queue = (s.section t).queue.map fun e =>
    (e.assigned (s.area t) c.direction (s.section t).queue).askedAll (s.scanner t) (s.tickGate t c) scannerNames := by
  rw [takeTick_eq, askAll_section (s.scanner t) (fun n _ => (scanAsked_frame s t c).scanner_eq n)
    (scanAsked_assigns s t c) (by decide), scanAsked_section]
  exact List.map_map

theorem takeTick_scanner (n : ScannerName) :
    (s.takeTick t c).scanner t n = (s.scanner t n).asked s.siteTime c.number (s.tickGate t c n) := by
  rw [takeTick_eq, askAll_scanner (scanAsked_assigns s t c) (by decide) (mem_scannerNames n),
    (scanAsked_frame s t c).scanner_eq n, (scanAsked_frame s t c).siteTime_eq]

theorem takeTick_strain : (s.takeTick t c).strain = (s.scanAsked t c).strain := by
  rw [takeTick_eq]
  exact (askAll_frame t c.number _ _ _).strain_eq

/-- R105: where an entry first gets the flag SHUTTER in a tick, the open pass gets SHUTTER_LATE. -/
theorem takeTick_late (hnodup : ((s.section t).queue.map AxleEntry.index).Nodup) {e : AxleEntry}
    (he : e ∈ (s.section t).queue) (hclear : e.flags.shutter = false)
    (hset : ((e.assigned (s.area t) c.direction (s.section t).queue).askedAll (s.scanner t) (s.tickGate t c)
      scannerNames).flags.shutter = true) : (s.takeTick t c).Flagged t c.number PassFlags.shutterLate := by
  rw [takeTick_eq]
  refine askAll_late (s.scanner t) (fun n _ => (scanAsked_frame s t c).scanner_eq n) (scanAsked_assigns s t c)
    (by decide) ?_ ?_ (by exact hclear) hset
  · rwa [scanAsked_section, tickQueue_indices]
  · rw [scanAsked_section]
    exact List.mem_map_of_mem he

variable {s t c}

/-- R63: a request that finds the slot taken is dropped with PACE_OVERRUN. -/
theorem takeTick_dropped (hbays : (s.tickBays t c).any = true) (hslot : s.slot t ≠ none) :
    (s.takeTick t c).strain = s.strain ∧ (s.takeTick t c).Flagged t c.number PassFlags.paceOverrun := by
  have hasked : s.scanAsked t c =
      (s.ticked t c).flagPass t c.number fun f => { f with paceOverrun := true } := by
    rw [State.scanAsked, if_pos hbays]
    exact requestScan_dropped hslot
  rw [takeTick_strain, takeTick_eq, hasked]
  exact ⟨rfl, (flagPass_flagged fun _ => rfl).askAll fun _ h => h⟩

/-- R56: no request where no bay is assigned. -/
theorem takeTick_idle (hbays : ¬(s.tickBays t c).any = true) : (s.takeTick t c).strain = s.strain := by
  rw [takeTick_strain, State.scanAsked, if_neg hbays]
  rfl

theorem takeTick_requests (hbays : (s.tickBays t c).any = true) :
    (s.takeTick t c).strain = ((s.ticked t c).requestScan t (.pace c.number (s.tickBays t c))).strain := by
  rw [takeTick_strain, State.scanAsked, if_pos hbays]

end Tick

/-! ### The assignment (R51 to R56, R62, R63, R105) -/

/-- R50, R51: the position of an entry after the increment of a tick. -/
theorem positionAt_ticked (a : TrackArea) (d : Direction) (e : AxleEntry) : positionAt a d e.ticked.ticks =
    a.sensorX (entryEnd d) .inner + directionSign d * ((e.ticks : Int) + 1) * a.paceSpacing := rfl

/-- Settles O32, from the tick's own queue, its scan request, and the scanners asked one after another. -/
theorem tickAssignsBaysAndScanners : Obligations.TickAssignsBaysAndScanners := by
  intro now t s c hdue hc area queue x inBay inGate only bayOf gateOf shares someBay asked faulty shut
  generalize hv : (s.atTime now).setPacer t (s.pacer t).overflowed = v
  have harea : v.area t = area := hv ▸ rfl
  have hqueue : (v.section t).queue = queue := hv ▸ rfl
  have hstrain : v.strain = s.strain := hv ▸ rfl
  have hscanner (n : ScannerName) : v.scanner t n = s.scanner t n := hv ▸ rfl
  have htime : v.siteTime = now := hv ▸ rfl
  have hposition (e : AxleEntry) : positionAt (v.area t) c.direction e.ticked.ticks = x e := by
    rw [positionAt_ticked, harea]
    rfl
  have hregion (rail : Rail) (b : Fin 8) (e : AxleEntry) : inRegion ((v.area t).bay rail b) (v.area t).margin
      (positionAt (v.area t) c.direction e.ticked.ticks) = decide (inBay rail b e) := by
    rw [hposition, harea]
    exact Bool.eq_iff_iff.mpr (inRegion_iff.trans decide_eq_true_iff.symm)
  have honly (l : List AxleEntry) : onlyIndex l = only l := rfl
  have hbay (rail : Rail) (b : Fin 8) : bayGet (v.tickBays t c) rail b = bayOf rail b := by
    rw [bayGet_tickBays, hqueue, honly]
    exact congrArg only (List.filter_congr fun e _ => hregion rail b e)
  have hgate (n : ScannerName) : v.tickGate t c n = gateOf n := by
    rw [tickGate_eq, hqueue, honly]
    refine congrArg only (List.filter_congr fun e _ => ?_)
    rw [hposition, harea]
    exact Bool.eq_iff_iff.mpr (inGate_iff.trans decide_eq_true_iff.symm)
  have hshares (e : AxleEntry) (rail : Rail) (b : Fin 8) :
      sharesBay (v.area t) c.direction ((v.section t).queue.map AxleEntry.ticked) e.ticked rail b = true ↔
        shares rail b e := by
    rw [sharesBay_iff, hqueue, hregion, decide_eq_true_iff,
      List.filter_congr fun y _ => hregion rail b y]
  have hany : (v.tickBays t c).any = true ↔ someBay := by
    rw [bayAssignment_any]
    exact exists_congr fun rail => exists_congr fun b => by rw [hbay]
  refine ⟨v.takeTick t c, hv ▸ exec_paceTick hdue hc, fun hnone => ?_, fun hsome =>
    ⟨v.tickBays t c, hbay, fun hslot hscan => ?_, fun hslots hscan => ?_⟩, fun hsome hslot => ?_, fun n => ?_, ?_,
    fun i e y he hy => ?_⟩
  · rw [takeTick_idle (mt hany.mp hnone), hstrain]
  · rw [takeTick_requests (hany.mpr hsome),
      requestScan_waits (s := v.ticked t c) (hv ▸ hslot) (hv ▸ hscan)]
    exact congrArg (fun w : StrainUnit => { w with
      slots := w.slots.set t (some (.pace c.number (v.tickBays t c))) }) hstrain
  · rw [takeTick_requests (hany.mpr hsome),
      requestScan_granted (s := v.ticked t c) (hv ▸ hslots) (hv ▸ hscan)]
    have hscanOf : (v.ticked t c).scanOf t (.pace c.number (v.tickBays t c)) =
        ⟨t, .pace c.number (v.tickBays t c), area.scanList, none, 0, now, false⟩ := by
      rw [← harea, ← htime]
      rfl
    rw [hscanOf]
    exact congrArg (fun w : StrainUnit => { w with
      lastServed := t
      scan := some ⟨t, .pace c.number (v.tickBays t c), area.scanList, none, 0, now, false⟩ }) hstrain
  · obtain ⟨hsame, hflagged⟩ := takeTick_dropped (hany.mpr hsome) (hv ▸ hslot)
    exact ⟨hsame.trans hstrain, fun q hq ht => hflagged.find hq ht⟩
  · rw [takeTick_scanner, hscanner, hgate, htime]
    cases gateOf n <;> rfl
  · rw [takeTick_queue, List.length_map, hqueue]
  · have hlate := takeTick_late v t c (e := e)
    rw [hqueue, funext hgate, funext hscanner] at hlate
    rw [hqueue] at hshares
    rw [takeTick_queue, List.getElem?_map, hqueue, funext hgate, funext hscanner, he] at hy
    obtain rfl : _ = y := Option.some.inj hy
    have hnames : scannerNames.Nodup := by decide
    refine ⟨fun rail b => ?_, ?_, fun n => ⟨?_, fun hasked hfaulty => ?_, fun hasked hshut hmark => ?_, fun h => ?_⟩⟩
    · rw [askedAll_bays, AxleEntry.assigned, markOverlaps_bays]
      exact ⟨rfl, Bool.or_eq_true_iff.trans (or_congr_right (hshares e rail b))⟩
    · rw [askedAll_overlap, AxleEntry.assigned, markOverlaps_overlap]
      exact or_congr_right (exists_congr fun rail => exists_congr fun b => hshares e rail b)
    · exact askedAll_mark (mem_scannerNames n) hnames _
    · obtain ⟨hindex, hrequest⟩ := hasked
      exact askedAll_faulty (mem_scannerNames n) hnames _ hindex hrequest hfaulty
    · obtain ⟨hindex, hrequest⟩ := hasked
      obtain ⟨hopened, hnotFaulty⟩ := hshut
      obtain ⟨hshutter, hset⟩ := askedAll_shut (mem_scannerNames n) hnames
        (e.assigned (v.area t) c.direction queue) hindex hrequest hopened hnotFaulty hmark
      exact ⟨hshutter, hset, fun hnodup hclear q hq ht =>
        (hlate hnodup (List.mem_of_getElem? he) hclear hset).find hq ht⟩
    · exact askedAll_mark_same (mem_scannerNames n) hnames _ h

end Sys2Proof.Machine
end

section
/-! PROOFS. The zero timer and the samples of scans (R60, R64, R67 to R71, R73, R75, R187): the credit of a PACE
sample, and the zero tracking, load wakes and ambient value of ZERO scans. -/

namespace Sys2Proof.Machine

open Sys2Proof

-- One proof after another: elaborated side by side they ask for more threads than check.sh allows.
set_option Elab.async false

/-! ### Bays -/

theorem bayGet_baySet {α : Type} (x : PerRail (Vector α 8)) (rail : Rail) (b : Fin 8) (v : α) :
    bayGet (baySet x rail b v) rail b = v := by
  rw [bayGet, baySet, PerRail.get_set]
  exact Vector.getElem_set_self _

theorem bayGet_baySet_of_ne {α : Type} (x : PerRail (Vector α 8)) {rail r2 : Rail} {b b2 : Fin 8} (v : α)
    (h : (r2, b2) ≠ (rail, b)) : bayGet (baySet x rail b v) r2 b2 = bayGet x r2 b2 := by
  by_cases hr : r2 = rail
  · subst hr
    have hb : b.val ≠ b2.val := fun hb => h (Prod.ext rfl (Fin.ext hb.symm))
    rw [bayGet, baySet, PerRail.get_set]
    exact Vector.getElem_set_ne _ _ hb
  · cases rail <;> cases r2 <;> first | rfl | exact absurd rfl hr

/-- A member of a track's family of bays, another one replaced. -/
theorem bayGet_set_of_ne {α : Type} (x : PerTrack (PerRail (Vector α 8))) {t o : TrackId} {rail r2 : Rail}
    {b b2 : Fin 8} (v : α) (h : (o, r2, b2) ≠ (t, rail, b)) :
    bayGet ((x.set t (baySet (x.get t) rail b v)).get o) r2 b2 = bayGet (x.get o) r2 b2 := by
  by_cases ho : o = t
  · subst ho
    rw [PerTrack.get_set]
    exact bayGet_baySet_of_ne _ v fun hb => h (congrArg (Prod.mk o) hb)
  · rw [PerTrack.get_set_of_ne _ ho]

theorem zero_setZero (s : State) (t : TrackId) (rail : Rail) (b : Fin 8) (z : Option Int) :
    (s.setZero t rail b z).zero t rail b = z := by
  simp only [State.zero, State.setZero, PerTrack.get_set, bayGet_baySet]

theorem zero_setZero_of_ne (s : State) {t o : TrackId} {rail r2 : Rail} {b b2 : Fin 8} (z : Option Int)
    (h : (o, r2, b2) ≠ (t, rail, b)) : (s.setZero t rail b z).zero o r2 b2 = s.zero o r2 b2 :=
  bayGet_set_of_ne s.strain.zeros z h

theorem isDrifted_setDrifted (s : State) (t : TrackId) (rail : Rail) (b : Fin 8) (d : Bool) :
    (s.setDrifted t rail b d).isDrifted t rail b = d := by
  simp only [State.isDrifted, State.setDrifted, PerTrack.get_set, bayGet_baySet]

theorem isDrifted_setDrifted_of_ne (s : State) {t o : TrackId} {rail r2 : Rail} {b b2 : Fin 8} (d : Bool)
    (h : (o, r2, b2) ≠ (t, rail, b)) : (s.setDrifted t rail b d).isDrifted o r2 b2 = s.isDrifted o r2 b2 :=
  bayGet_set_of_ne s.strain.drifted d h

/-- R71: the bay found for a channel is set. -/
theorem set_of_bayOfChannel {a : TrackArea} {channel : Nat} {rail : Rail} {b : Fin 8}
    (h : a.bayOfChannel channel = some (rail, b)) : (a.bay rail b).set = true := by
  have hfound := List.find?_some h
  exact (Bool.and_eq_true_iff.mp hfound).1

/-! ### Judging a sample (R60, R71, R73) -/

/-- R60: a sample is clipped at the two ends of its sixteen bits. -/
theorem isClipped_toInt (sample : BitVec 16) :
    isClipped sample.toInt = (decide (sample = 32768) || decide (sample = 32767)) := by
  have low : sample.toInt = -32768 ↔ sample = 32768 :=
    ⟨fun h => BitVec.eq_of_toInt_eq (h.trans (by decide)), fun h => h ▸ (by decide)⟩
  have high : sample.toInt = 32767 ↔ sample = 32767 :=
    ⟨fun h => BitVec.eq_of_toInt_eq (h.trans (by decide)), fun h => h ▸ (by decide)⟩
  rw [isClipped, decide_eq_decide.mpr low, decide_eq_decide.mpr high]

theorem isClipped_iff (sample : BitVec 16) :
    isClipped sample.toInt = true ↔ sample = 32768 ∨ sample = 32767 := by
  rw [isClipped_toInt, Bool.or_eq_true, decide_eq_true_iff, decide_eq_true_iff]

theorem wakes_iff (zero : Int) (sample : BitVec 16) (threshold : Nat) :
    wakes zero sample.toInt threshold = true ↔
      threshold ≠ 0 ∧ ((sample = 32768 ∨ sample = 32767) ∨ threshold ≤ (sample.toInt - zero).natAbs) := by
  rw [wakes, Bool.and_eq_true, Bool.or_eq_true, isClipped_iff, decide_eq_true_iff, decide_eq_true_iff, Int.ofNat_le]

theorem driftedBy_eq (zero factory : Int) (limit : Nat) :
    driftedBy zero factory limit = decide (limit < (zero - factory).natAbs) :=
  decide_eq_decide.mpr Int.ofNat_lt

/-! ### The converter and the arbiter (R63, R64, R67) -/

theorem arbitrate_strain (s : State) : s.arbitrate = { s with strain := s.arbitrate.strain } := by
  unfold State.arbitrate
  repeat' split
  all_goals rfl

/-- R67: the end of a conversion is the strain acquisition unit's own. -/
theorem endConversion_strain (s : State) (x : Scan) :
    s.endConversion x = { s with strain := (s.endConversion x).strain } := by
  unfold State.endConversion
  split
  · rw [arbitrate_strain]
  · rfl

section EndConversion

variable (s : State) (x : Scan)

theorem endConversion_zeros : (s.endConversion x).strain.zeros = s.strain.zeros :=
  PerTrack.ext_get fun t => endConversion_frame s x (.zeros t) (by simp)

theorem endConversion_drifted : (s.endConversion x).strain.drifted = s.strain.drifted :=
  PerTrack.ext_get fun t => endConversion_frame s x (.drifted t) (by simp)

theorem endConversion_ambient : (s.endConversion x).strain.ambient = s.strain.ambient :=
  endConversion_frame s x .ambient (by simp)

theorem endConversion_zero (t : TrackId) (rail : Rail) (b : Fin 8) :
    (s.endConversion x).zero t rail b = s.zero t rail b := by
  rw [State.zero, endConversion_zeros]
  rfl

theorem endConversion_isDrifted (t : TrackId) (rail : Rail) (b : Fin 8) :
    (s.endConversion x).isDrifted t rail b = s.isDrifted t rail b := by
  rw [State.isDrifted, endConversion_drifted]
  rfl

theorem endConversion_sections : (s.endConversion x).sections = s.sections := by
  rw [endConversion_strain]

theorem endConversion_section (t : TrackId) : (s.endConversion x).section t = s.section t :=
  congrArg (fun y => PerTrack.get y t) (endConversion_sections s x)

theorem endConversion_scanners : (s.endConversion x).scanners = s.scanners := by
  rw [endConversion_strain]

theorem endConversion_ports : (s.endConversion x).ports = s.ports := by
  rw [endConversion_strain]

theorem endConversion_config : (s.endConversion x).config = s.config := by
  rw [endConversion_strain]

end EndConversion

theorem exec_conversionEnd {s : State} {now : SiteTime} {x : Scan} (sample : BitVec 16)
    (hscan : s.strain.scan = some x) (hdue : 4 * (x.done + 1) ≤ interval x.grantedAt now) :
    exec (.conversionEnd now sample) s =
      .next (((s.atTime now).takeSample x sample.toInt).endConversion x) := by
  simp only [exec, execConversionEnd, atTime_strain, hscan, if_pos hdue]
  rfl

/-! ### The zero timer (R70) -/

section ZeroTimer

variable {s : State} {now : SiteTime} {t : TrackId} {r : Running}

/-- R70: the zero timer is due: it restarts, and asks for a scan where its track has none. -/
theorem exec_zeroTimerExpiry (hr : s.strain.zeroTimers.get t = some r) (hdue : r.length ≤ interval r.start now) :
    exec (.zeroTimerExpiry now t) s =
      if (s.slot t).isNone && !s.strain.scanning t then
        .next (((s.atTime now).startZeroTimer t).requestScan t .zero)
      else .next ((s.atTime now).startZeroTimer t) := by
  have hexpired : timerDue ((s.atTime now).strain.zeroTimers.get t) now = true := by
    rw [atTime_strain, hr]
    exact decide_eq_true hdue
  simp only [exec, execZeroTimerExpiry, hexpired, if_true]
  rfl

theorem slot_of_noneWait (hslots : s.strain.slots = ⟨none, none⟩) (t : TrackId) : s.slot t = none := by
  rw [State.slot, hslots]
  cases t <;> rfl

/-- R64: nothing else waits and the converter is free. -/
theorem requestScan_granted_eq {r : ScanRequest} (hslots : s.strain.slots = ⟨none, none⟩)
    (hscan : s.strain.scan = none) : s.requestScan t r =
      { s with strain := { s.strain with lastServed := t, scan := some (s.scanOf t r) } } := by
  have hstrain : s.requestScan t r = { s with strain := (s.requestScan t r).strain } := by
    simp only [State.requestScan, slot_of_noneWait hslots t]
    rw [arbitrate_strain]
    rfl
  rw [hstrain, requestScan_granted hslots hscan]

end ZeroTimer

/-- Settles O33, from the grant of the only request at a free converter. -/
theorem zeroTimerExpiryAsksForAScan : Obligations.ZeroTimerExpiryAsksForAScan := by
  intro now t r s hr hdue timers
  rw [exec_zeroTimerExpiry hr hdue]
  refine ⟨fun hslots hscan => ?_, fun x hscan htrack => ?_⟩
  · have hidle : s.strain.scanning t = false := by rw [StrainUnit.scanning, hscan]
    rw [if_pos (by rw [slot_of_noneWait hslots, hidle]; rfl),
      requestScan_granted_eq (s := (s.atTime now).startZeroTimer t) hslots hscan]
    rfl
  · have hbusy : s.strain.scanning t = true := by
      rw [StrainUnit.scanning, hscan]
      exact decide_eq_true htrack
    rw [if_neg (by rw [hbusy]; simp)]
    rfl

/-! ### PACE samples (R68, R69) -/

/-- R69: a sample taken into an accumulator. -/
theorem credit_eq (a : BayAccumulator) (sample : BitVec 16) (z : Int) : a.credit sample.toInt z =
    { a with
      n := a.n + 1
      sum := a.sum + (sample.toInt - z)
      peak := some (match a.peak with
        | none => sample.toInt - z
        | some p => max p (sample.toInt - z))
      clipped := a.clipped || decide (sample = 32768) || decide (sample = 32767) } := by
  simp only [BayAccumulator.credit, isClipped_toInt, Bool.or_assoc]
  cases a.peak with
  | none => rfl
  | some p => simp only [max_def_lt]

/-- R68: the entry named is looked for among all of the queue, so that nothing is credited where it has left. -/
theorem creditPace_eq {s : State} {t : TrackId} {bays : BayAssignment} {channel index : Nat} {rail : Rail}
    {b : Fin 8} {z : Int} {c : PassContext} (sample : Int) (hbay : (s.area t).bayOfChannel channel = some (rail, b))
    (hindex : bayGet bays rail b = some index) (hz : s.zero t rail b = some z) (hc : s.ctx t = some c) :
    s.creditPace t c.number bays channel sample = s.updateEntry t index fun e => e.creditBay rail b sample z := by
  have hentry : s.entry t c.number index = (s.section t).queue.find? fun e => decide (e.index = index) := by
    simp only [State.entry, hc, if_true]
  simp only [State.creditPace, hbay, hindex, hz]
  split
  next habsent =>
    have hleft : ∀ e ∈ (s.section t).queue, (if e.index = index then e.creditBay rail b sample z else e) = e :=
      fun e he => if_neg (by simpa using List.find?_eq_none.mp (hentry.symm.trans habsent) e he)
    rw [State.updateEntry, List.map_congr_left hleft, List.map_id']
    exact congrArg (fun x => { s with sections := x }) (PerTrack.set_get _ t).symm
  next => rfl

theorem takeSample_pace {s : State} {x : Scan} {entry : Nat × Nat} {pass : Nat} {bays : BayAssignment}
    (sample : Int) (hentry : x.entries[x.done]? = some entry) (hpace : x.request = .pace pass bays) :
    s.takeSample x sample = s.creditPace x.track pass bays entry.1 sample := by
  simp only [State.takeSample, hentry, hpace]

/-- Settles O35, from the one update of the entries of the queue. -/
theorem paceSampleIsCredited : Obligations.PaceSampleIsCredited := by
  rintro now sample x entry _ index bays rail b z c s hscan hpace hentry hdue hbay hindex hz hc rfl
  have hcredit := creditPace_eq (s := s.atTime now) sample.toInt hbay hindex hz hc
  have hexec := exec_conversionEnd sample hscan hdue
  rw [takeSample_pace _ hentry hpace, hcredit] at hexec
  have hsection := updateEntry_section (s.atTime now) x.track index fun e => e.creditBay rail b sample.toInt z
  refine ⟨_, hexec, ?_, endConversion_zeros _ x, endConversion_ambient _ x, ?_, ?_, ?_⟩
  · rw [endConversion_strain]
    rfl
  · rw [endConversion_section, hsection]
    rfl
  · rw [endConversion_section, (updateEntry_frame _ _ _ _).section_eq (by simp [(ne_otherTrack x.track).symm])]
    rfl
  · rw [endConversion_section, hsection]
    refine List.map_congr_left fun e _ => ?_
    exact congrArg (fun a => if e.index = index then
      (if (bayGet e.bays rail b).n < 255 then { e with bays := baySet e.bays rail b a }
      else { e with flags := { e.flags with sampleCap := true } }) else e) (credit_eq (bayGet e.bays rail b) sample z)

/-! ### ZERO samples (R67, R71, R73, R75) -/

theorem takeSample_zero {s : State} {x : Scan} {entry : Nat × Nat} (sample : Int)
    (hentry : x.entries[x.done]? = some entry) (hzero : x.request = .zero)
    (hidle : (s.section x.track).state = .idle) : s.takeSample x sample =
      if x.promotedSince then
        if s.wakesBefore x.track entry.1 sample then s.wakeTrack x.track else s
      else s.takeZeroSample x.track entry.1 sample := by
  simp only [State.takeSample, hentry, hzero, hidle]
  rfl

/-- R75: the ambient sample is the last of its scan. -/
theorem takeSample_ambient {s : State} {x : Scan} (sample : BitVec 16) (hdone : x.done = x.entries.length) :
    s.takeSample x sample.toInt = { s with strain := { s.strain with
      ambient := if sample = 32768 ∨ sample = 32767 then s.strain.ambient else some (max (-32767) (min 32767
        (roundDiv ((sample.toInt - s.siteArea.ambientZero) * s.siteArea.ambientScale) 65536))) } } := by
  have hlast : x.entries[x.done]? = none := List.getElem?_eq_none (Nat.le_of_eq hdone.symm)
  simp only [State.takeSample, hlast, State.takeAmbient, isClipped_iff]
  split
  · rfl
  · rfl

/-- R64, R67: the last conversion of a scan frees the converter. -/
theorem endConversion_last {s : State} {x : Scan} (hlast : x.total ≤ x.done + 1)
    (hslots : s.strain.slots = ⟨none, none⟩) :
    s.endConversion x = { s with strain := { s.strain with scan := none } } := by
  simp only [State.endConversion, if_pos hlast, State.arbitrate, hslots]

section ZeroSample

variable {s : State} {t : TrackId} {channel : Nat} {rail : Rail} {b : Fin 8} {z : Int} {sample : Int}

/-- R73: the condition follows the working zero of a set bay, with a notice where it changes. -/
theorem checkDrift_eq (s : State) (t : TrackId) (rail : Rail) (b : Fin 8) :
    (s.checkDrift t rail b).isDrifted t rail b = s.driftOf t rail b ∧
    (s.checkDrift t rail b).ports = if s.driftOf t rail b = s.isDrifted t rail b then s.ports
      else (s.notify (.faultChanged (.drifted t rail b) (markValue (s.driftOf t rail b)))).ports := by
  unfold State.checkDrift
  dsimp only
  split
  next h => exact ⟨h.symm, rfl⟩
  next => exact ⟨isDrifted_setDrifted s t rail b _, rfl⟩

theorem checkDrift_isDrifted_of_ne {o : TrackId} {r2 : Rail} {b2 : Fin 8} (h : (o, r2, b2) ≠ (t, rail, b)) :
    (s.checkDrift t rail b).isDrifted o r2 b2 = s.isDrifted o r2 b2 := by
  unfold State.checkDrift
  dsimp only
  split
  · rfl
  · exact isDrifted_setDrifted_of_ne s _ h

theorem checkDrift_state (s : State) (t : TrackId) (rail : Rail) (b : Fin 8) : s.checkDrift t rail b =
    { s with strain := (s.checkDrift t rail b).strain, ports := (s.checkDrift t rail b).ports } := by
  unfold State.checkDrift
  dsimp only
  split <;> rfl

theorem checkDrift_zero (o : TrackId) (r2 : Rail) (b2 : Fin 8) :
    (s.checkDrift t rail b).zero o r2 b2 = s.zero o r2 b2 :=
  congrArg (fun x => bayGet x r2 b2) (checkDrift_frame s t rail b (.zeros o) (by simp))

/-- R71, R73: the condition after a working zero has been moved. -/
theorem driftOf_setZero (hset : ((s.area t).bay rail b).set = true) (moved : Int) :
    (s.setZero t rail b (some moved)).driftOf t rail b =
      decide ((s.area t).zeroLimit < (moved - ((s.area t).bay rail b).factoryZero).natAbs) := by
  rw [State.driftOf, zero_setZero, area_setZero]
  simp only [hset, Bool.true_and, driftedBy_eq]

/-! ### A bay sample of a ZERO scan (R71) -/

/-- What a bay sample may change. -/
theorem takeZeroSample_state (s : State) (t : TrackId) (channel : Nat) (sample : Int) :
    s.takeZeroSample t channel sample = { s with
      sections := (s.takeZeroSample t channel sample).sections
      strain := (s.takeZeroSample t channel sample).strain
      scanners := (s.takeZeroSample t channel sample).scanners
      ports := (s.takeZeroSample t channel sample).ports } := by
  unfold State.takeZeroSample
  split
  · rfl
  · split
    · rfl
    · split
      · rw [(wakeTrack_frame s t).woken_state]
      · split
        · rfl
        · rw [checkDrift_state]
          rfl

theorem wakeTrack_zeros (s : State) (t : TrackId) : (s.wakeTrack t).strain.zeros = s.strain.zeros :=
  PerTrack.ext_get fun o => wakeTrack_frame s t (.zeros o) (by simp)

theorem wakeTrack_drifted (s : State) (t : TrackId) : (s.wakeTrack t).strain.drifted = s.strain.drifted :=
  PerTrack.ext_get fun o => wakeTrack_frame s t (.drifted o) (by simp)

section Bay

variable (hbay : (s.area t).bayOfChannel channel = some (rail, b)) (hz : s.zero t rail b = some z)
include hbay hz

/-- R71: a load wake, a clipped sample of a track that is not to be woken, or a sample that moves the zero. -/
theorem takeZeroSample_eq : s.takeZeroSample t channel sample =
    if wakes z sample (s.area t).wakeThreshold then s.wakeTrack t
    else if isClipped sample then s
    else (s.setZero t rail b (some (nudge z sample))).checkDrift t rail b := by
  simp only [State.takeZeroSample, hbay, hz]

/-- R71: the sample of a bay is its own bay's. -/
theorem takeZeroSample_of_ne {o : TrackId} {r2 : Rail} {b2 : Fin 8} (h : (o, r2, b2) ≠ (t, rail, b)) :
    (s.takeZeroSample t channel sample).zero o r2 b2 = s.zero o r2 b2 ∧
      (s.takeZeroSample t channel sample).isDrifted o r2 b2 = s.isDrifted o r2 b2 := by
  rw [takeZeroSample_eq hbay hz]
  split
  · rw [State.zero, State.isDrifted, wakeTrack_zeros, wakeTrack_drifted]
    exact ⟨rfl, rfl⟩
  · split
    · exact ⟨rfl, rfl⟩
    · rw [checkDrift_zero, checkDrift_isDrifted_of_ne h, zero_setZero_of_ne s _ h]
      exact ⟨rfl, rfl⟩

theorem takeZeroSample_wakes (hw : wakes z sample (s.area t).wakeThreshold = true) :
    s.takeZeroSample t channel sample = s.wakeTrack t := by
  rw [takeZeroSample_eq hbay hz, if_pos hw]

theorem takeZeroSample_clipped (hw : ¬wakes z sample (s.area t).wakeThreshold = true)
    (hc : isClipped sample = true) : s.takeZeroSample t channel sample = s := by
  rw [takeZeroSample_eq hbay hz, if_neg hw, if_pos hc]

/-- R71, R73: the working zero moves, and the bay's DRIFTED condition follows it. -/
theorem takeZeroSample_moves (hw : ¬wakes z sample (s.area t).wakeThreshold = true)
    (hc : ¬isClipped sample = true) :
    let u := s.takeZeroSample t channel sample
    let moved := z + roundDiv (sample - z) 16
    let drifted := decide ((s.area t).zeroLimit < (moved - ((s.area t).bay rail b).factoryZero).natAbs)
    u.sections = s.sections ∧ u.scanners = s.scanners ∧ u.zero t rail b = some moved ∧
      u.isDrifted t rail b = drifted ∧
      u.ports = if drifted = s.isDrifted t rail b then s.ports
        else (s.notify (.faultChanged (.drifted t rail b) (markValue drifted))).ports := by
  intro u moved drifted
  have hu : u = (s.setZero t rail b (some moved)).checkDrift t rail b := by
    rw [show u = _ from takeZeroSample_eq hbay hz, if_neg hw, if_neg hc]
    rfl
  have hdrift : (s.setZero t rail b (some moved)).driftOf t rail b = drifted :=
    driftOf_setZero (set_of_bayOfChannel hbay) moved
  obtain ⟨hchecked, hnotice⟩ := checkDrift_eq (s.setZero t rail b (some moved)) t rail b
  rw [hdrift] at hchecked hnotice
  rw [hu]
  refine ⟨?_, ?_, ?_, hchecked, hnotice⟩
  · rw [checkDrift_state]
    rfl
  · rw [checkDrift_state]
    rfl
  · rw [checkDrift_zero, zero_setZero]

end Bay

end ZeroSample

/-! ### The ambient sample (R75) -/

theorem exec_ambientSample {s : State} {now : SiteTime} {x : Scan} {channel : Nat} (sample : BitVec 16)
    (hscan : s.strain.scan = some x) (hdue : 4 * (x.done + 1) ≤ interval x.grantedAt now)
    (hchannel : x.ambientChannel = some channel) (hdone : x.done = x.entries.length)
    (hslots : s.strain.slots = ⟨none, none⟩) : exec (.conversionEnd now sample) s = .next { s with
      siteTime := now
      strain := { s.strain with
        scan := none
        ambient := if sample = 32768 ∨ sample = 32767 then s.strain.ambient else some (max (-32767) (min 32767
          (roundDiv ((sample.toInt - s.siteArea.ambientZero) * s.siteArea.ambientScale) 65536))) } } := by
  have hlast : x.total ≤ x.done + 1 := by
    rw [Scan.total, hchannel, hdone]
    exact Nat.le_refl _
  have hwaiting : ((s.atTime now).takeSample x sample.toInt).strain.slots = ⟨none, none⟩ := by
    rw [takeSample_ambient sample hdone]
    exact hslots
  rw [exec_conversionEnd sample hscan hdue, endConversion_last hlast hwaiting, takeSample_ambient sample hdone]
  rfl

/-! ### A bay sample after a COMMIT of its site time (R67, R187) -/

section Committed

variable {s u : State} {now : SiteTime} {x : Scan} {entry : Nat × Nat} {rail : Rail} {b : Fin 8} {z : Int}
  (hcommit : CommittedFirst s u now x.track) (hscan : s.strain.scan = some x) (hpromoted : x.promotedSince = false)
  (hbay : (s.area x.track).bayOfChannel entry.1 = some (rail, b)) (hz : s.zero x.track rail b = some z)

include hcommit in
theorem committedFirst_idle : (u.section x.track).state = .idle := by
  obtain ⟨-, -, -, -, approach, hsection⟩ := committedFirst_leaves hcommit
  rw [hsection]
  exact hcommit.1

include hcommit hscan hpromoted hbay hz

/-- R187: the sample is judged by the area and the working zero that the COMMIT has kept. -/
theorem wakesBefore_committedFirst (sample : Int) :
    u.wakesBefore x.track entry.1 sample = wakes z sample (s.area x.track).wakeThreshold := by
  have hscanned : s.strain.handling x.track = true := by simp [StrainUnit.handling, hscan, hpromoted]
  have hzero : bayGet (s.strain.zeros.get x.track) rail b = some z := hz
  simp [State.wakesBefore, coinciding_committedFirst hcommit, State.beforePromotion, hbay, hzero, hscanned]

/-- R67, R187: the COMMIT has outdated the scan, whose samples are discarded but for a load wake. -/
theorem exec_conversionEnd_committedFirst (sample : BitVec 16) (hdue : 4 * (x.done + 1) ≤ interval x.grantedAt now)
    (hzero : x.request = .zero) (hentry : x.entries[x.done]? = some entry) :
    exec (.conversionEnd now sample) u = .next ((if wakes z sample.toInt (s.area x.track).wakeThreshold then
      u.wakeTrack x.track else u).endConversion { x with promotedSince := true }) := by
  obtain ⟨htime, -, -, ⟨-, -, -, -, -, -, -, -, hscans⟩, -⟩ := committedFirst_leaves hcommit
  rw [exec_conversionEnd sample (hscans x hscan rfl) hdue, atTime_self htime,
    takeSample_zero (x := { x with promotedSince := true }) _ hentry hzero (committedFirst_idle hcommit), if_pos rfl,
    wakesBefore_committedFirst hcommit hscan hpromoted hbay hz]

end Committed

/-! ### The statement -/

/-- Settles O34, from the three outcomes of a bay sample, the ambient sample, and what a COMMIT keeps. -/
theorem zeroScanSamplesFollowTheirRules : Obligations.ZeroScanSamplesFollowTheirRules := by
  refine ⟨fun now sample x entry rail b z s u hscan hdue hzero hentry hpromoted hbay hz hcommit => ?_,
    fun now sample x s hscan hdue =>
      ⟨fun channel hchannel hdone hslots => exec_ambientSample sample hscan hdue hchannel hdone hslots,
        fun entry rail b z hzero hentry hpromoted hidle hbay hz => ?_⟩⟩
  · intro clipped threshold wake image
    obtain ⟨htime, -, -, ⟨harea, -⟩, -⟩ := committedFirst_leaves hcommit
    have hidle := committedFirst_idle hcommit
    have hwakes : wakes z sample.toInt threshold = true ↔ wake := wakes_iff z sample _
    refine ⟨hidle, harea, _,
      exec_conversionEnd_committedFirst hcommit hscan hpromoted hbay hz sample hdue hzero hentry, ?_⟩
    rw [endConversion_config, endConversion_ports, endConversion_zeros, endConversion_drifted, endConversion_section,
      endConversion_sections, endConversion_scanners]
    by_cases hw : wake
    · rw [if_pos (hwakes.mpr hw)]
      refine ⟨(wakeTrack_frame u x.track).config_eq, (wakeTrack_frame u x.track).ports_eq, wakeTrack_zeros u _,
        wakeTrack_drifted u _, fun _ => ?_, fun hnot => absurd hw hnot⟩
      rw [wakeTrack_section hidle, harea, htime]
      exact ⟨rfl, rfl⟩
    · rw [if_neg (mt hwakes.mp hw)]
      exact ⟨rfl, rfl, rfl, rfl, fun h => absurd h hw, fun _ => ⟨rfl, rfl⟩⟩
  · intro threshold wake moved drifted
    have hwakes : wakes z sample.toInt threshold = true ↔ wake := wakes_iff z sample _
    have hclips := isClipped_iff sample
    have hexec := exec_conversionEnd sample hscan hdue
    rw [takeSample_zero (s := s.atTime now) _ hentry hzero hidle, hpromoted, if_neg Bool.false_ne_true] at hexec
    have woken (hw : wake) := takeZeroSample_wakes (s := s.atTime now) hbay hz (hwakes.mpr hw)
    have discarded (hw : ¬wake) hc :=
      takeZeroSample_clipped (s := s.atTime now) hbay hz (mt hwakes.mp hw) (hclips.mpr hc)
    have nudged (hw : ¬wake) hc :=
      takeZeroSample_moves (s := s.atTime now) hbay hz (mt hwakes.mp hw) (mt hclips.mp hc)
    refine ⟨_, hexec, ?_, fun o r2 b2 hne => ?_, fun hw => ?_, fun hw => ?_, fun h => ?_, fun hw hc => ?_, ?_⟩
    · rw [endConversion_strain, takeZeroSample_state]
      rfl
    · rw [endConversion_zero, endConversion_isDrifted]
      exact takeZeroSample_of_ne (s := s.atTime now) hbay hz hne
    · rw [endConversion_zero, endConversion_section, woken hw, wakeTrack_section (s := s.atTime now) hidle,
        State.zero, wakeTrack_zeros]
      exact ⟨hz, rfl, rfl⟩
    · rw [endConversion_sections, endConversion_scanners, endConversion_zero]
      split
      next hc =>
        rw [discarded hw hc]
        exact ⟨rfl, rfl, hz⟩
      next hc =>
        obtain ⟨hsections, hscanners, hmoved, -⟩ := nudged hw hc
        exact ⟨hsections, hscanners, hmoved⟩
    · rw [endConversion_isDrifted, endConversion_ports]
      by_cases hw : wake
      · rw [woken hw, (wakeTrack_frame _ x.track).ports_eq, State.isDrifted, wakeTrack_drifted]
        exact ⟨rfl, rfl⟩
      · rw [discarded hw (h.resolve_left hw)]
        exact ⟨rfl, rfl⟩
    · rw [endConversion_isDrifted, endConversion_ports]
      obtain ⟨-, -, -, hdrifted, hports⟩ := nudged hw hc
      exact ⟨hdrifted, hports⟩
    · have frame := takeZeroSample_frame (s.atTime now) x.track entry.1 sample.toInt
      rw [endConversion_section, frame.section_eq (by simp [(ne_otherTrack x.track).symm])]
      rfl

end Sys2Proof.Machine
end

section
/-! PROOFS. The results of wheels, axles and scanners (R79 to R86, R108): the trimmed mean of the forces of a wheel, the
greatest peak force with its bay, and the statement's figures. -/

namespace Sys2Proof.Machine

open Sys2Proof

-- One proof after another: elaborated side by side they ask for more threads than check.sh allows.
set_option Elab.async false

/-! ### The greatest and the least of some numbers -/

theorem max?_eq_greatest : ∀ {xs : List Nat}, xs ≠ [] → xs.max? = some (greatest xs)
  | x :: xs, _ => by rw [List.max?_cons', greatest, List.foldl_cons, Nat.zero_max]

theorem min?_eq_least : ∀ {xs : List Nat}, xs ≠ [] → xs.min? = some (least xs)
  | _ :: _, _ => List.min?_cons'

theorem greatest_eq {xs : List Nat} {hi : Nat} (hmem : hi ∈ xs) (h : ∀ x ∈ xs, x ≤ hi) : greatest xs = hi :=
  Option.some.inj ((max?_eq_greatest (List.ne_nil_of_mem hmem)).symm.trans (List.max?_eq_some_iff.mpr ⟨hmem, h⟩))

theorem least_eq {xs : List Nat} {lo : Nat} (hmem : lo ∈ xs) (h : ∀ x ∈ xs, lo ≤ x) : least xs = lo :=
  Option.some.inj ((min?_eq_least (List.ne_nil_of_mem hmem)).symm.trans (List.min?_eq_some_iff.mpr ⟨hmem, h⟩))

theorem greatest_spec {xs : List Nat} (h : xs ≠ []) : greatest xs ∈ xs ∧ ∀ x ∈ xs, x ≤ greatest xs :=
  List.max?_eq_some_iff.mp (max?_eq_greatest h)

theorem least_spec {xs : List Nat} (h : xs ≠ []) : least xs ∈ xs ∧ ∀ x ∈ xs, least xs ≤ x :=
  List.min?_eq_some_iff.mp (min?_eq_least h)

/-! ### The static load of a wheel (R82) -/

/-- R82: the mean of two forces, a half rounded up. -/
theorem wheelLoad_two (f g : Nat) : wheelLoad [f, g] = some ((f + g + 1) / 2) := by
  rw [wheelLoad, roundNat]
  congr 1
  omega

/-- R82: the mean without the greatest and the least, of three forces or more. -/
theorem wheelLoad_of_three_le : ∀ {forces : List Nat}, 3 ≤ forces.length → wheelLoad forces =
    some (roundNat (forces.sum - greatest forces - least forces) (forces.length - 2))
  | _ :: _ :: _ :: _, _ => rfl

/-- R82: without the greatest and the least of n forces, n − 2 of them are left, each between the two. -/
theorem trimmed_sum_bounds {xs : List Nat} {hi lo : Nat} (hhi : hi ∈ xs) (hlo : lo ∈ xs)
    (h : ∀ x ∈ xs, lo ≤ x ∧ x ≤ hi) :
    lo * (xs.length - 2) ≤ xs.sum - hi - lo ∧ xs.sum - hi - lo ≤ hi * (xs.length - 2) := by
  have below : (xs.erase hi).length • lo ≤ (xs.erase hi).sum :=
    List.card_nsmul_le_sum _ _ fun x hx => (h x (List.mem_of_mem_erase hx)).1
  have above : (xs.erase lo).sum ≤ (xs.erase lo).length • hi :=
    List.sum_le_card_nsmul _ _ fun x hx => (h x (List.mem_of_mem_erase hx)).2
  have hsum : hi + (xs.erase hi).sum = xs.sum := List.sum_erase hhi
  have lsum : lo + (xs.erase lo).sum = xs.sum := List.sum_erase hlo
  rw [List.length_erase_of_mem hhi, smul_eq_mul] at below
  rw [List.length_erase_of_mem hlo, smul_eq_mul] at above
  rw [Nat.mul_comm lo, Nat.mul_comm hi, show xs.length - 2 = xs.length - 1 - 1 from rfl, Nat.sub_one_mul _ lo,
    Nat.sub_one_mul _ hi]
  omega

/-- R82: the static load lies between the least and the greatest force. -/
theorem wheelLoad_between {forces : List Nat} {w : Nat} (h : wheelLoad forces = some w) :
    (∃ f ∈ forces, f ≤ w) ∧ ∃ f ∈ forces, w ≤ f := by
  match forces with
  | [] => cases h
  | [f] =>
    cases h
    exact ⟨⟨w, List.mem_singleton_self w, le_rfl⟩, w, List.mem_singleton_self w, le_rfl⟩
  | [f, g] =>
    rw [wheelLoad_two] at h
    cases h
    rcases Nat.le_total f g with hfg | hfg
    · exact ⟨⟨f, by simp, by omega⟩, g, by simp, by omega⟩
    · exact ⟨⟨g, by simp, by omega⟩, f, by simp, by omega⟩
  | x :: y :: z :: rest =>
    set forces := x :: y :: z :: rest
    have hlen : 3 ≤ forces.length := by simp [forces]
    obtain ⟨hhi, above⟩ := greatest_spec (xs := forces) (by simp [forces])
    obtain ⟨hlo, below⟩ := least_spec (xs := forces) (by simp [forces])
    obtain ⟨hleast, hgreatest⟩ := trimmed_sum_bounds hhi hlo fun f hf => ⟨below f hf, above f hf⟩
    rw [wheelLoad_of_three_le hlen] at h
    cases h
    exact ⟨⟨_, hlo, le_roundNat (by omega) hleast⟩, _, hhi, roundNat_le (by omega) hgreatest⟩

/-! ### Forces (R80, R81) -/

theorem forceOf_eq (d : Int) (scale : Nat) :
    let f := roundDiv (d * scale) 65536
    forceOf d scale = ((max 0 (min f 65534)).toNat, decide (65534 < f)) := by
  unfold forceOf greatestForce
  generalize roundDiv (d * scale) 65536 = f
  dsimp only
  split
  · next h => rw [min_eq_left (by omega), max_eq_left h.le, decide_eq_false (by omega)]; rfl
  · split
    · next h => rw [min_eq_right (by omega), decide_eq_true (by omega)]; rfl
    · next h => rw [min_eq_left (by omega), max_eq_right (by omega), decide_eq_false (by omega)]

/-- R81: the bays that have a peak force: the set ones with a sample, and a peak or the CLIPPED mark. -/
def BayInput.Sampled (b : BayInput) : Prop :=
  b.slot.set = true ∧ 1 ≤ b.acc.n ∧ (b.acc.clipped = true ∨ b.acc.peak ≠ none)

theorem peakForce_of_sampled {b : BayInput} (h : b.Sampled) : b.peakForce =
    some (if b.acc.clipped = true then (65534, true) else forceOf (b.acc.peak.getD 0) b.slot.scale) := by
  obtain ⟨hset, hn, hpeak⟩ := h
  rw [BayInput.peakForce, if_pos (by simp [hset, hn])]
  split
  · rfl
  · next hclipped =>
    obtain ⟨p, hp⟩ := Option.ne_none_iff_exists'.mp (hpeak.resolve_left hclipped)
    simp only [hp, Option.getD_some]

theorem peakForce_eq_none_iff (b : BayInput) : b.peakForce = none ↔ ¬b.Sampled := by
  refine ⟨fun h hs => ?_, fun h => ?_⟩
  · rw [peakForce_of_sampled hs] at h
    cases h
  · unfold BayInput.peakForce
    split
    · next hset =>
      rw [Bool.and_eq_true, decide_eq_true_eq] at hset
      split
      · next hclipped => exact absurd ⟨hset.1, hset.2, .inl hclipped⟩ h
      · split
        · rfl
        · next p hp => exact absurd ⟨hset.1, hset.2, .inr (by simp [hp])⟩ h
    · rfl

theorem peakForce_eq_some_iff (b : BayInput) (q : Nat × Bool) : b.peakForce = some q ↔ b.Sampled ∧
    q = if b.acc.clipped = true then (65534, true) else forceOf (b.acc.peak.getD 0) b.slot.scale := by
  by_cases h : b.Sampled
  · rw [peakForce_of_sampled h, Option.some_inj, eq_comm, and_iff_right h]
  · simp [(peakForce_eq_none_iff b).mpr h, h]

/-! ### The greatest peak force (R83) -/

theorem impactOf_eq_none_iff (k : Nat) (peaks : List (Option (Nat × Bool))) :
    impactOf k peaks = none ↔ ∀ x ∈ peaks, x = none := by
  induction peaks generalizing k with
  | nil => simp [impactOf]
  | cons x rest ih =>
    cases x with
    | none => simp [impactOf, ih]
    | some p =>
      simp only [impactOf, List.forall_mem_cons, reduceCtorEq, false_and, iff_false]
      split
      · simp
      · split <;> simp

/-- R83: the bay named is the first that gave the greatest peak force. -/
theorem impactOf_some {k : Nat} {peaks : List (Option (Nat × Bool))} {best : Nat × Nat}
    (h : impactOf k peaks = some best) : ∃ i p, peaks[i]? = some (some p) ∧ p.1 = best.1 ∧ best.2 = k + i ∧
      ∀ j q, peaks[j]? = some (some q) → q.1 ≤ best.1 ∧ (q.1 = best.1 → i ≤ j) := by
  induction peaks generalizing k best with
  | nil => cases h
  | cons x rest ih =>
    have later (hrest : impactOf (k + 1) rest = some best) (hx : ∀ p, x = some p → p.1 < best.1) :
        ∃ i p, (x :: rest)[i]? = some (some p) ∧ p.1 = best.1 ∧ best.2 = k + i ∧
          ∀ j q, (x :: rest)[j]? = some (some q) → q.1 ≤ best.1 ∧ (q.1 = best.1 → i ≤ j) := by
      obtain ⟨i, p, hp, hbest, hi, hmax⟩ := ih hrest
      refine ⟨i + 1, p, hp, hbest, by omega, fun j q hq => ?_⟩
      cases j with
      | zero =>
        have hlt := hx q (Option.some.inj hq)
        exact ⟨hlt.le, fun heq => absurd heq hlt.ne⟩
      | succ j => exact ⟨(hmax j q hq).1, fun heq => Nat.succ_le_succ ((hmax j q hq).2 heq)⟩
    cases x with
    | none => exact later h fun p hp => nomatch hp
    | some p =>
      have here (hrest : ∀ (j : Nat) (q : Nat × Bool), rest[j]? = some (some q) → q.1 ≤ p.1) (hb : best = (p.1, k)) :
          ∃ i p', (some p :: rest)[i]? = some (some p') ∧ p'.1 = best.1 ∧ best.2 = k + i ∧
            ∀ j q, (some p :: rest)[j]? = some (some q) → q.1 ≤ best.1 ∧ (q.1 = best.1 → i ≤ j) := by
        subst hb
        refine ⟨0, p, rfl, rfl, rfl, fun j q hq => ⟨?_, fun _ => Nat.zero_le j⟩⟩
        cases j with
        | zero => cases hq; exact le_rfl
        | succ j => exact hrest j q hq
      rw [impactOf] at h
      split at h
      · next hnone =>
        refine here (fun j q hq => ?_) (Option.some.inj h).symm
        exact nomatch (impactOf_eq_none_iff _ _).mp hnone _ (List.mem_of_getElem? hq)
      · next b hb =>
        split at h
        · next hlt =>
          cases h
          exact later hb fun _ hp => by cases hp; exact hlt
        · next hge =>
          obtain ⟨_, _, _, _, _, hmax⟩ := ih hb
          exact here (fun j q hq => (hmax j q hq).1.trans (Nat.le_of_not_lt hge)) (Option.some.inj h).symm

/-! ### Validity, ratio, axle and scanner results (R79, R84 to R86, R108) -/

theorem BayInput.valid_eq (b : BayInput) (nMin : Nat) : b.valid nMin = decide (b.slot.set = true ∧ nMin ≤ b.acc.n ∧
    b.drifted = false ∧ b.acc.clipped = false ∧ b.acc.overlap = false) := by
  simp [BayInput.valid, Bool.and_assoc]

/-- R80, R81: a wheel is saturated by the static force of a valid bay or by the peak force of a bay. -/
theorem wheelResult_saturated_iff (nMin : Nat) (bays : List BayInput) :
    (wheelResult nMin bays).saturated = true ↔
      (∃ b ∈ bays.filter fun b => b.valid nMin, b.staticForce.2 = true) ∨
        ∃ b ∈ bays, ∃ q, b.peakForce = some q ∧ q.2 = true := by
  simp only [wheelResult, Bool.or_eq_true, List.any_eq_true, List.mem_map, exists_exists_and_eq_and]
  refine or_congr_right (exists_congr fun b => and_congr_right fun _ => ?_)
  cases b.peakForce <;> simp

theorem imbalanceOf_some (l r : Nat) : imbalanceOf (some l) (some r) =
    if l + r = 0 then none else some ((2 * (1000 * l) + (l + r)) / (2 * (l + r))) := rfl

theorem thermalResult_lines (least : Nat) (ambient : Option Int) (a : ScannerAccumulator) :
    (thermalResult least ambient a).lines = a.lines := by
  unfold thermalResult
  split
  · split <;> rfl
  · split <;> rfl

/-- R108: too few lines leave a reason only, a mark before SPARSE. -/
theorem thermalResult_sparse {least : Nat} {a : ScannerAccumulator} (h : a.lines < least) (ambient : Option Int) :
    thermalResult least ambient a = ⟨none, none, match a.mark with
      | .fault => .fault
      | .shutter => .shutter
      | .none => .sparse, a.lines⟩ := by
  unfold thermalResult
  rw [if_neg (Nat.not_le_of_lt h)]
  cases a.mark <;> rfl

/-! ### The statement -/

/-- Settles O40, result by result. -/
theorem loadAndThermalResultsFollowTheirRules : Obligations.LoadAndThermalResultsFollowTheirRules := by
  refine ⟨fun forces w => wheelLoad_between, fun f g => ⟨rfl, rfl, wheelLoad_two f g⟩, ?trimmed, ?wheel, ?axle,
    ?thermal⟩
  case trimmed =>
    intro forces hi lo hlen hhi hlo h
    rw [wheelLoad_of_three_le hlen, greatest_eq hhi fun f hf => (h f hf).2, least_eq hlo fun f hf => (h f hf).1]
    rfl
  case wheel =>
    intro nMin bays valid scaled force static sampled peak w
    have hvalid : (bays.filter fun b => b.valid nMin) = valid := by simp only [BayInput.valid_eq, valid]
    have hstatic (b : BayInput) : b.staticForce = (force (static b), decide (65534 < static b)) := forceOf_eq _ _
    have hpeak (b : BayInput) (q : Nat × Bool) : b.peakForce = some q ↔ sampled b ∧ q = (peak b,
        decide (b.acc.clipped = true ∨ 65534 < scaled (b.acc.peak.getD 0) b)) := by
      rw [peakForce_eq_some_iff, forceOf_eq]
      refine and_congr_right fun _ => ?_
      by_cases hclipped : b.acc.clipped = true <;> simp [peak, force, scaled, hclipped]
    have hnone (b : BayInput) : b.peakForce = none ↔ ¬sampled b := peakForce_eq_none_iff b
    refine ⟨congrArg List.length hvalid, ?load, ?few, ?saturated, ?absent, ?greatest, ?ratio⟩
    case load =>
      show wheelLoad ((bays.filter fun b => b.valid nMin).map fun b => b.staticForce.1) = _
      rw [hvalid]
      simp only [hstatic]
    case few =>
      show decide ((bays.filter fun b => b.valid nMin).length = 1) = true ↔ _
      rw [hvalid, decide_eq_true_eq]
    case saturated =>
      rw [wheelResult_saturated_iff, hvalid]
      simp [hstatic, hpeak]
    case absent =>
      show (impactOf 1 (bays.map BayInput.peakForce)).map (fun x => x.1) = none ↔ _
      rw [Option.map_eq_none_iff, impactOf_eq_none_iff]
      simp only [List.forall_mem_map, hnone]
    case greatest =>
      intro p hp
      obtain ⟨best, hbest, rfl⟩ := Option.map_eq_some_iff.mp hp
      obtain ⟨i, q, hq, hqp, hi, hmax⟩ := impactOf_some hbest
      have ofBay {j : Nat} {x : BayInput} (hx : bays[j]? = some x) (hs : sampled x) :
          (bays.map BayInput.peakForce)[j]? = some (some (peak x, decide (x.acc.clipped = true ∨
            65534 < scaled (x.acc.peak.getD 0) x))) := by
        rw [List.getElem?_map, hx, Option.map_some, (hpeak x _).mpr ⟨hs, rfl⟩]
      rw [List.getElem?_map] at hq
      obtain ⟨b, hb, hbq⟩ := Option.map_eq_some_iff.mp hq
      obtain ⟨hs, rfl⟩ := (hpeak b q).mp hbq
      refine ⟨i, b, hb, hs, hqp, ?_, fun j x hx hs => hmax j _ (ofBay hx hs)⟩
      show (impactOf 1 (bays.map BayInput.peakForce)).map (fun x => x.2) = _
      rw [hbest, Option.map_some, hi, Nat.add_comm]
    case ratio => rfl
  case axle =>
    intro l r
    refine ⟨rfl, rfl, fun x => ?_, imbalanceOf_some l r, rfl, fun x => ?_⟩ <;> cases x <;> rfl
  case thermal =>
    intro least ambient a r
    refine ⟨thermalResult_lines least ambient a, fun h => ?_, fun h m hm => ?_⟩
    · rw [show r = _ from thermalResult_sparse h ambient]
      exact ⟨rfl, rfl, rfl⟩
    · cases ambient with
      | none => simp [r, thermalResult, h, hm]
      | some x => simp [r, thermalResult, h, hm, clampInt]

end Sys2Proof.Machine
end

section
/-! PROOFS. The load checks and the thermal checks of an axle (R88 to R92, R109 to R112): which alarms each check
raises, and the order of them all. -/

namespace Sys2Proof.Machine

open Sys2Proof

-- One proof after another: elaborated side by side they ask for more threads than check.sh allows.
set_option Elab.async false

/-- The checks that alarms come from, with their sides, in order. -/
def checkOrder (alarms : List Alarm) : List (AlarmKind × Side) := alarms.map fun a => (a.kind, a.side)

theorem checkOrder_append (xs ys : List Alarm) : checkOrder (xs ++ ys) = checkOrder xs ++ checkOrder ys :=
  List.map_append

/-- A single check that raises one alarm or none. -/
theorem checkOrder_ite {P : Prop} [Decidable P] (a : Alarm) :
    (checkOrder (if P then [a] else [])).Sublist [(a.kind, a.side)] := by
  split
  · exact .refl _
  · exact List.nil_sublist _

section Checks

variable {b : AlarmBase} {p : Profile} {side : Side} {a : Alarm}

/-! ### Load checks (R89 to R92) -/

theorem mem_impactCheck {w : WheelResult} : a ∈ impactCheck b p side w ↔ ∃ v, w.peak = some v ∧
    ((p.impactAlarm ≤ v ∧ a = b.alarm .impact .alarm side v p.impactAlarm) ∨
      (v < p.impactAlarm ∧ p.impactWarning ≤ v ∧ a = b.alarm .impact .warning side v p.impactWarning)) := by
  unfold impactCheck
  cases w.peak with
  | none => simp
  | some v =>
    by_cases alarm : p.impactAlarm ≤ v
    · simp [alarm, Nat.not_lt.mpr alarm]
    · by_cases warning : p.impactWarning ≤ v <;> simp [alarm, warning, Nat.lt_of_not_le alarm]

theorem mem_ratioCheck {w : WheelResult} : a ∈ ratioCheck b p side w ↔ ∃ v, w.ratio = some v ∧
    p.ratioWarning ≤ v ∧ a = b.alarm .impactRatio .warning side v p.ratioWarning := by
  unfold ratioCheck
  cases w.ratio with
  | none => simp
  | some v => by_cases h : p.ratioWarning ≤ v <;> simp [h]

theorem mem_overloadCheck {load : Option Nat} : a ∈ overloadCheck b p load ↔ ∃ v, load = some v ∧
    p.axleAlarm ≤ v ∧ a = b.alarm .axleOverload .alarm .none v p.axleAlarm := by
  unfold overloadCheck
  cases load with
  | none => simp
  | some v => by_cases h : p.axleAlarm ≤ v <;> simp [h]

theorem mem_imbalanceCheck {imbalance : Option Nat} : a ∈ imbalanceCheck b p imbalance ↔ ∃ v, imbalance = some v ∧
    ((p.imbalanceUpper < v ∧ a = b.alarm .imbalance .warning .l v p.imbalanceUpper) ∨
      (v ≤ p.imbalanceUpper ∧ v < p.imbalanceLower ∧
        a = b.alarm .imbalance .warning .r v p.imbalanceLower)) := by
  unfold imbalanceCheck
  cases imbalance with
  | none => simp
  | some v =>
    by_cases upper : p.imbalanceUpper < v
    · simp [upper, Nat.not_le.mpr upper]
    · by_cases lower : v < p.imbalanceLower <;> simp [upper, lower, Nat.le_of_not_lt upper]

theorem checkOrder_impactCheck (w : WheelResult) : (checkOrder (impactCheck b p side w)).Sublist [(.impact, side)] := by
  unfold impactCheck
  split
  · exact List.nil_sublist _
  · split
    · exact .refl _
    · split
      · exact .refl _
      · exact List.nil_sublist _

theorem checkOrder_ratioCheck (w : WheelResult) :
    (checkOrder (ratioCheck b p side w)).Sublist [(.impactRatio, side)] := by
  unfold ratioCheck
  split
  · exact List.nil_sublist _
  · exact checkOrder_ite _

theorem checkOrder_overloadCheck (load : Option Nat) :
    (checkOrder (overloadCheck b p load)).Sublist [(.axleOverload, .none)] := by
  unfold overloadCheck
  split
  · exact List.nil_sublist _
  · exact checkOrder_ite _

/-- R92: an imbalance cannot lie on both sides of the band. -/
theorem checkOrder_imbalanceCheck (imbalance : Option Nat) :
    (checkOrder (imbalanceCheck b p imbalance)).Sublist [(.imbalance, .l), (.imbalance, .r)] := by
  unfold imbalanceCheck
  split
  · exact List.nil_sublist _
  · split
    · exact List.sublist_append_left [_] [_]
    · split
      · exact List.sublist_append_right [_] [_]
      · exact List.nil_sublist _

/-! ### Thermal checks (R110 to R112) -/

theorem mem_bearingLevelCheck {rise : Option Int} : a ∈ bearingLevelCheck b p side rise ↔ ∃ v, rise = some v ∧
    ((p.bearingHot ≤ v ∧ a = b.alarm .bearingHot .alarm side v p.bearingHot) ∨
      (v < p.bearingHot ∧ p.bearingWarm ≤ v ∧ a = b.alarm .bearingWarm .warning side v p.bearingWarm)) := by
  unfold bearingLevelCheck
  cases rise with
  | none => simp
  | some v =>
    by_cases hot : (p.bearingHot : Int) ≤ v
    · simp [hot, Int.not_lt.mpr hot]
    · by_cases warm : (p.bearingWarm : Int) ≤ v <;> simp [hot, warm, Int.lt_of_not_ge hot]

theorem mem_bearingDiffCheck {sum : RiseSum} {rise : Option Int} : a ∈ bearingDiffCheck b p side sum rise ↔
    ∃ v, rise = some v ∧ p.diffMinAxles ≤ sum.count ∧ p.bearingDiff ≤ v - roundDiv sum.sum sum.count ∧
      a = b.alarm .bearingDiff .warning side (v - roundDiv sum.sum sum.count) p.bearingDiff := by
  unfold bearingDiffCheck
  cases rise with
  | none => simp
  | some v =>
    dsimp only
    by_cases h : p.diffMinAxles ≤ sum.count ∧ (p.bearingDiff : Int) ≤ v - roundDiv sum.sum sum.count
    · simp [h]
    · rw [if_neg h]
      refine iff_of_false List.not_mem_nil ?_
      rintro ⟨v', hv, hcount, hexcess, -⟩
      cases hv
      exact h ⟨hcount, hexcess⟩

/-- R110, R111: both checks of a bearing. -/
theorem mem_bearingChecks {sum : RiseSum} {rise : Option Int} :
    a ∈ bearingLevelCheck b p side rise ∨ a ∈ bearingDiffCheck b p side sum rise ↔ ∃ v, rise = some v ∧
      ((p.bearingHot ≤ v ∧ a = b.alarm .bearingHot .alarm side v p.bearingHot) ∨
        (v < p.bearingHot ∧ p.bearingWarm ≤ v ∧ a = b.alarm .bearingWarm .warning side v p.bearingWarm) ∨
        (p.diffMinAxles ≤ sum.count ∧ p.bearingDiff ≤ v - roundDiv sum.sum sum.count ∧
          a = b.alarm .bearingDiff .warning side (v - roundDiv sum.sum sum.count) p.bearingDiff)) := by
  rw [mem_bearingLevelCheck, mem_bearingDiffCheck, ← exists_or]
  simp only [← and_or_left, or_assoc]

theorem mem_bearingCrossCheck {left right : Option Int} : a ∈ bearingCrossCheck b p left right ↔
    ∃ l r, left = some l ∧ right = some r ∧ p.bearingCross ≤ (l - r).natAbs ∧
      a = b.alarm .bearingCross .warning (if l < r then .r else .l) (l - r).natAbs p.bearingCross := by
  unfold bearingCrossCheck
  cases left with
  | none => simp
  | some l =>
    cases right with
    | none => simp
    | some r =>
      dsimp only
      by_cases h : p.bearingCross ≤ (l - r).natAbs
      · rw [if_pos (Int.ofNat_le.mpr h), List.mem_singleton]
        exact ⟨fun ha => ⟨l, r, rfl, rfl, h, ha⟩, fun ⟨_, _, hl, hr, _, ha⟩ => by cases hl; cases hr; exact ha⟩
      · rw [if_neg fun hle => h (Int.ofNat_le.mp hle)]
        exact iff_of_false List.not_mem_nil fun ⟨_, _, hl, hr, hle, _⟩ => by cases hl; cases hr; exact h hle

theorem mem_wheelHotCheck {rise : Option Int} : a ∈ wheelHotCheck b p side rise ↔ ∃ v, rise = some v ∧
    p.hotWheel ≤ v ∧ a = b.alarm .wheelHot .warning side v p.hotWheel := by
  unfold wheelHotCheck
  cases rise with
  | none => simp
  | some v => by_cases h : (p.hotWheel : Int) ≤ v <;> simp [h]

theorem checkOrder_bearingLevelCheck (rise : Option Int) :
    (checkOrder (bearingLevelCheck b p side rise)).Sublist [(.bearingHot, side), (.bearingWarm, side)] := by
  unfold bearingLevelCheck
  split
  · exact List.nil_sublist _
  · split
    · exact List.sublist_append_left [_] [_]
    · split
      · exact List.sublist_append_right [_] [_]
      · exact List.nil_sublist _

theorem checkOrder_bearingDiffCheck (sum : RiseSum) (rise : Option Int) :
    (checkOrder (bearingDiffCheck b p side sum rise)).Sublist [(.bearingDiff, side)] := by
  unfold bearingDiffCheck
  split
  · exact List.nil_sublist _
  · exact checkOrder_ite _

theorem checkOrder_bearingCrossCheck (left right : Option Int) :
    (checkOrder (bearingCrossCheck b p left right)).Sublist [(.bearingCross, .l), (.bearingCross, .r)] := by
  unfold bearingCrossCheck
  split
  · next l r =>
    dsimp only
    split
    · rcases ite_eq_or_eq (l < r) Side.r Side.l with hside | hside <;> rw [hside]
      · exact List.sublist_append_right [_] [_]
      · exact List.sublist_append_left [_] [_]
    · exact List.nil_sublist _
  · exact List.nil_sublist _

theorem checkOrder_wheelHotCheck (rise : Option Int) :
    (checkOrder (wheelHotCheck b p side rise)).Sublist [(.wheelHot, side)] := by
  unfold wheelHotCheck
  split
  · exact List.nil_sublist _
  · exact checkOrder_ite _

end Checks

/-! ### All checks of an axle (R88, R112) -/

/-- R88: the order of the load alarms. -/
theorem checkOrder_loadAlarms (b : AlarmBase) (p : Profile) (w : PerRail WheelResult) :
    (checkOrder (loadAlarms b p w)).Sublist
      [(.impact, .l), (.impactRatio, .l), (.impact, .r), (.impactRatio, .r), (.axleOverload, .none),
        (.imbalance, .l), (.imbalance, .r)] := by
  simp only [loadAlarms, checkOrder_append]
  exact (((((checkOrder_impactCheck w.l).append (checkOrder_ratioCheck w.l)).append
    (checkOrder_impactCheck w.r)).append (checkOrder_ratioCheck w.r)).append
    (checkOrder_overloadCheck _)).append (checkOrder_imbalanceCheck _)

/-- R112: the order of the thermal alarms. -/
theorem checkOrder_thermalAlarms (b : AlarmBase) (p : Profile) (sums : PerRail RiseSum) (h : PerScanner ThermalResult) :
    (checkOrder (thermalAlarms b p sums h)).Sublist
      [(.bearingHot, .l), (.bearingWarm, .l), (.bearingDiff, .l), (.bearingHot, .r), (.bearingWarm, .r),
        (.bearingDiff, .r), (.bearingCross, .l), (.bearingCross, .r), (.wheelHot, .l), (.wheelHot, .r)] := by
  simp only [thermalAlarms, checkOrder_append]
  exact ((((((checkOrder_bearingLevelCheck _).append (checkOrder_bearingDiffCheck _ _)).append
    (checkOrder_bearingLevelCheck _)).append (checkOrder_bearingDiffCheck _ _)).append
    (checkOrder_bearingCrossCheck _ _)).append (checkOrder_wheelHotCheck _)).append (checkOrder_wheelHotCheck _)

/-- R88 to R92: the load alarms of an axle, check by check. -/
theorem mem_loadAlarms_iff (b : AlarmBase) (p : Profile) (w : PerRail WheelResult) {a : Alarm} :
    a ∈ loadAlarms b p w ↔
      (∃ x ∈ [(Side.l, w.l), (Side.r, w.r)],
        (∃ v, x.2.peak = some v ∧
          ((p.impactAlarm ≤ v ∧ a = b.alarm .impact .alarm x.1 v p.impactAlarm) ∨
            (v < p.impactAlarm ∧ p.impactWarning ≤ v ∧ a = b.alarm .impact .warning x.1 v p.impactWarning))) ∨
        ∃ v, x.2.ratio = some v ∧ p.ratioWarning ≤ v ∧
          a = b.alarm .impactRatio .warning x.1 v p.ratioWarning) ∨
      (∃ v, axleLoadOf w.l.load w.r.load = some v ∧ p.axleAlarm ≤ v ∧
        a = b.alarm .axleOverload .alarm .none v p.axleAlarm) ∨
      ∃ v, imbalanceOf w.l.load w.r.load = some v ∧
        ((p.imbalanceUpper < v ∧ a = b.alarm .imbalance .warning .l v p.imbalanceUpper) ∨
          (v ≤ p.imbalanceUpper ∧ v < p.imbalanceLower ∧
            a = b.alarm .imbalance .warning .r v p.imbalanceLower)) := by
  simp only [loadAlarms, List.mem_append, mem_impactCheck, mem_ratioCheck, mem_overloadCheck, mem_imbalanceCheck,
    List.exists_mem_cons_iff, List.not_mem_nil, false_and, exists_false, or_false, or_assoc]

/-- R110 to R112: the thermal alarms of an axle, check by check. -/
theorem mem_thermalAlarms_iff (b : AlarmBase) (p : Profile) (sums : PerRail RiseSum) (h : PerScanner ThermalResult)
    {a : Alarm} : a ∈ thermalAlarms b p sums h ↔
      (∃ x ∈ [(Side.l, sums.l, h.bl), (Side.r, sums.r, h.br)], ∃ v, x.2.2.rise = some v ∧
        ((p.bearingHot ≤ v ∧ a = b.alarm .bearingHot .alarm x.1 v p.bearingHot) ∨
          (v < p.bearingHot ∧ p.bearingWarm ≤ v ∧ a = b.alarm .bearingWarm .warning x.1 v p.bearingWarm) ∨
          (p.diffMinAxles ≤ x.2.1.count ∧ p.bearingDiff ≤ v - roundDiv x.2.1.sum x.2.1.count ∧
            a = b.alarm .bearingDiff .warning x.1 (v - roundDiv x.2.1.sum x.2.1.count) p.bearingDiff))) ∨
      (∃ l r, h.bl.rise = some l ∧ h.br.rise = some r ∧ p.bearingCross ≤ (l - r).natAbs ∧
        a = b.alarm .bearingCross .warning (if l < r then .r else .l) (l - r).natAbs p.bearingCross) ∨
      ∃ x ∈ [(Side.l, h.wl), (Side.r, h.wr)], ∃ v, x.2.rise = some v ∧ p.hotWheel ≤ v ∧
        a = b.alarm .wheelHot .warning x.1 v p.hotWheel := by
  simp only [thermalAlarms, List.mem_append, mem_bearingCrossCheck, mem_wheelHotCheck, List.exists_mem_cons_iff,
    List.not_mem_nil, false_and, exists_false, or_false, ← mem_bearingChecks, or_assoc]

/-- Whether an alarm of an axle is of a kind that the load computation unit raises (R88). -/
def Alarm.isLoad (a : Alarm) : Bool :=
  decide (a.kind = .impact ∨ a.kind = .impactRatio ∨ a.kind = .axleOverload ∨ a.kind = .imbalance)

theorem isLoad_of_mem_loadAlarms {b : AlarmBase} {p : Profile} {w : PerRail WheelResult} {a : Alarm}
    (h : a ∈ loadAlarms b p w) : a.isLoad = true := by
  have order := (checkOrder_loadAlarms b p w).subset (List.mem_map_of_mem h)
  simp only [List.mem_cons, Prod.mk.injEq, List.not_mem_nil, or_false] at order
  rw [Alarm.isLoad, decide_eq_true_eq]
  tauto

theorem isLoad_of_mem_thermalAlarms {b : AlarmBase} {p : Profile} {sums : PerRail RiseSum}
    {x : PerScanner ThermalResult} {a : Alarm} (h : a ∈ thermalAlarms b p sums x) : a.isLoad = false := by
  have order := (checkOrder_thermalAlarms b p sums x).subset (List.mem_map_of_mem h)
  have thermal : ∀ y ∈ [(AlarmKind.bearingHot, Side.l), (.bearingWarm, .l), (.bearingDiff, .l), (.bearingHot, .r),
      (.bearingWarm, .r), (.bearingDiff, .r), (.bearingCross, .l), (.bearingCross, .r), (.wheelHot, .l),
      (.wheelHot, .r)], ¬(y.1 = .impact ∨ y.1 = .impactRatio ∨ y.1 = .axleOverload ∨ y.1 = .imbalance) := by decide
  exact decide_eq_false (thermal _ order)

end Sys2Proof.Machine
end

section
/-! PROOFS. Finishing an axle at a count-out (R78, R109, R111, R123, R144): its alarms join the alarm list in an order
that keeps each unit's own, before an overload of its vehicle, and its bearing rises join the running sums. -/

namespace Sys2Proof.Machine

open Sys2Proof

-- One proof after another: elaborated side by side they ask for more threads than check.sh allows.
set_option Elab.async false

/-! ### Two units' alarms interleaved (log 12) -/

/-- Of two lists that a test tells apart, the interleaving keeps each in its order. -/
theorem interleave_filter {α : Type} (p : α → Bool) (pick : Nat → Bool) (fuel n : Nat) {xs ys : List α}
    (hx : ∀ x ∈ xs, p x = true) (hy : ∀ y ∈ ys, p y = false) :
    (interleave pick fuel n xs ys).1.filter p = xs ∧ (interleave pick fuel n xs ys).1.filter (fun x => !p x) = ys := by
  have apart {xs ys : List α} (hx : ∀ x ∈ xs, p x = true) (hy : ∀ y ∈ ys, p y = false) :
      (xs ++ ys).filter p = xs ∧ (xs ++ ys).filter (fun x => !p x) = ys := by
    rw [List.filter_append, List.filter_append, List.filter_eq_self.mpr hx,
      List.filter_eq_nil_iff.mpr (by simpa using hy), List.filter_eq_nil_iff.mpr (by simpa using hx),
      List.filter_eq_self.mpr (by simpa using hy), List.append_nil, List.nil_append]
    exact ⟨rfl, rfl⟩
  induction fuel generalizing n xs ys with
  | zero => exact apart hx hy
  | succ fuel ih =>
    match xs, ys with
    | [], ys => exact apart hx hy
    | x :: xs, [] => simpa only [List.append_nil, interleave] using apart hx hy
    | x :: xs, y :: ys =>
      have hpx := hx x List.mem_cons_self
      have hpy := hy y List.mem_cons_self
      rw [interleave]
      split
      · obtain ⟨left, right⟩ := ih (n + 1) (List.forall_mem_of_forall_mem_cons hx) hy
        simp [hpx, left, right]
      · obtain ⟨left, right⟩ := ih (n + 1) hx (List.forall_mem_of_forall_mem_cons hy)
        simp [hpy, left, right]

/-! ### The alarm list with room and numbers left (R144, R145) -/

/-- With room and a number left a raised alarm joins the list's tail. -/
theorem raise_joins {s : State} (a : Alarm) (hroom : s.alarms.list.length < 256) (hnext : s.alarms.next < 4294967295) :
    (s.raise a).alarms.list = s.alarms.list ++ [s.recordOf a] ∧ (s.raise a).alarms.next = s.alarms.next + 1 := by
  rcases raise_alarms s a with ⟨hlast, -, -⟩ | ⟨-, hlist, hnext'⟩
  · exact absurd hnext hlast
  · exact ⟨hlist.trans (congrArg Prod.fst (if_pos hroom)), hnext'⟩

/-- R144: the records that some alarms become one after another: numbered from `first`, and stamped. -/
structure RecordsOf (first : Nat) (site : SiteTime) (station : Word) (alarms : List Alarm)
    (raised : List AlarmRecord) : Prop where
  alarm : (raised.map fun r => r.alarm) = alarms
  numbers : (raised.map fun r => r.number) = List.range' first alarms.length
  stamps : ∀ r ∈ raised, r.siteTime = site ∧ r.stationTime = station ∧ r.acknowledged = none

/-- R144: alarms raised with room and numbers left join the list's tail one after another. -/
theorem raiseAll_joins {s : State} (as : List Alarm) (hroom : s.alarms.list.length + as.length ≤ 256)
    (hnext : s.alarms.next + as.length ≤ 4294967295) :
    ∃ raised, (s.raiseAll as).alarms.list = s.alarms.list ++ raised ∧
      RecordsOf s.alarms.next s.siteTime s.stationTime as raised := by
  induction as generalizing s with
  | nil => exact ⟨[], (List.append_nil _).symm, rfl, rfl, by simp⟩
  | cons a rest ih =>
    rw [List.length_cons] at hroom hnext
    obtain ⟨hlist, hnumber⟩ := raise_joins a (s := s) (by omega) (by omega)
    obtain ⟨raised, hraised, halarms, hnumbers, hstamps⟩ := ih (s := s.raise a)
      (by rw [hlist, List.length_append, List.length_singleton]; omega) (by omega)
    have frame := raise_frame s a
    refine ⟨s.recordOf a :: raised, ?_, ?_, ?_, List.forall_mem_cons.mpr ⟨⟨rfl, rfl, rfl⟩, fun r hr => ?_⟩⟩
    · rw [State.raiseAll, List.foldl_cons]
      exact hraised.trans (by rw [hlist, List.append_assoc]; rfl)
    · rw [List.map_cons, halarms]
      rfl
    · rw [List.map_cons, hnumbers, hnumber]
      rfl
    · obtain ⟨hsite, hstation, hack⟩ := hstamps r hr
      exact ⟨hsite.trans frame.siteTime_eq, hstation.trans (frame .stationTime (by simp)), hack⟩

/-- Whether a number is left or not, a list with room only gains the alarm. -/
theorem raise_appends {s : State} (a : Alarm) (hroom : s.alarms.list.length < 256) :
    ∃ more, (s.raise a).alarms.list = s.alarms.list ++ more ∧ ∀ r ∈ more, r.alarm = a := by
  rcases raise_alarms s a with ⟨-, hlist, -⟩ | ⟨-, hlist, -⟩
  · exact ⟨[], hlist.trans (List.append_nil _).symm, by simp⟩
  · exact ⟨[s.recordOf a], hlist.trans (congrArg Prod.fst (if_pos hroom)), by simp [State.recordOf]⟩

/-! ### The report of a finished axle (R123, R124) -/

/-- The list gains overloads of vehicles only. -/
def GainsOverloads (s u : State) : Prop :=
  ∃ more, u.alarms.list = s.alarms.list ++ more ∧ ∀ r ∈ more, r.alarm.kind = .vehicleOverload

theorem GainsOverloads.of_alarms {s u : State} (h : u.alarms = s.alarms) : GainsOverloads s u :=
  ⟨[], by rw [h, List.append_nil], by simp⟩

theorem completeVehicle_gainsOverloads {s : State} (t : TrackId) (n i : Nat) (hroom : s.alarms.list.length < 256) :
    GainsOverloads s (s.completeVehicle t n i) := by
  unfold State.completeVehicle
  split
  · dsimp only
    split
    · exact .of_alarms rfl
    · obtain ⟨more, hmore, hkind⟩ := raise_appends (s := s.updateVehicle t n i _) _ hroom
      exact ⟨more, hmore, fun r hr => by rw [hkind r hr]⟩
  · exact .of_alarms rfl

theorem tellEnded_gainsOverloads {s : State} (t : TrackId) (n i : Nat) (o : AxleOutcome) (l : Level)
    (hroom : s.alarms.list.length < 256) : GainsOverloads s (s.tellEnded t n i o l) := by
  unfold State.tellEnded
  split
  · exact .of_alarms rfl
  · dsimp only
    split
    · exact .of_alarms rfl
    · split
      · exact .of_alarms rfl
      · split
        · exact completeVehicle_gainsOverloads t n _ hroom
        · exact .of_alarms rfl

/-! ### Finishing an axle (R31, R78) -/

/-- R111: a finished axle's bearing rises join the running sums of its pass. -/
theorem finish_ctx (s : State) (t : TrackId) (c : PassContext) (e : AxleEntry) (drift : Option Int)
    (uncertain forced : Bool) :
    (s.finish t c e drift uncertain forced).ctx t = some (c.addRises (thermalResults c e)) := by
  unfold State.finish
  extract_lets a wheels thermal base alarms r r2 r3 r4
  have hr3 : r3.ctx t = some (c.addRises thermal) := ctx_setCtx r2 t _
  clear_value r2 alarms
  exact (tellEnded_frame r4 t _ _ _ _).ctx_eq.trans hr3

/-- The load alarms of an axle that a track finishes for a pass (R78). -/
def State.loadAlarmsOf (s : State) (t : TrackId) (c : PassContext) (e : AxleEntry) : List Alarm :=
  loadAlarms ⟨t, c.direction, c.number, e.index, s.axleVehicle t c.number e.index⟩ c.profile
    (wheelResults (s.area t) (s.strain.drifted.get t) c.profile.nMin e)

/-- The thermal alarms of an axle that a track finishes for a pass (R109). -/
def State.thermalAlarmsOf (s : State) (t : TrackId) (c : PassContext) (e : AxleEntry) : List Alarm :=
  thermalAlarms ⟨t, c.direction, c.number, e.index, s.axleVehicle t c.number e.index⟩ c.profile c.rises
    (thermalResults c e)

/-- All alarms of an axle that a track finishes for a pass, as they reach the alarm unit (log 12). -/
def State.alarmsOf (s : State) (t : TrackId) (c : PassContext) (e : AxleEntry) : List Alarm :=
  (s.axleAlarms ⟨t, c.direction, c.number, e.index, s.axleVehicle t c.number e.index⟩ c
    (wheelResults (s.area t) (s.strain.drifted.get t) c.profile.nMin e) (thermalResults c e)).1

theorem length_alarmsOf (s : State) (t : TrackId) (c : PassContext) (e : AxleEntry) :
    (s.alarmsOf t c e).length = (s.loadAlarmsOf t c e).length + (s.thermalAlarmsOf t c e).length :=
  (interleave_perm _ _ _ _ _).length_eq.trans List.length_append

/-- R78, R109: each unit's alarms keep their order. -/
theorem filter_alarmsOf (s : State) (t : TrackId) (c : PassContext) (e : AxleEntry) :
    (s.alarmsOf t c e).filter Alarm.isLoad = s.loadAlarmsOf t c e ∧
      (s.alarmsOf t c e).filter (fun a => !a.isLoad) = s.thermalAlarmsOf t c e :=
  interleave_filter _ _ _ _ (fun _ => isLoad_of_mem_loadAlarms) fun _ => isLoad_of_mem_thermalAlarms

theorem Frame.axleVehicle_eq {F : List Part} {s u : State} {t : TrackId} {n i : Nat} (h : Frame F s u)
    (hstore : Part.store ∉ F) : u.axleVehicle t n i = s.axleVehicle t n i := by
  rw [State.axleVehicle, State.axleVehicle, State.axleRecord, State.axleRecord, h .store hstore]

theorem loadAlarmsOf_congr {F : List Part} {s u : State} {t : TrackId} (h : Frame F s u) (c : PassContext)
    (e : AxleEntry) (harea : Part.area t ∉ F := by simp) (hdrifted : Part.drifted t ∉ F := by simp)
    (hstore : Part.store ∉ F := by simp) : u.loadAlarmsOf t c e = s.loadAlarmsOf t c e := by
  rw [State.loadAlarmsOf, State.loadAlarmsOf, h.axleVehicle_eq hstore, h.area_eq harea, h (.drifted t) hdrifted]

theorem thermalAlarmsOf_congr {F : List Part} {s u : State} {t : TrackId} (h : Frame F s u) (c : PassContext)
    (e : AxleEntry) (hstore : Part.store ∉ F := by simp) : u.thermalAlarmsOf t c e = s.thermalAlarmsOf t c e := by
  rw [State.thermalAlarmsOf, State.thermalAlarmsOf, h.axleVehicle_eq hstore]

/-- Some alarms join the list of `s` one after another, and overloads of vehicles follow them. -/
def JoinList (s u : State) (alarms : List Alarm) : Prop :=
  ∃ raised more, u.alarms.list = s.alarms.list ++ raised ++ more ∧
    RecordsOf s.alarms.next s.siteTime s.stationTime alarms raised ∧ ∀ r ∈ more, r.alarm.kind = .vehicleOverload

/-- R78, R109, R123: a finished axle's alarms join the list before an overload of its vehicle. -/
theorem finish_joinList {s : State} {t : TrackId} {c : PassContext} {e : AxleEntry} (drift : Option Int)
    (uncertain forced : Bool) (hroom : s.alarms.list.length + (s.alarmsOf t c e).length < 256)
    (hnext : s.alarms.next + (s.alarmsOf t c e).length ≤ 4294967295) :
    JoinList s (s.finish t c e drift uncertain forced) (s.alarmsOf t c e) := by
  unfold State.finish
  extract_lets a wheels thermal base alarms r r2 r3 r4
  have halarms : alarms.1 = s.alarmsOf t c e := rfl
  obtain ⟨raised, hlist, hrecords⟩ := raiseAll_joins (s := { r with choice := alarms.2 }) alarms.1
    (by rw [halarms]; exact hroom.le) (by rw [halarms]; exact hnext)
  have hr4 : r4.alarms.list = s.alarms.list ++ raised := hlist
  have hlength : raised.length = (s.alarmsOf t c e).length := by
    rw [← halarms, ← hrecords.alarm, List.length_map]
  obtain ⟨more, hmore, hkind⟩ := tellEnded_gainsOverloads (s := r4) t c.number e.index .finished (worstLevel alarms.1)
    (by rw [hr4, List.length_append, hlength]; exact hroom)
  exact ⟨raised, more, hmore.trans (by rw [hr4]), ⟨hrecords.alarm.trans halarms, hrecords.numbers, hrecords.stamps⟩,
    hkind⟩

/-! ### Counting an axle out (R29) -/

section CountOut

variable {s : State} {t : TrackId} {c : PassContext} {ev : PairEvent} {a : AxleEntry} {rest : List AxleEntry}

theorem headOut_joinList (hq : (s.section t).queue = a :: rest)
    (hroom : s.alarms.list.length + (s.alarmsOf t c a).length < 256)
    (hnext : s.alarms.next + (s.alarmsOf t c a).length ≤ 4294967295) :
    JoinList s (s.headOut t c ev) (s.alarmsOf t c a) := by
  unfold State.headOut
  rw [hq]
  exact finish_joinList (s := s.headGone t c) (t := t) (c := { c with exitCount := c.exitCount + 1 })
    (e := a.countedOut ev) _ _ false hroom hnext

theorem headOut_ctx (hq : (s.section t).queue = a :: rest) : (s.headOut t c ev).ctx t =
    some { c with
      exitCount := c.exitCount + 1
      rises := ⟨c.rises.l.add (thermalResults c a).bl.rise, c.rises.r.add (thermalResults c a).br.rise⟩ } := by
  unfold State.headOut
  rw [hq]
  exact finish_ctx (s.headGone t c) t { c with exitCount := c.exitCount + 1 } (a.countedOut ev) _ _ false

theorem countOut_alarms (ev : PairEvent) (hc : s.ctx t = some c) :
    (s.countOut t ev).alarms = (s.headOut t c ev).alarms := by
  rw [countOut_eq ev hc]
  split
  · rfl
  · exact startHold_frame _ t .alarms (by simp)

theorem countOut_ctx (ev : PairEvent) (hc : s.ctx t = some c) {d : PassContext} (hd : (s.headOut t c ev).ctx t = some d) :
    (s.countOut t ev).ctx t = some d := by
  rw [countOut_eq ev hc]
  split
  · rw [State.enterClearing, State.ctx, section_setSection]
    exact hd
  · rw [State.ctx, startHold_section hd]
    exact hd

end CountOut

/-! ### The statement -/

/-- Settles O41, by the checks of each unit and by what a count-out makes of the alarm list. -/
theorem finishingRaisesLoadAndThermalAlarms : Obligations.FinishingRaisesLoadAndThermalAlarms := by
  refine ⟨fun b p w => ⟨checkOrder_loadAlarms b p w, fun _ => mem_loadAlarms_iff b p w⟩,
    fun b p sums h => ⟨checkOrder_thermalAlarms b p sums h, fun _ => mem_thermalAlarms_iff b p sums h⟩, ?_⟩
  intro now stamp first input s t e c a rest h hstate hc he hqueue hcount base heat loads heats n ofLoads joined
    hroom hnext
  let r := (s.taking now stamp t e .outer).ready t
  let ev := s.completed t e .outer first stamp
  let w := r.takeSpeed t ev
  let d : PassContext := { c with heldSpeed := if ev.paired then ev.speed else c.heldSpeed }
  have before : Frame [.control t, .pacer t] (s.afterRise now stamp t e .outer) w :=
    .trans (takingReady_frame s now stamp t e .outer) (takeSpeed_frame r t ev)
  have spoken : Frame [.siteTime, .sensors t, .pairs t, .control t, .pacer t] s w :=
    .step (.one (afterRise_frame s now stamp t e .outer)) before
  have hw := takeSpeed_section ev (ready_ctx (taking_ctx (now := now) (stamp := stamp) (e := e) (x := .outer) hc))
  have hwctx : w.ctx t = some d := congrArg SectionController.ctx hw
  have hwqueue : (w.section t).queue = a :: rest := by
    rw [hw, takingReady_section (.inl hstate) hc, hqueue]
  have hloads : w.loadAlarmsOf t d a = loads := loadAlarmsOf_congr spoken d a
  have hheats : w.thermalAlarmsOf t d a = heats := thermalAlarmsOf_congr spoken d a
  have hwalarms : w.alarms = s.alarms := spoken .alarms (by simp)
  have hlength : (w.alarmsOf t d a).length = n := by rw [length_alarmsOf, hloads, hheats]
  obtain ⟨hofLoads, hofHeats⟩ := filter_alarmsOf w t d a
  obtain ⟨raised, more, hlist, ⟨halarm, hnumbers, hstamps⟩, hmore⟩ := headOut_joinList (ev := ev) (c := d) hwqueue
    (by rw [hlength, hwalarms]; exact hroom) (by rw [hlength, hwalarms]; exact hnext)
  rw [hwalarms] at hlist hnumbers
  rw [hlength] at hnumbers
  rw [show w.siteTime = now from before.siteTime_eq, spoken .stationTime (by simp)] at hstamps
  refine ⟨w.countOut t ev, _, raised, more, (exec_completesWait_ready h (.inl hstate) hc).trans
    (congrArg Host.Outcome.next (takeOccupied_countOut (ev := ev) rfl he)), ?_, ?_, ?_, hnumbers, hstamps, hmore,
    countOut_ctx ev hwctx (headOut_ctx hwqueue), rfl⟩
  · rw [countOut_alarms ev hwctx, hlist]
  · rw [halarm]
    exact hofLoads.trans hloads
  · rw [halarm]
    exact hofHeats.trans hheats

end Sys2Proof.Machine
end

section
/-! PROOFS. The scanner links (R94, R96 to R99, R101, R103, R106, R107): what a STATUS, a LINE and the timers of a
scanner leave of it, and the pixel that a LINE credits. -/

namespace Sys2Proof.Machine

open Sys2Proof

-- One proof after another: elaborated side by side they ask for more threads than check.sh allows.
set_option Elab.async false

/-! ### Links and their scanners (R94) -/

theorem linkOfScanner_of_scannerOfLink {link : Fin 8} {t : TrackId} {n : ScannerName}
    (h : scannerOfLink link = (t, n)) : linkOfScanner t n = link := by
  revert h
  fin_cases link <;> rintro ⟨⟩ <;> rfl

/-! ### Operands (R96) -/

theorem presentHalf_eq (h : BitVec 16) : presentHalf h = if h = 32768 then none else some h.toInt := by
  have habsent : h.toInt = -32768 ↔ h = 32768 := by
    rw [← BitVec.toInt_inj]
    rfl
  simp only [presentHalf, habsent]

theorem presentHalf_eq_some_iff {h : BitVec 16} {x : Int} : presentHalf h = some x ↔ h ≠ 32768 ∧ h.toInt = x := by
  simp [presentHalf_eq]

/-- The greatest valid pixel is the greatest of the present readings. -/
theorem hottest_eq_max? (pixels : List (BitVec 16)) : hottest pixels = (pixels.filterMap presentHalf).max? := by
  induction pixels with
  | nil => rfl
  | cons h rest ih =>
    rw [hottest, ih]
    cases hh : presentHalf h with
    | none => rw [List.filterMap_cons_none hh]
    | some x =>
      rw [List.filterMap_cons_some hh, List.max?_cons]
      cases (rest.filterMap presentHalf).max? <;> rfl

/-- R107: a LINE whose pixels are all invalid has no greatest one. -/
theorem hottest_eq_none {pixels : List (BitVec 16)} (h : ∀ p ∈ pixels, p = 32768) : hottest pixels = none := by
  rw [hottest_eq_max?, List.max?_eq_none_iff, List.filterMap_eq_nil_iff]
  intro p hp
  rw [presentHalf_eq, if_pos (h p hp)]

/-- R107: a valid pixel that no other valid one exceeds is the greatest. -/
theorem hottest_eq_some {pixels : List (BitVec 16)} {best : Int} (hmem : ∃ p ∈ pixels, p ≠ 32768 ∧ p.toInt = best)
    (hbest : ∀ p ∈ pixels, p ≠ 32768 → p.toInt ≤ best) : hottest pixels = some best := by
  rw [hottest_eq_max?, List.max?_eq_some_iff]
  simp only [List.mem_filterMap, presentHalf_eq_some_iff]
  refine ⟨hmem, ?_⟩
  rintro x ⟨p, hp, hvalid, rfl⟩
  exact hbest p hp hvalid

/-! ### A queue entry named by pass and index (R54) -/

theorem entry_of_ctx {s : State} {t : TrackId} {c : PassContext} (hc : s.ctx t = some c) (index : Nat) :
    s.entry t c.number index = (s.section t).queue.find? fun e => decide (e.index = index) := by
  simp only [State.entry, hc, if_true]

/-- Where no entry of the queue is named, there is nothing to change. -/
theorem updateEntry_absent {s : State} {t : TrackId} {c : PassContext} {index : Nat} (hc : s.ctx t = some c)
    (habsent : s.entry t c.number index = none) (f : AxleEntry → AxleEntry) : s.updateEntry t index f = s := by
  have hleft : ∀ e ∈ (s.section t).queue, (if e.index = index then f e else e) = e := fun e he =>
    if_neg (by simpa using List.find?_eq_none.mp ((entry_of_ctx hc index).symm.trans habsent) e he)
  rw [State.updateEntry, List.map_congr_left hleft, List.map_id']
  exact setSection_self s t

/-! ### The commands of the links, by the scanner of the link -/

section Link

variable {link : Fin 8} {t : TrackId} {n : ScannerName} (hlink : scannerOfLink link = (t, n)) (now : SiteTime)
  (s : State)

theorem exec_linkMessageDiscarded : exec (.linkMessageDiscarded now link) s = .next (s.atTime now) := rfl

include hlink

/-- R103: a scanner replaced, with a notice where its fault indication changes. -/
theorem putScanner_eq (x : Scanner) : s.putScanner t n x =
    if x.view.indication = (s.scanner t n).view.indication then s.setScanner t n x
    else (s.setScanner t n x).notify (.faultChanged (.scanner link) x.view.indication) := by
  simp only [State.putScanner, linkOfScanner_of_scannerOfLink hlink, decide_eq_true_eq, ite_not]

theorem exec_scannerStatus (report : ShutterReport) (housing : BitVec 16) :
    exec (.scannerStatus now link report housing) s =
      .next ((s.atTime now).putScanner t n ((s.scanner t n).takeStatus now report (presentHalf housing))) := by
  simp [exec, execScannerStatus, hlink]

variable {s now}

theorem exec_silenceTimerExpiry (hdue : timerDue (s.scanner t n).silence now = true) :
    exec (.silenceTimerExpiry now link) s =
      .next ((s.atTime now).putScanner t n { s.scanner t n with view := .silent, silence := none }) := by
  simp [exec, execSilenceTimerExpiry, hlink, hdue]

theorem exec_openingTimerExpiry (hdue : timerDue (s.scanner t n).openingTimer now = true) :
    exec (.openingTimerExpiry now link) s =
      .next ((s.atTime now).putScanner t n { s.scanner t n with
        openingTimer := none
        openingFault := true
        view := if (s.scanner t n).view = .silent then .silent else .fault }) := by
  simp [exec, execOpeningTimerExpiry, hlink, hdue]

theorem exec_lineTimerExpiry {q : LineRequest} (hq : (s.scanner t n).request = some q)
    (hdue : q.timer.due now = true) :
    exec (.lineTimerExpiry now link) s =
      .next ((s.atTime now).setScanner t n { s.scanner t n with request := none }) := by
  simp [exec, execLineTimerExpiry, hlink, hq, hdue]

/-! ### LINE (R107) -/

variable {seqNo : BitVec 8} {pixels : List (BitVec 16)}

theorem exec_scannerLine_unasked (hr : (s.scanner t n).request = none) :
    exec (.scannerLine now link seqNo pixels) s = .next (s.atTime now) := by
  simp [exec, execScannerLine, hlink, hr]

variable {r : LineRequest} (hr : (s.scanner t n).request = some r)

include hr

theorem exec_scannerLine_other (hseq : r.seqNo ≠ seqNo) :
    exec (.scannerLine now link seqNo pixels) s = .next (s.atTime now) := by
  simp [exec, execScannerLine, hlink, hr, hseq]

theorem exec_scannerLine_invalid (hseq : r.seqNo = seqNo) (hnone : hottest pixels = none) :
    exec (.scannerLine now link seqNo pixels) s =
      .next ((s.atTime now).setScanner t n { s.scanner t n with request := none }) := by
  simp [exec, execScannerLine, hlink, hr, hseq, hnone]

theorem exec_scannerLine_valid {c : PassContext} {best : Int} (hseq : r.seqNo = seqNo) (hc : s.ctx t = some c)
    (hpass : c.number = r.pass) (hbest : hottest pixels = some best) :
    exec (.scannerLine now link seqNo pixels) s =
      .next (((s.atTime now).setScanner t n { s.scanner t n with request := none }).updateEntry t r.axle fun e =>
        { e with scanners := e.scanners.set n ((e.scanners.get n).credit best) }) := by
  have hctx : ((s.atTime now).setScanner t n { s.scanner t n with request := none }).ctx t = some c := hc
  simp only [exec, execScannerLine, hlink, scanner_atTime, hr, hseq, if_true, hbest, ← hpass]
  cases hentry : ((s.atTime now).setScanner t n { s.scanner t n with request := none }).entry t c.number r.axle with
  | none => rw [updateEntry_absent hctx hentry]
  | some e => rfl

end Link

/-! ### What a STATUS and a LINE store -/

/-- R98: the view goes by the reported state; an opening fault stays until OPEN or CLOSING is reported. -/
theorem takeStatus_eq (x : Scanner) (now : SiteTime) (report : ShutterReport) (housing : Option Int) :
    x.takeStatus now report housing = { x with
      silence := some ⟨now, 3000000⟩
      housing := housing
      view := match report with
        | .closed => if x.openingFault = true then .fault else .closed
        | .opening => if x.openingFault = true then .fault else .opening
        | .opened => .opened
        | .closing => .closing
        | .fault => .fault
      openingFault := match report with
        | .opened => false
        | .closing => false
        | .closed => x.openingFault
        | .opening => x.openingFault
        | .fault => x.openingFault
      openingTimer := match report with
        | .opened => none
        | .closing => none
        | .fault => none
        | .closed => x.openingTimer
        | .opening => x.openingTimer } := by
  cases report <;> rfl

/-- R104, R107: a temperature credited to an accumulator. -/
theorem ScannerAccumulator.credit_eq (a : ScannerAccumulator) (temperature : Int) : a.credit temperature =
    { a with
      lines := min (a.lines + 1) 255
      maximum := some (match a.maximum with
        | none => temperature
        | some m => max m temperature) } := by
  rw [ScannerAccumulator.credit]
  cases a.maximum <;> rfl

/-! ### The statements -/

/-- Settles O36, from the scanner that a STATUS or an expiry leaves and the one notice that its indication asks. -/
theorem statusAndTimersSetTheView : Obligations.StatusAndTimersSetTheView := by
  intro now link s t n hlink x put
  have hput (y : Scanner) : (s.atTime now).putScanner t n y = put y := putScanner_eq hlink (s.atTime now) y
  refine ⟨fun report housing => ?_, fun r hdue => ⟨fun hr => ?_, fun hr => ?_, fun q hq htimer => ?_⟩⟩
  · rw [exec_scannerStatus hlink, hput, presentHalf_eq]
    exact congrArg (fun y => Host.Outcome.next (put y)) (takeStatus_eq x now report _)
  · rw [exec_silenceTimerExpiry hlink (hr ▸ timerDue_some hdue), hput]
  · rw [exec_openingTimerExpiry hlink (hr ▸ timerDue_some hdue), hput]
  · subst htimer
    exact exec_lineTimerExpiry hlink hq (decide_eq_true hdue)

/-- Settles O37, by whether the LINE answers the request and has a greatest valid pixel. -/
theorem lineCreditsTheGreatestPixel : Obligations.LineCreditsTheGreatestPixel := by
  intro now link seqNo pixels s t n hlink ended
  refine ⟨exec_linkMessageDiscarded now s, exec_scannerLine_unasked hlink, fun r hr =>
    ⟨exec_scannerLine_other hlink hr, fun hseq hinvalid => ?_, fun c hseq hc hpass best hmem hbest => ?_⟩⟩
  · exact exec_scannerLine_invalid hlink hr hseq (hottest_eq_none hinvalid)
  · rw [exec_scannerLine_valid hlink hr hseq hc hpass (hottest_eq_some hmem hbest)]
    simp only [ScannerAccumulator.credit_eq]
    rfl

end Sys2Proof.Machine
end

section
/-! PROOFS. Judging vehicle types (R113, R114, R117 to R120): what a type asks of the spacings and of the
after-gap, and which type of the table a look at it comes to. -/

namespace Sys2Proof.Machine

open Sys2Proof

-- One proof after another, as in the Laws files.
set_option Elab.async false

/-! ### The spacing limit (R113, R114) -/

theorem exec_spacingLimitPassed {now : SiteTime} {t : TrackId} {m : MatchContext} {s : State}
    (hm : s.context t = some m) (hdue : 600000000 ≤ interval m.previous now) :
    exec (.spacingLimitPassed now t) s =
      .next ((s.atTime now).setContext t (some { m with limitPassed := true })) := by
  show execSpacingLimitPassed now t s = _
  have hlater : (s.atTime now).context t = some m := (context_atTime s now t).trans hm
  rw [execSpacingLimitPassed, hlater]
  exact if_pos hdue

/-! ### What a type asks (R117) -/

theorem spacingFits_iff (expected tolerance : Nat) (spacing : Option Nat) :
    spacingFits (expected, tolerance) spacing = true ↔ tolerance = 0 ∨
      ∃ d, spacing = some d ∧ expected ≤ d + tolerance ∧ d ≤ expected + tolerance := by
  unfold spacingFits
  by_cases h : tolerance = 0
  · simp [h]
  · cases spacing <;> simp [h]

theorem getElem?_innerSpacings {n i : Nat} (waiting : List WaitingAxle) (hi : i < n - 1) :
    (innerSpacings waiting n)[i]? = waiting[i + 1]?.map fun a => a.spacing := by
  rw [innerSpacings, List.getElem?_map, List.getElem?_take_of_lt hi, List.getElem?_drop, Nat.add_comm]

/-- A pattern fits the stored axles of its type place by place. -/
theorem patternFits_innerSpacings {pattern : List (Nat × Nat)} {waiting : List WaitingAxle} {n : Nat}
    (hpattern : pattern.length = n - 1) (hn : n ≤ waiting.length) :
    patternFits pattern (innerSpacings waiting n) = true ↔
      ∀ (i expected tolerance : Nat), pattern[i]? = some (expected, tolerance) → tolerance = 0 ∨
        ∃ a d, waiting[i + 1]? = some a ∧ a.spacing = some d ∧ expected ≤ d + tolerance ∧
          d ≤ expected + tolerance := by
  have hinner : (innerSpacings waiting n).length = n - 1 := by simp [innerSpacings]; omega
  have hfits (i expected tolerance : Nat) (h : pattern[i]? = some (expected, tolerance)) :
      ∃ a, waiting[i + 1]? = some a ∧ (pattern.zip (innerSpacings waiting n))[i]? =
        some ((expected, tolerance), a.spacing) := by
    have hi : i < n - 1 := hpattern ▸ (List.getElem?_eq_some_iff.mp h).1
    have ha : waiting[i + 1]? = some waiting[i + 1] := List.getElem?_eq_getElem (by omega)
    exact ⟨_, ha, List.getElem?_zip_eq_some.mpr ⟨h, by rw [getElem?_innerSpacings waiting hi, ha]; rfl⟩⟩
  rw [patternFits, Bool.and_eq_true, decide_eq_true_eq, List.all_eq_true]
  constructor
  · rintro ⟨-, hall⟩ i expected tolerance h
    obtain ⟨a, ha, hzip⟩ := hfits i expected tolerance h
    have hone := hall _ (List.mem_of_getElem? hzip)
    rcases (spacingFits_iff _ _ _).mp hone with h0 | ⟨d, hd, hlow, hhigh⟩
    · exact .inl h0
    · exact .inr ⟨a, d, ha, hd, hlow, hhigh⟩
  · refine fun h => ⟨by omega, fun x hx => ?_⟩
    obtain ⟨i, hi⟩ := List.mem_iff_getElem?.mp hx
    obtain ⟨⟨expected, tolerance⟩, spacing⟩ := x
    have hp := (List.getElem?_zip_eq_some.mp hi).1
    obtain ⟨a, ha, hzip⟩ := hfits i expected tolerance hp
    obtain rfl : a.spacing = spacing := congrArg Prod.snd (Option.some.inj (hzip.symm.trans hi))
    refine (spacingFits_iff _ _ _).mpr ((h i expected tolerance hp).imp_right ?_)
    rintro ⟨b, d, hb, hd, hlow, hhigh⟩
    obtain rfl : a = b := Option.some.inj (ha.symm.trans hb)
    exact ⟨d, hd, hlow, hhigh⟩

/-- R117: the after-gap of a type is met, or the axle behind it is not stored. -/
def VehicleType.GapMet (vt : VehicleType) (waiting : List WaitingAxle) : Prop :=
  vt.afterGap = 0 ∨ ∀ a, waiting[vt.axles]? = some a → ∃ d, a.spacing = some d ∧ vt.afterGap ≤ d

/-- R117: each spacing between a type's axles lies within the tolerance that the type has at `place`. -/
def VehicleType.Fits (vt : VehicleType) (waiting : List WaitingAxle) (place : Nat → Nat) : Prop :=
  ∀ i, i + 1 < vt.axles → ∀ s tol, vt.spacings[place i]? = some (s, tol) → tol = 0 ∨
    ∃ a d, waiting[i + 1]? = some a ∧ a.spacing = some d ∧ s ≤ d + tol ∧ d ≤ s + tol

theorem gapHolds_iff (vt : VehicleType) (waiting : List WaitingAxle) :
    vt.gapHolds waiting = true ↔ vt.GapMet waiting := by
  unfold VehicleType.gapHolds VehicleType.GapMet
  by_cases h : vt.afterGap = 0
  · simp [h]
  · cases hnext : waiting[vt.axles]? with
    | none => simp [h]
    | some a => cases hd : a.spacing <;> simp [h, hd]

section Pattern

variable {vt : VehicleType} {waiting : List WaitingAxle} (hfew : vt.axles ≤ 8) (hseven : vt.spacings.length = 7)

include hfew hseven

theorem length_pattern : vt.pattern.length = vt.axles - 1 := by
  rw [VehicleType.pattern, List.length_take]
  omega

theorem patternFits_forward (hstored : vt.axles ≤ waiting.length) :
    patternFits vt.pattern (innerSpacings waiting vt.axles) = true ↔ vt.Fits waiting fun i => i := by
  rw [patternFits_innerSpacings (length_pattern hfew hseven) hstored, VehicleType.Fits]
  refine forall_congr' fun i => ?_
  by_cases hi : i + 1 < vt.axles
  · simp only [VehicleType.pattern, List.getElem?_take_of_lt (show i < vt.axles - 1 by omega), hi, forall_const]
  · have hout : vt.pattern[i]? = none :=
      List.getElem?_eq_none (by rw [length_pattern hfew hseven]; omega)
    simp [hi, hout]

theorem patternFits_reversed (hstored : vt.axles ≤ waiting.length) :
    patternFits vt.pattern.reverse (innerSpacings waiting vt.axles) = true ↔
      vt.Fits waiting fun i => vt.axles - 2 - i := by
  have hlength := length_pattern hfew hseven
  rw [patternFits_innerSpacings (List.length_reverse.trans hlength) hstored, VehicleType.Fits]
  refine forall_congr' fun i => ?_
  by_cases hi : i + 1 < vt.axles
  · have hplace : vt.pattern.reverse[i]? = vt.spacings[vt.axles - 2 - i]? := by
      rw [List.getElem?_reverse (by omega), hlength, VehicleType.pattern, List.getElem?_take_of_lt (by omega)]
      rfl
    simp only [hplace, hi, forall_const]
  · have hout : vt.pattern.reverse[i]? = none := List.getElem?_eq_none (by rw [List.length_reverse]; omega)
    simp [hi, hout]

end Pattern

/-- R117: a type is judged by its gap first, and forward before reversed. -/
theorem judge_eq_iff (vt : VehicleType) (waiting : List WaitingAxle) :
    let gap := vt.gapHolds waiting = true
    let forward := patternFits vt.pattern (innerSpacings waiting vt.axles) = true
    let reversed := patternFits vt.pattern.reverse (innerSpacings waiting vt.axles) = true
    (vt.judge waiting = some .forward ↔ gap ∧ forward) ∧
    (vt.judge waiting = some .reversed ↔ gap ∧ ¬forward ∧ vt.either = true ∧ reversed) ∧
    (vt.judge waiting = none ↔ ¬(gap ∧ (forward ∨ (vt.either = true ∧ reversed)))) := by
  intro gap forward reversed
  rw [VehicleType.judge]
  by_cases hgap : gap
  · rw [if_pos hgap]
    by_cases hforward : forward
    · rw [if_pos hforward]
      simp [hgap, hforward]
    · rw [if_neg hforward]
      by_cases hreversed : vt.either = true ∧ reversed
      · rw [if_pos (Bool.and_eq_true_iff.mpr hreversed)]
        simp [hgap, hforward, hreversed]
      · rw [if_neg fun h => hreversed (Bool.and_eq_true_iff.mp h)]
        simp [hgap, hforward, hreversed]
  · rw [if_neg hgap]
    simp [hgap]

/-! ### The first verdict of the table (R118 to R120) -/

/-- What the table comes to where each type has a verdict of its own, or is passed over. -/
def firstVerdict (verdict : VehicleType → Option Decision) (types : List VehicleType) : Decision :=
  (types.findSome? verdict).getD .unclassified

theorem firstVerdict_eq_unclassified_iff {verdict : VehicleType → Option Decision} {types : List VehicleType}
    (hverdict : ∀ vt, verdict vt ≠ some .unclassified) :
    firstVerdict verdict types = .unclassified ↔ ∀ vt ∈ types, verdict vt = none := by
  rw [← List.findSome?_eq_none_iff, firstVerdict]
  cases h : types.findSome? verdict with
  | none => simp
  | some d =>
    obtain ⟨vt, -, hd⟩ := List.exists_of_findSome?_eq_some h
    have : d ≠ .unclassified := by rintro rfl; exact hverdict vt hd
    simpa using this

theorem firstVerdict_eq_iff {verdict : VehicleType → Option Decision} {types : List VehicleType}
    {d : Decision} (hd : d ≠ .unclassified) :
    firstVerdict verdict types = d ↔ ∃ before vt after, types = before ++ vt :: after ∧
      (∀ x ∈ before, verdict x = none) ∧ verdict vt = some d := by
  have hsome : firstVerdict verdict types = d ↔ types.findSome? verdict = some d := by
    rw [firstVerdict]
    cases types.findSome? verdict with
    | none => simp [hd.symm]
    | some e => simp
  rw [hsome, List.findSome?_eq_some_iff]
  simp only [and_comm (a := verdict _ = some d)]

/-- A type that alone can be made is the first that is. -/
theorem firstVerdict_eq_make_iff {verdict : VehicleType → Option Decision} {types : List VehicleType}
    {vt : VehicleType} {o : Orientation} (hown : ∀ x, verdict x = some (.make vt o) → x = vt) :
    firstVerdict verdict types = .make vt o ↔ ∃ before after, types = before ++ vt :: after ∧
      (∀ x ∈ before, verdict x = none) ∧ verdict vt = some (.make vt o) := by
  rw [firstVerdict_eq_iff (by simp)]
  constructor
  · rintro ⟨before, x, after, htypes, hbefore, hx⟩
    obtain rfl := hown x hx
    exact ⟨before, after, htypes, hbefore, hx⟩
  · rintro ⟨before, after, htypes, hbefore, hvt⟩
    exact ⟨before, vt, after, htypes, hbefore, hvt⟩

/-! ### While the pass is open (R118, R119) -/

/-- R118: the verdict of one type while the pass is open. -/
def openVerdict (waiting : List WaitingAxle) (vt : VehicleType) : Option Decision :=
  if vt.enabled then
    if vt.evaluable waiting then (vt.judge waiting).map (.make vt) else some .wait
  else none

theorem decideOpen_eq (waiting : List WaitingAxle) (types : List VehicleType) :
    decideOpen waiting types = firstVerdict (openVerdict waiting) types := by
  induction types with
  | nil => rfl
  | cons vt rest ih =>
    rw [decideOpen, ih, firstVerdict, firstVerdict, List.findSome?_cons, openVerdict]
    cases vt.enabled
    · rfl
    · cases vt.evaluable waiting
      · rfl
      · cases vt.judge waiting <;> rfl

theorem evaluable_iff (vt : VehicleType) (waiting : List WaitingAxle) :
    vt.evaluable waiting = true ↔ vt.axles ≤ waiting.length ∧
      (vt.afterGap = 0 ∨ vt.axles + 1 ≤ waiting.length) := by
  simp [VehicleType.evaluable]

theorem openVerdict_eq_none_iff {waiting : List WaitingAxle} {vt : VehicleType} :
    openVerdict waiting vt = none ↔
      (vt.enabled = true → vt.evaluable waiting = true ∧ vt.judge waiting = none) := by
  unfold openVerdict
  split
  · split <;> simp [*]
  · simp [*]

theorem openVerdict_eq_wait_iff {waiting : List WaitingAxle} {vt : VehicleType} :
    openVerdict waiting vt = some .wait ↔ vt.enabled = true ∧ ¬vt.evaluable waiting = true := by
  unfold openVerdict
  split
  · split <;> simp [*]
  · simp [*]

theorem openVerdict_eq_make_iff {waiting : List WaitingAxle} {x vt : VehicleType} {o : Orientation} :
    openVerdict waiting x = some (.make vt o) ↔
      x = vt ∧ x.enabled = true ∧ x.evaluable waiting = true ∧ x.judge waiting = some o := by
  unfold openVerdict
  split
  · split <;> simp [*, and_comm]
  · simp [*]

theorem openVerdict_ne_unclassified (waiting : List WaitingAxle) (vt : VehicleType) :
    openVerdict waiting vt ≠ some .unclassified := by
  unfold openVerdict
  split
  · split <;> simp
  · simp

/-! ### At the closing match (R120) -/

/-- R120: the verdict of one type at the closing match. -/
def closingVerdict (waiting : List WaitingAxle) (vt : VehicleType) : Option Decision :=
  if vt.enabled ∧ vt.axles ≤ waiting.length then (vt.judge waiting).map (.make vt) else none

theorem decideClosing_eq (waiting : List WaitingAxle) (types : List VehicleType) :
    decideClosing waiting types = firstVerdict (closingVerdict waiting) types := by
  induction types with
  | nil => rfl
  | cons vt rest ih =>
    rw [decideClosing, ih, firstVerdict, firstVerdict, List.findSome?_cons, closingVerdict]
    by_cases h : vt.enabled = true ∧ vt.axles ≤ waiting.length
    · rw [if_pos h, if_pos (Bool.and_eq_true_iff.mpr ⟨h.1, decide_eq_true h.2⟩)]
      cases vt.judge waiting <;> rfl
    · rw [if_neg h, if_neg (by simpa using h)]

theorem closingVerdict_eq_none_iff {waiting : List WaitingAxle} {vt : VehicleType} :
    closingVerdict waiting vt = none ↔
      (vt.enabled = true → vt.axles ≤ waiting.length → vt.judge waiting = none) := by
  unfold closingVerdict
  split <;> simp_all

theorem closingVerdict_eq_make_iff {waiting : List WaitingAxle} {x vt : VehicleType} {o : Orientation} :
    closingVerdict waiting x = some (.make vt o) ↔
      x = vt ∧ x.enabled = true ∧ x.axles ≤ waiting.length ∧ x.judge waiting = some o := by
  unfold closingVerdict
  split
  · next h => simp [h, and_comm]
  · next h => simp only [reduceCtorEq, false_iff]; exact fun ⟨_, henabled, hlong, _⟩ => h ⟨henabled, hlong⟩

/-- R120: a verdict of the closing match makes a vehicle. -/
theorem closingVerdict_make {waiting : List WaitingAxle} {vt : VehicleType} {d : Decision}
    (h : closingVerdict waiting vt = some d) : ∃ o, d = .make vt o := by
  unfold closingVerdict at h
  split at h
  · obtain ⟨o, -, rfl⟩ := Option.map_eq_some_iff.mp h
    exact ⟨o, rfl⟩
  · nomatch h

/-! ### The statement -/

/-- Settles O38, from what each type asks and from the first verdict of the table. -/
theorem vehicleTypesAreJudgedInOrder : Obligations.VehicleTypesAreJudgedInOrder := by
  refine ⟨fun now t m s => exec_spacingLimitPassed, fun v elapsed => ⟨rfl, rfl⟩,
    fun vt waiting _ hfew hseven hstored => ?_, fun waiting types => ?_⟩
  · have h := judge_eq_iff vt waiting
    simp only [gapHolds_iff, patternFits_forward hfew hseven hstored,
      patternFits_reversed hfew hseven hstored] at h
    exact h
  · intro evaluable failsOpen failsClosing
    have hevaluable (vt : VehicleType) : vt.evaluable waiting = true ↔ evaluable vt := evaluable_iff vt waiting
    have hopen (vt : VehicleType) : openVerdict waiting vt = none ↔ failsOpen vt := by
      rw [openVerdict_eq_none_iff, hevaluable]
    have hclosing (vt : VehicleType) : closingVerdict waiting vt = none ↔ failsClosing vt :=
      closingVerdict_eq_none_iff
    have hneverUnclassified (vt : VehicleType) : closingVerdict waiting vt ≠ some .unclassified := fun h =>
      (closingVerdict_make h).elim fun _ e => nomatch e
    simp only [decideOpen_eq, decideClosing_eq]
    refine ⟨?_, ?_, fun vt o => ?_, ?_, fun h => ?_, fun vt o => ?_⟩
    · rw [firstVerdict_eq_unclassified_iff (openVerdict_ne_unclassified waiting)]
      simp only [hopen]
    · rw [firstVerdict_eq_iff (by simp)]
      simp only [hopen, openVerdict_eq_wait_iff, hevaluable]
    · rw [firstVerdict_eq_make_iff fun x h => (openVerdict_eq_make_iff.mp h).1]
      simp only [hopen, openVerdict_eq_make_iff, hevaluable, true_and]
    · rw [firstVerdict_eq_unclassified_iff hneverUnclassified]
      simp only [hclosing]
    · obtain ⟨_, vt, _, -, -, hwait⟩ := (firstVerdict_eq_iff (by simp)).mp h
      obtain ⟨o, e⟩ := closingVerdict_make hwait
      nomatch e
    · rw [firstVerdict_eq_make_iff fun x h => (closingVerdict_eq_make_iff.mp h).1]
      simp only [hclosing, closingVerdict_eq_make_iff, true_and]

end Sys2Proof.Machine
end

section
/-! PROOFS. Making and completing vehicles (R121 to R124): the record of a vehicle made at the cursor, the gross
weight and the overload check of one that becomes FINAL, and the report of an ended axle. -/

namespace Sys2Proof.Machine

open Sys2Proof

-- One proof after another, as in the Laws files.
set_option Elab.async false

/-! ### Held passes and their vehicle records -/

section Records

variable {s : State} {t : TrackId} {n i : Nat}

theorem updatePass_ofTrack_map {f : HeldPass → HeldPass} (hn : ∀ p, (f p).number = p.number)
    (ht : ∀ p, (f p).track = p.track) :
    (s.updatePass t n f).store.ofTrack t n = (s.store.ofTrack t n).map f := by
  cases hp : s.store.ofTrack t n with
  | none => rw [State.updatePass, ofTrack_updateOfTrack hn ht, hp]; rfl
  | some p => exact updatePass_ofTrack_self hn ht hp

theorem vehicleRecord_eq {p : HeldPass} (hp : s.store.ofTrack t n = some p) :
    s.vehicleRecord t n i = p.vehicles.find? fun x => decide (x.index = i) := by
  rw [State.vehicleRecord, hp]

/-- The change of one vehicle record in a list of them. -/
def atVehicle (i : Nat) (f : VehicleRecord → VehicleRecord) (x : VehicleRecord) : VehicleRecord :=
  if x.index = i then f x else x

theorem updateVehicle_ofTrack {f : VehicleRecord → VehicleRecord} {p : HeldPass}
    (hp : s.store.ofTrack t n = some p) : (s.updateVehicle t n i f).store.ofTrack t n =
      some { p with vehicles := p.vehicles.map (atVehicle i f) } :=
  updatePass_ofTrack_self (fun _ => rfl) (fun _ => rfl) hp

theorem find?_atVehicle {f : VehicleRecord → VehicleRecord} (hf : ∀ x, (f x).index = x.index)
    (l : List VehicleRecord) : (l.map (atVehicle i f)).find? (fun x => decide (x.index = i)) =
      (l.find? fun x => decide (x.index = i)).map f := by
  have hindex (x : VehicleRecord) : (atVehicle i f x).index = x.index := by
    unfold atVehicle
    split
    · exact hf x
    · rfl
  rw [List.find?_map]
  simp only [Function.comp_def, hindex]
  cases h : l.find? fun x => decide (x.index = i) with
  | none => rfl
  | some x =>
    have hx : x.index = i := by simpa using List.find?_some h
    exact congrArg some (if_pos hx)

/-- A record of a new index is the one changed at the tail of the list. -/
theorem map_atVehicle_append {f : VehicleRecord → VehicleRecord} {l : List VehicleRecord} {v : VehicleRecord}
    (hl : ∀ x ∈ l, x.index ≠ v.index) : (l ++ [v]).map (atVehicle v.index f) = l ++ [f v] := by
  have hsame : l.map (atVehicle v.index f) = l :=
    (List.map_congr_left fun x hx => if_neg (hl x hx)).trans (List.map_id l)
  simp [hsame, atVehicle]

theorem find?_append_new {l : List VehicleRecord} {v : VehicleRecord} (hl : ∀ x ∈ l, x.index ≠ v.index) :
    (l ++ [v]).find? (fun x => decide (x.index = v.index)) = some v := by
  have hnone : l.find? (fun x => decide (x.index = v.index)) = none :=
    List.find?_eq_none.mpr fun x hx => by simpa using hl x hx
  simp [List.find?_append, hnone]

end Records

/-! ### The gross weight and the overload check (R124) -/

theorem sumLoads_eq (l : List AxleRecord) : sumLoads l =
    if none ∈ l.map (fun a => a.axleLoad) then none
    else some ((l.map fun a => a.axleLoad).map fun x => x.getD 0).sum := by
  induction l with
  | nil => rfl
  | cons a rest ih =>
    rw [sumLoads, ih]
    cases ha : a.axleLoad with
    | none => simp [ha]
    | some x => by_cases hrest : none ∈ rest.map fun a => a.axleLoad <;> simp [ha, hrest]

/-- The axle loads of a vehicle's axles. -/
def HeldPass.loadsOf (p : HeldPass) (v : VehicleRecord) : List (Option Nat) :=
  (p.axles.filter fun a =>
    decide (v.firstAxle ≤ a.index) && decide (a.index < v.firstAxle + v.axles)).map fun a => a.axleLoad

theorem grossOf_eq (p : HeldPass) (v : VehicleRecord) : p.grossOf v =
    if none ∈ p.loadsOf v then none else some ((p.loadsOf v).map fun x => x.getD 0).sum :=
  sumLoads_eq _

theorem grossOf_eq_none_iff {p : HeldPass} {v : VehicleRecord} : p.grossOf v = none ↔ none ∈ p.loadsOf v := by
  rw [grossOf_eq]
  split <;> simp [*]

theorem eq_sum_of_grossOf {p : HeldPass} {v : VehicleRecord} {g : Nat} (h : p.grossOf v = some g) :
    g = ((p.loadsOf v).map fun x => x.getD 0).sum := by
  rw [grossOf_eq] at h
  split at h
  · nomatch h
  · exact (Option.some.inj h).symm

theorem overload_eq_some_iff {gross : Option Nat} {limit g : Nat} :
    overload gross limit = some g ↔ gross = some g ∧ limit ≠ 0 ∧ limit < g := by
  cases gross with
  | none => simp [overload]
  | some w =>
    by_cases h : limit ≠ 0 ∧ limit < w
    · rw [overload, if_pos h, Option.some.injEq]
      exact ⟨fun e => ⟨e, e ▸ h⟩, fun ⟨e, _⟩ => e⟩
    · rw [overload, if_neg h, Option.some.injEq]
      exact iff_of_false (by simp) fun ⟨e, hg⟩ => h (e ▸ hg)

theorem overload_eq_none_iff {gross : Option Nat} {limit : Nat} :
    overload gross limit = none ↔ ∀ g, ¬(gross = some g ∧ limit ≠ 0 ∧ limit < g) := by
  simp only [Option.eq_none_iff_forall_ne_some, ne_eq, overload_eq_some_iff]

/-- R124: a vehicle record that becomes FINAL. -/
def VehicleRecord.completed (gross : Option Nat) (limit : Nat) (x : VehicleRecord) : VehicleRecord :=
  { x with
    final := true, gross := gross
    worst := if ∃ g, gross = some g ∧ limit ≠ 0 ∧ limit < g then .alarm else x.worst }

/-- R124: the alarm of a vehicle above its gross limit. -/
def overloadAlarm (t : TrackId) (p : HeldPass) (n index : Nat) (v : VehicleRecord) (g : Nat) : Alarm :=
  ⟨.vehicleOverload, .alarm, t, p.direction, n, v.firstAxle, some index, .none, g, v.grossLimit⟩

section Complete

variable {s : State} {t : TrackId} {n index : Nat} {p : HeldPass} {v : VehicleRecord}
  (hp : s.store.ofTrack t n = some p) (hv : p.vehicles.find? (fun x => decide (x.index = index)) = some v)

include hp hv

theorem completeVehicle_within (h : overload (p.grossOf v) v.grossLimit = none) :
    s.completeVehicle t n index = s.updateVehicle t n index (.completed (p.grossOf v) v.grossLimit) := by
  have hlevel (x : VehicleRecord) :
      x.completed (p.grossOf v) v.grossLimit = { x with final := true, gross := p.grossOf v } := by
    rw [VehicleRecord.completed, if_neg (not_exists.mpr (overload_eq_none_iff.mp h))]
  simp only [State.completeVehicle, hp, vehicleRecord_eq hp, hv, h, funext hlevel]

theorem completeVehicle_above {g : Nat} (h : overload (p.grossOf v) v.grossLimit = some g) :
    s.completeVehicle t n index = (s.updateVehicle t n index
      (.completed (p.grossOf v) v.grossLimit)).raise (overloadAlarm t p n index v g) := by
  have hlevel (x : VehicleRecord) : x.completed (p.grossOf v) v.grossLimit =
      { x with final := true, gross := p.grossOf v, worst := .alarm } := by
    rw [VehicleRecord.completed, if_pos ⟨g, overload_eq_some_iff.mp h⟩]
  simp only [State.completeVehicle, hp, vehicleRecord_eq hp, hv, h, funext hlevel]
  rfl

/-- R124: what completion leaves of the vehicle's pass. -/
theorem completeVehicle_ofTrack : ∃ q, (s.completeVehicle t n index).store.ofTrack t n = some q ∧
    q.vehicles = p.vehicles.map (atVehicle index (.completed (p.grossOf v) v.grossLimit)) ∧
    q.axles = p.axles ∧ q.vehicleChunks = p.vehicleChunks := by
  have hupdated := updateVehicle_ofTrack (i := index) (f := .completed (p.grossOf v) v.grossLimit) hp
  cases h : overload (p.grossOf v) v.grossLimit with
  | none =>
    rw [completeVehicle_within hp hv h]
    exact ⟨_, hupdated, rfl, rfl, rfl⟩
  | some g =>
    rw [completeVehicle_above hp hv h, raise_store]
    exact ⟨_, updatePass_ofTrack_self (fun _ => rfl) (fun _ => rfl) hupdated, rfl, rfl, rfl⟩

/-- R124: with room and a number left an overload joins the alarm list. -/
theorem completeVehicle_raises {g : Nat} (h : overload (p.grossOf v) v.grossLimit = some g)
    (hnext : s.alarms.next < 4294967295) (hroom : s.alarms.list.length < 256) :
    ∃ r, (s.completeVehicle t n index).alarms.list = s.alarms.list ++ [r] ∧ r.number = s.alarms.next ∧
      r.alarm = overloadAlarm t p n index v g := by
  rw [completeVehicle_above hp hv h]
  obtain ⟨hlist, -⟩ := raise_joins (s := s.updateVehicle t n index (.completed (p.grossOf v) v.grossLimit))
    (overloadAlarm t p n index v g) hroom hnext
  exact ⟨_, hlist, rfl, rfl⟩

end Complete

/-! ### The record of a new vehicle (R121) -/

theorem Level.code_higher (a b : Level) : (a.higher b).code = max a.code b.code := by
  cases a <;> cases b <;> rfl

/-- The highest level of some axles and a first level: at least each of them. -/
theorem code_le_foldl_higher (axles : List WaitingAxle) (first : Level) :
    let worst := axles.foldl (fun l a => l.higher a.level) first
    first.code ≤ worst.code ∧ ∀ a ∈ axles, a.level.code ≤ worst.code := by
  induction axles generalizing first with
  | nil => simp
  | cons a rest ih =>
    obtain ⟨hfirst, hrest⟩ := ih (first.higher a.level)
    rw [Level.code_higher] at hfirst
    exact ⟨(le_max_left _ _).trans hfirst,
      List.forall_mem_cons.mpr ⟨(le_max_right _ _).trans hfirst, hrest⟩⟩

/-- The highest level of some axles and a first level is one of them. -/
theorem foldl_higher_mem (axles : List WaitingAxle) (first : Level) :
    let worst := axles.foldl (fun l a => l.higher a.level) first
    worst = first ∨ ∃ a ∈ axles, a.level = worst := by
  induction axles generalizing first with
  | nil => exact .inl rfl
  | cons a rest ih =>
    rcases ih (first.higher a.level) with h | ⟨b, hb, h⟩
    · have hone : first.higher a.level = first ∨ first.higher a.level = a.level :=
        (ite_eq_or_eq _ _ _).symm
      exact hone.imp h.trans fun e => ⟨a, List.mem_cons_self, (h.trans e).symm⟩
    · exact .inr ⟨b, List.mem_cons_of_mem a hb, h⟩

section NewVehicle

variable (m : MatchContext) (shape : VehicleShape)

theorem newVehicle_degradedSpacing_iff : (m.newVehicle shape).degradedSpacing = true ↔
    (∃ a ∈ m.waiting.take shape.axles, a.degraded = true) ∨
      (shape.afterGap ≠ 0 ∧ ∃ a, m.waiting[shape.axles]? = some a ∧ a.degraded = true) := by
  have hbehind : ((m.waiting.drop shape.axles).take 1).any (fun a => a.degraded) = true ↔
      ∃ a, m.waiting[shape.axles]? = some a ∧ a.degraded = true := by
    rw [List.take_one, List.head?_drop]
    cases m.waiting[shape.axles]? <;> simp
  rw [MatchContext.newVehicle, Bool.or_eq_true, Bool.and_eq_true, hbehind, List.any_eq_true,
    decide_eq_true_eq]

theorem newVehicle_gapAssumed_iff : (m.newVehicle shape).gapAssumed = true ↔
    shape.afterGap ≠ 0 ∧ m.waiting[shape.axles]? = none := by
  rw [MatchContext.newVehicle, Bool.and_eq_true, decide_eq_true_eq, decide_eq_true_eq, List.getElem?_eq_none_iff]

theorem newVehicle_axleAbandoned_iff : (m.newVehicle shape).axleAbandoned = true ↔
    ∃ a ∈ m.waiting.take shape.axles, a.outcome = .abandoned := by
  simp only [MatchContext.newVehicle, List.any_eq_true, decide_eq_true_eq]

end NewVehicle

/-! ### Making a vehicle (R121, R122, R132) -/

section Request

variable {s : State} {t : TrackId} {n : Nat} {p : HeldPass}

/-- R132: a pass with a place left in its chunks, or with a free chunk for it, gets its record. -/
theorem requestVehicle_granted (hp : s.store.ofTrack t n = some p)
    (hroom : p.vehicles.length % 32 ≠ 0 ∨ 0 < s.store.freeVehicleChunks) :
    ∃ u, s.requestVehicle t n = (u, true) ∧ u.alarms = s.alarms ∧ u.store.ofTrack t n =
      some { p with vehicleChunks := p.vehicleChunks + if p.vehicles.length % 32 = 0 then 1 else 0 } := by
  rw [State.requestVehicle, hp]
  dsimp only
  by_cases hfull : p.vehicles.length % 32 = 0
  · have hfree : hasVehicleChunk s.store = true := decide_eq_true (hroom.resolve_left (not_not.mpr hfull))
    refine ⟨s.takeVehicleChunk t n, ?_, rfl, ?_⟩
    · rw [if_pos hfull, makeRoom_eq hfree, hfree, hp]
      rfl
    · rw [if_pos hfull]
      exact updatePass_ofTrack_self (f := fun p => { p with vehicleChunks := p.vehicleChunks + 1 })
        (fun _ => rfl) (fun _ => rfl) hp
  · refine ⟨s, if_neg hfull, rfl, ?_⟩
    rw [if_neg hfull]
    exact hp

/-- R122: a pass that is not held, and one that needs a chunk where none is free nor can be made free. -/
theorem requestVehicle_refused (h : s.store.ofTrack t n = none ∨
    ∃ p, s.store.ofTrack t n = some p ∧ p.vehicles.length % 32 = 0 ∧ s.store.freeVehicleChunks = 0 ∧
      s.store.pick = none) : s.requestVehicle t n = (s, false) := by
  rcases h with hp | ⟨p, hp, hfull, hfree, hpick⟩
  · rw [State.requestVehicle, hp]
  · have hnone : hasVehicleChunk s.store = false := by simp [hasVehicleChunk, hfree]
    rw [State.requestVehicle, hp]
    dsimp only
    rw [if_pos hfull, makeRoom_unable hpick, hnone]
    rfl

end Request

/-- R121: a vehicle's index written into the record of an axle, where the axle is one of its own. -/
def VehicleRecord.name (v : VehicleRecord) (a : AxleRecord) : AxleRecord :=
  if v.firstAxle ≤ a.index ∧ a.index < v.firstAxle + v.axles then { a with vehicle := some v.index } else a

theorem name_index (v : VehicleRecord) (a : AxleRecord) : (v.name a).index = a.index := by
  unfold VehicleRecord.name
  split <;> rfl

theorem name_axleLoad (v : VehicleRecord) (a : AxleRecord) : (v.name a).axleLoad = a.axleLoad := by
  unfold VehicleRecord.name
  split <;> rfl

/-- R121, R132: a vehicle's record written at the tail of a pass's, in a chunk of its own where theirs are full,
and its index into its axles' records. -/
def HeldPass.withVehicle (p : HeldPass) (v : VehicleRecord) : HeldPass :=
  { p with
    vehicles := p.vehicles ++ [v]
    axles := p.axles.map v.name
    vehicleChunks := p.vehicleChunks + if p.vehicles.length % 32 = 0 then 1 else 0 }

/-- Writing a vehicle's index leaves the axle loads. -/
theorem loadsOf_withVehicle (p : HeldPass) (v w : VehicleRecord) : (p.withVehicle v).loadsOf w = p.loadsOf w := by
  simp only [HeldPass.loadsOf, HeldPass.withVehicle, List.filter_map, List.map_map, Function.comp_def,
    name_index, name_axleLoad]

theorem grossOf_withVehicle (p : HeldPass) (v w : VehicleRecord) : (p.withVehicle v).grossOf w = p.grossOf w := by
  rw [grossOf_eq, grossOf_eq, loadsOf_withVehicle]

/-- R121: the state `u` in which a vehicle of a held pass has been made but not completed. -/
structure Made (s u : State) (t : TrackId) (m : MatchContext) (shape : VehicleShape) (p : HeldPass) : Prop where
  held : u.store.ofTrack t m.pass = some (p.withVehicle (m.newVehicle shape))
  context : u.context t = some (m.advance shape.axles)
  alarms : u.alarms = s.alarms

section Make

variable {s : State} {t : TrackId} {m : MatchContext} {shape : VehicleShape}

/-- R120, R121: a vehicle is made, and completed at once where its axles have ended. -/
theorem makeVehicle_granted {p : HeldPass} (hp : s.store.ofTrack t m.pass = some p)
    (hroom : p.vehicles.length % 32 ≠ 0 ∨ 0 < s.store.freeVehicleChunks) :
    ∃ u, Made s u t m shape p ∧ s.makeVehicle t m shape =
      if m.cursor + shape.axles ≤ m.finishMark + 1 then u.completeVehicle t m.pass m.nextVehicle else u := by
  obtain ⟨asked, hasked, halarms, hheld⟩ := requestVehicle_granted hp hroom
  refine ⟨_, ⟨?_, ?_, ?_⟩, by rw [State.makeVehicle, hasked]; rfl⟩
  · exact updatePass_ofTrack_self (f := fun p => { p with
      vehicles := p.vehicles ++ [m.newVehicle shape], axles := p.axles.map (m.newVehicle shape).name })
      (fun _ => rfl) (fun _ => rfl) hheld
  · exact context_setContext _ t _
  · exact halarms

theorem makeVehicle_refused (h : s.requestVehicle t m.pass = (s, false)) : s.makeVehicle t m shape =
    (s.flagPass t m.pass fun f => { f with vehiclesTruncated := true }).setContext t (some m.stop) := by
  rw [State.makeVehicle, h]
  rfl

end Make

/-- R120, R121: the new vehicle of a pass is found by its index, which no vehicle before it has. -/
theorem Made.completes {s u : State} {t : TrackId} {m : MatchContext} {shape : VehicleShape} {p : HeldPass}
    (h : Made s u t m shape p) (hnew : ∀ x ∈ p.vehicles, x.index ≠ m.nextVehicle) :
    let v := m.newVehicle shape
    let gross := p.grossOf v
    let done := u.completeVehicle t m.pass m.nextVehicle
    (∃ q, done.store.ofTrack t m.pass = some q ∧ q.axles = (p.withVehicle v).axles ∧
      q.vehicleChunks = (p.withVehicle v).vehicleChunks ∧
      q.vehicles = p.vehicles ++ [v.completed gross shape.grossLimit]) ∧
    (overload gross shape.grossLimit = none → done.alarms = s.alarms) ∧
    ∀ g, overload gross shape.grossLimit = some g → s.alarms.next < 4294967295 →
      s.alarms.list.length < 256 → ∃ r, done.alarms.list = s.alarms.list ++ [r] ∧
        r.alarm = overloadAlarm t p m.pass m.nextVehicle v g := by
  intro v gross done
  have hfound : (p.withVehicle v).vehicles.find? (fun x => decide (x.index = m.nextVehicle)) = some v :=
    find?_append_new (v := v) hnew
  have hgross : (p.withVehicle v).grossOf v = gross := grossOf_withVehicle p v v
  refine ⟨?_, fun hwithin => ?_, fun g habove hnext hlength => ?_⟩
  · obtain ⟨q, hq, hvehicles, haxles, hchunks⟩ := completeVehicle_ofTrack h.held hfound
    rw [hgross] at hvehicles
    exact ⟨q, hq, haxles, hchunks, hvehicles.trans (map_atVehicle_append (v := v) hnew)⟩
  · have hdone : done = _ := completeVehicle_within h.held hfound (hgross.symm ▸ hwithin)
    rw [hdone]
    exact h.alarms
  · rw [← h.alarms] at hnext hlength ⊢
    obtain ⟨r, hlist, -, hr⟩ := completeVehicle_raises h.held hfound (hgross.symm ▸ habove) hnext hlength
    exact ⟨r, hlist, hr⟩

theorem completeVehicle_context (s : State) (t o : TrackId) (n i : Nat) :
    (s.completeVehicle t n i).context o = s.context o :=
  completeVehicle_frame s t n i (.context o) (by simp)

/-! ### The report of an ended axle (R123) -/

/-- R123: the context that has been told of an axle's end. -/
def MatchContext.told (m : MatchContext) (index : Nat) (o : AxleOutcome) (l : Level) : MatchContext :=
  { m with finishMark := index, waiting := m.waiting.map fun a => a.reported index o l }

/-- R123: a vehicle record that has been told of the end of one of its axles. -/
def VehicleRecord.told (o : AxleOutcome) (l : Level) (x : VehicleRecord) : VehicleRecord :=
  { x with worst := x.worst.higher l, axleAbandoned := x.axleAbandoned || decide (o = .abandoned) }

section Tell

variable {s : State} {t : TrackId} {m : MatchContext} {index : Nat} {o : AxleOutcome} {l : Level}
  (hm : s.context t = some m)

include hm

theorem tellEnded_without_vehicle (hnone : s.axleVehicle t m.pass index = none) :
    s.tellEnded t m.pass index o l = s.setContext t (some (m.told index o l)) := by
  have hlater (c) : (s.setContext t c).axleVehicle t m.pass index = none := hnone
  simp only [State.tellEnded, hm, hlater]
  rfl

theorem tellEnded_with_vehicle {i : Nat} {p : HeldPass} {v : VehicleRecord}
    (hi : s.axleVehicle t m.pass index = some i) (hp : s.store.ofTrack t m.pass = some p)
    (hv : p.vehicles.find? (fun x => decide (x.index = i)) = some v) :
    let told := (s.setContext t (some (m.told index o l))).updateVehicle t m.pass i (.told o l)
    s.tellEnded t m.pass index o l =
      if index + 1 = v.firstAxle + v.axles then told.completeVehicle t m.pass i else told := by
  intro told
  have hlater (c) : (s.setContext t c).axleVehicle t m.pass index = some i := hi
  have hheld : (s.setContext t (some (m.told index o l))).store.ofTrack t m.pass = some p := hp
  have hrecord : told.vehicleRecord t m.pass i = some (v.told o l) := by
    rw [vehicleRecord_eq (updateVehicle_ofTrack hheld)]
    exact (find?_atVehicle (f := .told o l) (fun _ => rfl) _).trans (congrArg (Option.map _) hv)
  simp only [State.tellEnded, hm, hlater]
  show (match told.vehicleRecord t m.pass i with
    | none => told
    | some r => if r.firstAxle + r.axles = index + 1 then told.completeVehicle t m.pass i else told) = _
  rw [hrecord]
  exact if_congr eq_comm rfl rfl

end Tell

/-! ### The statement -/

/-- Settles O39, from the state in which a vehicle has been made, the completion of a vehicle, and the report of
an ended axle. -/
theorem vehiclesAreMadeAndCompleted : Obligations.VehiclesAreMadeAndCompleted := by
  intro s t m
  refine ⟨fun shape p _ hp hroom => ?_, fun shape hrefused => ?_, fun index o l hm hnone => ?_,
    fun index i o l p v hm hp hi hv => ?_, fun n index p v hp hv => ?_⟩
  · intro mine compared u
    obtain ⟨made, hmade, hu⟩ := makeVehicle_granted (shape := shape) hp hroom
    change u = _ at hu
    obtain ⟨-, hbound⟩ := code_le_foldl_higher mine .none
    refine ⟨m.newVehicle shape, rfl, rfl, rfl, rfl, rfl, rfl, rfl, hbound, foldl_higher_mem mine .none,
      newVehicle_degradedSpacing_iff m shape, newVehicle_gapAssumed_iff m shape,
      newVehicle_axleAbandoned_iff m shape, ?_, fun hrunning => ?_, fun hended hnew => ?_⟩
    · rw [hu]
      split
      · exact (completeVehicle_context _ _ _ _ _).trans hmade.context
      · exact hmade.context
    · rw [hu, if_neg (by omega)]
      exact ⟨rfl, rfl, hmade.held, hmade.alarms⟩
    · rw [hu, if_pos hended]
      intro loads gross exceeding
      obtain ⟨hheld, hwithin, habove⟩ := hmade.completes hnew
      have hgross : p.grossOf (m.newVehicle shape) = gross := grossOf_eq _ _
      rw [hgross] at hheld hwithin habove
      exact ⟨hheld, fun h => hwithin (overload_eq_none_iff.mpr h),
        fun g h => habove g (overload_eq_some_iff.mpr h)⟩
  · intro u
    have hu : u = _ := makeVehicle_refused (requestVehicle_refused hrefused)
    rw [hu]
    exact ⟨context_setContext _ t _, rfl, rfl, updatePass_ofTrack_map (fun _ => rfl) fun _ => rfl⟩
  · exact tellEnded_without_vehicle hm hnone
  · intro told
    have htold := tellEnded_with_vehicle (o := o) (l := l) hm hi hp hv
    exact ⟨fun h => htold.trans (if_neg h), fun h => htold.trans (if_pos h)⟩
  · intro mine u
    refine ⟨p.grossOf v, grossOf_eq_none_iff.trans (by simp [HeldPass.loadsOf, mine]), fun g hg => ?_, ?_⟩
    · rw [eq_sum_of_grossOf hg, HeldPass.loadsOf, List.map_map]
      rfl
    · intro exceeds final
      obtain ⟨q, hq, hvehicles, haxles, -⟩ := completeVehicle_ofTrack hp hv
      refine ⟨⟨q, hq, hvehicles, haxles⟩, fun hwithin => ?_, fun g habove => ?_⟩
      · have hu : u = _ := completeVehicle_within hp hv (overload_eq_none_iff.mpr hwithin)
        rw [hu]
        exact ⟨rfl, rfl⟩
      · exact completeVehicle_raises hp hv (overload_eq_some_iff.mpr habove)

end Sys2Proof.Machine
end

section
/-! PROOFS. ATTACH, DETACH, SELECT PASS, the READ commands and RELEASE PASS (R134, R135, R139, R140, R162, R164,
R170): what each command answers, as the state it leaves with the port's reply formed. -/

namespace Sys2Proof.Machine

open Sys2Proof

-- One proof after another: elaborated side by side they ask for more threads than check.sh allows.
set_option Elab.async false

/-! ### Arguments and replies (R160, R162, R189) -/

/-- The argument that ends the arguments takes all bytes from its place on. -/
theorem argument_last {args : List Byte} {start width : Nat} (h : args.length = start + width) :
    argument args start width = bytesNat (args.drop start) := by
  rw [argument, List.take_of_length_le (by rw [List.length_drop]; omega)]

theorem argument_whole {args : List Byte} {width : Nat} (h : args.length = width) :
    argument args 0 width = bytesNat args := argument_last (by omega)

theorem passNumberOk_iff (n : Nat) : passNumberOk n = true ↔ 1 ≤ n ∧ n ≤ 65534 := by
  simp [passNumberOk]

theorem readRange_iff (start count : Nat) : (startOk start && wordCountOk count) = true ↔
    (start ≤ 16383 ∨ start = 65535) ∧ 1 ≤ count ∧ count ≤ 64 := by
  simp [startOk, wordCountOk]

/-- R160: a command row whose bytes complete its frame leaves what its command leaves, with the port's reply
formed. -/
theorem transact_replies {s u : State} {now : SiteTime} {p : Port} {bytes args : List Byte} {code : Nat} {r : Reply}
    {run : List Byte → State → Executed} (h : Completes s p bytes code args) (hcode : code < 256)
    (hrun : run args (s.atTime now) = (u.atTime now, r)) :
    (s.atTime now).transact p bytes (isCommand code) run = u.replying now p r.status.code r.data := by
  have hrow : isCommand code (BitVec.ofNat 8 code) args = true := by
    rw [isCommand, decide_eq_true_eq, BitVec.toNat_ofNat]
    exact Nat.mod_eq_of_lt hcode
  exact transact_answers (s := s.atTime now) h hrow hrun

/-! ### ATTACH and DETACH (R135, R164) -/

/-- Settles O49: each command carried out, or answered ALREADY. -/
theorem attachAndDetachOwnTheAttachment : Obligations.AttachAndDetachOwnTheAttachment := by
  intro now p bytes s
  refine ⟨fun h => ⟨fun hattached => ?_, fun hdetached => ?_⟩, fun h => ⟨fun hdetached => ?_, fun hattached => ?_⟩⟩
  · exact congrArg Host.Outcome.next (transact_replies (u := s) (r := ⟨.already, []⟩) h (by decide) (if_pos hattached))
  · exact congrArg Host.Outcome.next (transact_replies (u := s.setPort p { s.port p with attached := true })
      (r := ⟨.ok, []⟩) h (by decide) (if_neg (Bool.eq_false_iff.mp hdetached)))
  · exact congrArg Host.Outcome.next
      (transact_replies (u := s) (r := ⟨.already, []⟩) h (by decide) (if_neg (Bool.eq_false_iff.mp hdetached)))
  · exact congrArg Host.Outcome.next
      (transact_replies (u := s.detachPort p) (r := ⟨.ok, []⟩) h (by decide) (if_pos hattached))

/-! ### SELECT PASS (R139) -/

section Select

variable {s : State} {now : SiteTime} {p : Port} {bytes args : List Byte}

theorem runSelectPass_eq (hlen : args.length = 2) (s : State) : s.runSelectPass p args =
    if 1 ≤ bytesNat args ∧ bytesNat args ≤ 65534 then
      if (s.store.find (bytesNat args)).isSome then answer (s.setView p (.names (bytesNat args) .header 0)) .ok
      else answer s .notHeld
    else answer s .badArgument := by
  rw [State.runSelectPass, argument_whole hlen, checked, if_pos hlen]
  exact if_congr (passNumberOk_iff _) rfl rfl

theorem exec_selectPass_held (hlen : args.length = 2) (h : Completes s p bytes 17 args) (h1 : 1 ≤ bytesNat args)
    (h2 : bytesNat args ≤ 65534) (hheld : (s.store.find (bytesNat args)).isSome = true) :
    exec (.selectPass now p bytes) s =
      .next ((s.setView p (.names (bytesNat args) .header 0)).replying now p 1 []) :=
  congrArg Host.Outcome.next (transact_replies (r := ⟨.ok, []⟩) h (by decide)
    ((runSelectPass_eq hlen _).trans ((if_pos ⟨h1, h2⟩).trans (if_pos hheld))))

theorem exec_selectPass_notHeld (hlen : args.length = 2) (h : Completes s p bytes 17 args) (h1 : 1 ≤ bytesNat args)
    (h2 : bytesNat args ≤ 65534) (hnone : s.store.find (bytesNat args) = none) :
    exec (.selectPass now p bytes) s = .next (s.replying now p 9 []) :=
  congrArg Host.Outcome.next (transact_replies (r := ⟨.notHeld, []⟩) h (by decide)
    ((runSelectPass_eq hlen _).trans ((if_pos ⟨h1, h2⟩).trans
      (if_neg (Option.not_isSome_iff_eq_none.mpr hnone)))))

theorem exec_selectPass_bad (hlen : args.length = 2) (h : Completes s p bytes 17 args)
    (hbad : ¬(1 ≤ bytesNat args ∧ bytesNat args ≤ 65534)) :
    exec (.selectPass now p bytes) s = .next (s.replying now p 7 []) :=
  congrArg Host.Outcome.next (transact_replies (r := ⟨.badArgument, []⟩) h (by decide)
    ((runSelectPass_eq hlen _).trans (if_neg hbad)))

end Select

/-! ### The READ commands (R140, R170) -/

/-- R189: the rows of the READ commands, each with its command byte and the part it reads. -/
abbrev readRows : List ((SiteTime → Port → List Byte → Instr) × Nat × ReadPart) :=
  [(Instr.readHeader, 18, ReadPart.header), (Instr.readAxles, 19, ReadPart.axles),
    (Instr.readVehicles, 20, ReadPart.vehicles)]

/-- A READ row leaves what its read leaves, with the port's reply formed. -/
theorem exec_readRow {s u : State} {now : SiteTime} {p : Port} {bytes args : List Byte} {r : Reply}
    {row : (SiteTime → Port → List Byte → Instr) × Nat × ReadPart} (hrow : row ∈ readRows)
    (h : Completes s p bytes row.2.1 args) (hrun : (s.atTime now).runRead p row.2.2 args = (u.atTime now, r)) :
    exec (row.1 now p bytes) s = .next (u.replying now p r.status.code r.data) := by
  simp only [List.mem_cons, List.not_mem_nil, or_false] at hrow
  rcases hrow with rfl | rfl | rfl <;> exact congrArg Host.Outcome.next (transact_replies h (by decide) hrun)

theorem runRead_eq {args : List Byte} (hlen : args.length = 3) (s : State) (p : Port) (part : ReadPart) :
    s.runRead p part args =
      if (bytesNat (args.take 2) ≤ 16383 ∨ bytesNat (args.take 2) = 65535) ∧
        1 ≤ bytesNat (args.drop 2) ∧ bytesNat (args.drop 2) ≤ 64 then
        s.readPart p part (bytesNat (args.take 2)) (bytesNat (args.drop 2))
      else answer s .badArgument := by
  rw [State.runRead, argument_last (start := 2) hlen, checked, if_pos hlen]
  exact if_congr (readRange_iff _ _) rfl rfl

/-- R140: the cursor after a read that starts within its part stands behind the words returned. -/
theorem cursorAfter_eq {words : List Word} {start : Nat} (count : Nat) (h : start ≤ words.length) :
    cursorAfter words.length start count = start + ((words.drop start).take count).length := by
  rw [cursorAfter, List.length_take, List.length_drop]
  omega

theorem readWords_code (words : List Word) (start count : Nat) :
    (readWords words start count).status.code =
      if ((words.drop start).take count).length = count then 1 else 2 :=
  apply_ite StatusCode.code _ _ _

/-- R139, R140: a read through a view that names a held pass. -/
theorem readPart_names {s : State} {p : Port} {n offset : Nat} {cursorPart : ReadPart} {x : HeldPass}
    (hview : (s.port p).view = .names n cursorPart offset) (hx : s.store.find n = some x) (part : ReadPart)
    (start count : Nat) : s.readPart p part start count =
      (s.setView p (.names n part (cursorAfter (x.partWords part).length
        (readStart start part cursorPart offset) count)),
        readWords (x.partWords part) (readStart start part cursorPart offset) count) := by
  rw [State.readPart, hview]
  dsimp only
  rw [hx]

/-- Settles O50, SELECT PASS by the number it names and a READ by the view it reads through. -/
theorem selectAndReadCommandsUseTheView : Obligations.SelectAndReadCommandsUseTheView := by
  refine ⟨fun now p bytes args s hlen h => ⟨exec_selectPass_held hlen h, exec_selectPass_notHeld hlen h,
    fun hbad => exec_selectPass_bad hlen h (by omega)⟩, ?_⟩
  intro row hrow now p bytes args s hlen h start count inRange
  have inside (hin : inRange) := (runRead_eq hlen (s.atTime now) p row.2.2).trans (if_pos hin)
  refine ⟨fun hbad => ?bad, fun hin => ⟨fun hview => ?empty, fun hview => ?stale, ?names⟩⟩
  case bad =>
    exact exec_readRow (r := ⟨.badArgument, []⟩) hrow h ((runRead_eq hlen _ p _).trans (if_neg hbad))
  case empty =>
    have hread : (s.atTime now).readPart p row.2.2 start count = answer (s.atTime now) .noView := by
      have hview' : ((s.atTime now).port p).view = .empty := hview
      rw [State.readPart, hview']
    exact exec_readRow (u := s) hrow h ((inside hin).trans hread)
  case stale =>
    have hread : (s.atTime now).readPart p row.2.2 start count =
        answer ((s.setView p .empty).atTime now) .notHeld := by
      have hview' : ((s.atTime now).port p).view = .stale := hview
      rw [State.readPart, hview']
      rfl
    exact exec_readRow hrow h ((inside hin).trans hread)
  case names =>
    intro n part offset x hview hx first got hfirst
    have hstart : readStart start row.2.2 part offset = first :=
      if_congr Iff.rfl (if_congr eq_comm rfl rfl) rfl
    have hread := readPart_names (s := s.atTime now) (p := p) hview hx row.2.2 start count
    rw [hstart, cursorAfter_eq count hfirst] at hread
    have hexec := exec_readRow (u := s.setView p (.names n row.2.2 (first + got.length))) hrow h
      ((inside hin).trans hread)
    rwa [readWords_code] at hexec

/-! ### RELEASE PASS (R134) -/

section Release

variable {s : State} {now : SiteTime} {p : Port} {bytes args : List Byte}

/-- R134, R162: RELEASE PASS at an attached port of a number in range leaves what the release leaves. -/
theorem exec_releasePass {u : State} {status : StatusCode} (hlen : args.length = 2)
    (h : Completes s p bytes 21 args) (hrange : 1 ≤ bytesNat args ∧ bytesNat args ≤ 65534)
    (hrun : needsAttached (s.atTime now) p ((s.atTime now).releasePass p (bytesNat args)) =
      answer (u.atTime now) status) :
    exec (.releasePass now p bytes) s = .next (u.replying now p status.code []) := by
  refine congrArg Host.Outcome.next (transact_replies (r := ⟨status, []⟩) h (by decide) ?_)
  rw [State.runReleasePass, argument_whole hlen, checked_ok hlen ((passNumberOk_iff _).mpr hrange)]
  exact hrun

end Release

/-- R134: the table of RELEASE PASS for a held pass. -/
theorem releasePass_held {s : State} {n : Nat} {x : HeldPass} (hx : s.store.find n = some x) (p : Port) :
    s.releasePass p n =
      if x.state ≠ .closed then answer s .passOpen
      else if x.retention.get p = false ∨ x.release.get p = true then answer s .already
      else answer { s with store := s.store.update n fun x => { x with release := x.release.set p true } } .ok := by
  rw [State.releasePass, hx]
  refine if_congr Iff.rfl rfl (if_congr ?_ rfl rfl)
  rw [Bool.or_eq_true, Bool.not_eq_true']

/-- Settles O51, row by row of the table. -/
theorem releasePassFollowsItsTable : Obligations.ReleasePassFollowsItsTable := by
  intro now p bytes args s hlen h h1 h2 n
  refine ⟨fun hdetached => ?_, fun hattached => ?_⟩
  · exact exec_releasePass hlen h ⟨h1, h2⟩ (status := .notAttached) (if_neg (Bool.eq_false_iff.mp hdetached))
  have taken : needsAttached (s.atTime now) p ((s.atTime now).releasePass p n) = (s.atTime now).releasePass p n :=
    if_pos hattached
  refine ⟨fun hnone => ?_, fun x hx => ?_⟩
  · have hrun : (s.atTime now).releasePass p n = answer (s.atTime now) .notHeld := by
      have hnone' : (s.atTime now).store.find n = none := hnone
      rw [State.releasePass, hnone']
    exact exec_releasePass hlen h ⟨h1, h2⟩ (taken.trans hrun)
  · have hrun := taken.trans (releasePass_held (s := s.atTime now) hx p)
    refine ⟨fun hopen => ?_, fun hclosed hdone => ?_, fun hclosed hheld hleft => ?_⟩
    · exact exec_releasePass hlen h ⟨h1, h2⟩ (hrun.trans (if_pos hopen))
    · exact exec_releasePass hlen h ⟨h1, h2⟩ (hrun.trans ((if_neg (not_not_intro hclosed)).trans (if_pos hdone)))
    · have hkeeps : ¬(x.retention.get p = false ∨ x.release.get p = true) := by
        rw [hheld, hleft]
        decide
      exact exec_releasePass hlen h ⟨h1, h2⟩
        (u := { s with store := s.store.update n fun x => { x with release := x.release.set p true } })
        (hrun.trans ((if_neg (not_not_intro hclosed)).trans (if_neg hkeeps)))

end Sys2Proof.Machine
end

section
/-! PROOFS. STATUS, LIST PASSES, STAGE READ and ACTIVE READ (R142, R168, R182, R189, R190): the fields of a word by
their bits, and the reply of each command, which changes nothing but the port's transaction. -/

namespace Sys2Proof.Machine

open Sys2Proof

-- One proof after another: elaborated side by side they ask for more threads than check.sh allows.
set_option Elab.async false

/-! ### Fields of a word (R190) -/

/-- The bits hi down to lo of a word carry a number, cut to as many bits. -/
def Carries (w : Word) (hi lo n : Nat) : Prop :=
  w.toNat / 2 ^ lo % 2 ^ (hi + 1 - lo) = n % 2 ^ (hi + 1 - lo)

theorem carries_iff {w : Word} {hi lo n : Nat} : Carries w hi lo n ↔ bitsOf w hi lo = n % 2 ^ (hi + 1 - lo) := by
  rw [Carries, bitsOf, Nat.shiftRight_eq_div_pow]

@[simp] theorem bitsOf_or (a b : Word) (hi lo : Nat) :
    bitsOf (a ||| b) hi lo = bitsOf a hi lo ||| bitsOf b hi lo := by
  rw [bitsOf, BitVec.toNat_or, Nat.shiftRight_or_distrib, Nat.or_mod_two_pow]
  rfl

theorem fieldAt_toNat (v : Nat) {width lo : Nat} (h : lo + width ≤ 32) :
    (fieldAt v width lo).toNat = v % 2 ^ width * 2 ^ lo := by
  rw [fieldAt, atBit, BitVec.toNat_ofNat, Nat.shiftLeft_eq]
  refine Nat.mod_eq_of_lt (lt_of_lt_of_le ?_ (Nat.pow_le_pow_right (by decide) h))
  rw [Nat.pow_add, Nat.mul_comm (2 ^ lo)]
  exact Nat.mul_lt_mul_of_pos_right (Nat.mod_lt _ (by positivity)) (by positivity)

theorem testBit_bitsOf_fieldAt (v : Nat) {width start : Nat} (hword : start + width ≤ 32) (hi lo j : Nat) :
    (bitsOf (fieldAt v width start) hi lo).testBit j = true ↔
      j < hi + 1 - lo ∧ start ≤ lo + j ∧ lo + j - start < width ∧ v.testBit (lo + j - start) = true := by
  simp [bitsOf, fieldAt_toNat v hword, Nat.testBit_mul_two_pow]

/-- A field is read by bits of its own. -/
@[simp] theorem bitsOf_fieldAt_within (v : Nat) {width start hi lo : Nat} (hword : start + width ≤ 32)
    (hlo : start ≤ lo) (hhi : hi < start + width) :
    bitsOf (fieldAt v width start) hi lo = v / 2 ^ (lo - start) % 2 ^ (hi + 1 - lo) := by
  refine Nat.eq_of_testBit_eq fun j => ?_
  rw [Bool.eq_iff_iff, testBit_bitsOf_fieldAt v hword, Nat.testBit_mod_two_pow, Nat.testBit_div_two_pow,
    Bool.and_eq_true, decide_eq_true_eq, show j + (lo - start) = lo + j - start by omega]
  exact and_congr_right fun hj => ⟨fun h => h.2.2, fun h => ⟨by omega, by omega, h⟩⟩

/-- A field is not seen by bits above or below it. -/
@[simp] theorem bitsOf_fieldAt_outside (v : Nat) {width start hi lo : Nat} (hword : start + width ≤ 32)
    (h : hi < start ∨ start + width ≤ lo) : bitsOf (fieldAt v width start) hi lo = 0 := by
  refine Nat.zero_of_testBit_eq_false fun j => Bool.eq_false_iff.mpr fun hbit => ?_
  obtain ⟨hj, hstart, hwidth, -⟩ := (testBit_bitsOf_fieldAt v hword hi lo j).mp hbit
  omega

theorem flagBit_eq (f : Bool) (i : Nat) : flagBit f i = fieldAt (if f = true then 1 else 0) 1 i := by
  cases f <;> simp [flagBit, fieldAt, atBit]

theorem flagBits_bit (fs : List Bool) (i : Nat) :
    flagBits fs / 2 ^ i % 2 = if fs.getD i false = true then 1 else 0 := by
  induction fs generalizing i with
  | nil => simp [flagBits]
  | cons f rest ih =>
    have hcons : flagBits (f :: rest) = (if f = true then 1 else 0) + 2 * flagBits rest := rfl
    cases i with
    | zero => cases f <;> simp [hcons]
    | succ i =>
      have hhalf : flagBits (f :: rest) / 2 = flagBits rest := by
        rw [hcons]
        split <;> omega
      rw [Nat.pow_succ', ← Nat.div_div_eq_div_mul, hhalf, ih]
      rfl

/-- A flag of a set of flags is read by its bit. -/
theorem carries_flag (fs : List Bool) {width start i j : Nat} (hword : start + width ≤ 32) (hi : i < width)
    (hj : j = start + i) :
    Carries (fieldAt (flagBits fs) width start) j j (if fs.getD i false = true then 1 else 0) := by
  rw [carries_iff, bitsOf_fieldAt_within _ hword (by omega) (by omega), hj, Nat.add_sub_cancel_left,
    Nat.add_sub_cancel_left, Nat.pow_one, flagBits_bit]
  split <;> rfl

theorem Carries.or_left {a b : Word} {hi lo n : Nat} (ha : Carries a hi lo n) (hb : Carries b hi lo 0) :
    Carries (a ||| b) hi lo n := by
  rw [carries_iff] at ha hb ⊢
  rw [bitsOf_or, ha, hb, Nat.zero_mod, Nat.or_zero]

theorem Carries.or_right {a b : Word} {hi lo n : Nat} (ha : Carries a hi lo 0) (hb : Carries b hi lo n) :
    Carries (a ||| b) hi lo n := by
  rw [carries_iff] at ha hb ⊢
  rw [bitsOf_or, ha, hb, Nat.zero_mod, Nat.zero_or]

theorem carries_outside (v : Nat) {width start hi lo : Nat} (hword : start + width ≤ 32)
    (h : hi < start ∨ start + width ≤ lo) : Carries (fieldAt v width start) hi lo 0 := by
  rw [carries_iff, bitsOf_fieldAt_outside v hword h, Nat.zero_mod]

theorem fieldAt_carries (v : Nat) {hi lo : Nat} (hlo : lo ≤ hi) (hword : hi < 32) :
    Carries (fieldAt v (hi + 1 - lo) lo) hi lo v := by
  rw [carries_iff, bitsOf_fieldAt_within v (by omega) le_rfl (by omega), Nat.sub_self, Nat.pow_zero, Nat.div_one]

/-! ### The words of STATUS (R168) -/

theorem twoHalves_carries (upper lower : Nat) :
    Carries (twoHalves upper lower) 31 16 upper ∧ Carries (twoHalves upper lower) 15 0 lower := by
  simp [carries_iff, twoHalves]

theorem trackState_code (x : TrackState) : x.code = ([TrackState.unconfigured, .outOfService, .idle, .approach,
    .occupied, .standing, .clearing, .draining].idxOf x) := by
  cases x <;> rfl

theorem shutterView_code (x : ShutterView) :
    x.code = ([ShutterView.closed, .opening, .opened, .closing, .fault, .silent].idxOf x) := by
  cases x <;> rfl

/-- Word 2: the attachments and the notices that wait at the port. -/
theorem portsWord_carries (a b : Bool) (n : Nat) :
    let w := flagBit a 31 ||| flagBit b 30 ||| fieldAt n 8 0
    Carries w 31 31 (if a = true then 1 else 0) ∧ Carries w 30 30 (if b = true then 1 else 0) ∧
      Carries w 29 8 0 ∧ Carries w 7 0 n := by
  simp [carries_iff, flagBit_eq]

/-- Words 3 and 5: the state of a track. -/
theorem trackWord_carries (code count : Nat) (underflow unrecorded pending : Bool) :
    let w := fieldAt code 8 24 ||| fieldAt count 8 16 ||| flagBit underflow 2 ||| flagBit unrecorded 1 |||
      flagBit pending 0
    Carries w 31 24 code ∧ Carries w 23 16 count ∧ Carries w 15 3 0 ∧
      Carries w 2 2 (if underflow = true then 1 else 0) ∧ Carries w 1 1 (if unrecorded = true then 1 else 0) ∧
      Carries w 0 0 (if pending = true then 1 else 0) := by
  simp [carries_iff, flagBit_eq]

/-- Words 9 to 16: a scanner. -/
theorem scannerWord_carries (x : Scanner) :
    Carries x.statusWord 31 28 x.view.code ∧
      Carries x.statusWord 27 24 (2 * if x.wantedOpen = true then 1 else 0) ∧
      Carries x.statusWord 23 16 0 ∧ Carries x.statusWord 15 0 (signedField x.housing) := by
  cases hopen : x.wantedOpen <;> simp [carries_iff, Scanner.statusWord, hopen]

/-- Word 17: the ambient temperature and the free slots. -/
theorem ambientWord_carries (ambient slots : Nat) :
    let w := fieldAt ambient 16 16 ||| fieldAt slots 8 0
    Carries w 31 16 ambient ∧ Carries w 15 8 0 ∧ Carries w 7 0 slots := by
  simp [carries_iff]

/-- Word 18: the free chunks, LIST_FULL and the active lines. -/
theorem linesWord_carries (axles vehicles lines : Nat) (full : Bool) :
    let w := fieldAt axles 8 24 ||| fieldAt vehicles 8 16 ||| flagBit full 8 ||| fieldAt lines 8 0
    Carries w 31 24 axles ∧ Carries w 23 16 vehicles ∧ Carries w 15 9 0 ∧
      Carries w 8 8 (if full = true then 1 else 0) := by
  simp [carries_iff, flagBit_eq]

/-- Word 22: the mark of the site area. -/
theorem pendingWord_carries (pending : Bool) :
    Carries (flagBit pending 0) 31 1 0 ∧ Carries (flagBit pending 0) 0 0 (if pending = true then 1 else 0) := by
  simp [carries_iff, flagBit_eq]

theorem filter_unacknowledged (l : List AlarmRecord) :
    (l.filter fun r => decide (r.acknowledged = none)) = l.filter fun r => r.acknowledged.isNone :=
  List.filter_congr fun r _ => by cases r.acknowledged <;> rfl

/-- Words 3 to 6: a track, with its open pass where it has one. -/
theorem statusTrack_carries (s : State) (t : TrackId) :
    let c := s.section t
    let first := (s.statusTrack t).getD 0 0
    let second := (s.statusTrack t).getD 1 0
    let mark := fun x : Bool => if x = true then 1 else 0
    Carries first 31 24 ([TrackState.unconfigured, .outOfService, .idle, .approach, .occupied, .standing,
        .clearing, .draining].idxOf c.state) ∧
      Carries first 23 16 c.count ∧ Carries first 15 3 0 ∧ Carries first 2 2 (mark c.underflow) ∧
      Carries first 1 1 (match c.ctx with
        | none => 0
        | some x => mark (!x.recorded)) ∧
      Carries first 0 0 (mark (s.config.tracks.get t).committed.isSome) ∧
      Carries second 31 16 (match c.ctx with
        | none => 65535
        | some x => x.number) ∧
      Carries second 15 0 (s.config.tracks.get t).activeGeneration := by
  intro c first second mark
  obtain ⟨hstate, hcount, hspare, hunderflow, hunrecorded, hpending⟩ := trackWord_carries c.state.code c.count
    c.underflow (match c.ctx with
      | none => false
      | some x => !x.recorded) (s.config.tracks.get t).committed.isSome
  obtain ⟨hpass, hgeneration⟩ := twoHalves_carries (presentOr 16 (c.ctx.map fun x => x.number))
    (s.config.tracks.get t).activeGeneration
  have unrecorded : (if (match c.ctx with
      | none => false
      | some x => !x.recorded) = true then 1 else 0) = match c.ctx with
      | none => 0
      | some x => mark (!x.recorded) := by cases c.ctx <;> rfl
  have pass : presentOr 16 (c.ctx.map fun x => x.number) = match c.ctx with
      | none => 65535
      | some x => x.number := by cases c.ctx <;> simp [presentOr]
  refine ⟨?_, hcount, hspare, hunderflow, ?_, hpending, ?_, hgeneration⟩
  · rw [← trackState_code]
    exact hstate
  · rw [← unrecorded]
    exact hunrecorded
  · rw [← pass]
    exact hpass

/-- Words 7, 8 and 18: a set of eight flags is read by the place of each. -/
theorem eight_getD (f : Fin 8 → Bool) (i : Fin 8) : (eight.map f).getD i false = f i := by
  fin_cases i <;> rfl

theorem inputsWord_carries (held suspect : Fin 8 → Bool) (i : Fin 8) :
    let w := fieldAt (flagBits (eight.map held)) 8 8 ||| fieldAt (flagBits (eight.map suspect)) 8 0
    Carries w (8 + i) (8 + i) (if held i = true then 1 else 0) ∧
      Carries w i i (if suspect i = true then 1 else 0) := by
  have hi := i.isLt
  refine ⟨.or_left ?_ (carries_outside _ (by omega) (by omega)),
    .or_right (carries_outside _ (by omega) (by omega)) ?_⟩
  · simpa only [eight_getD] using carries_flag (eight.map held) (start := 8) (by decide) hi rfl
  · simpa only [eight_getD] using carries_flag (eight.map suspect) (start := 0) (by decide) hi (Nat.zero_add _).symm

theorem activeLine_carries (axles vehicles : Nat) (full : Bool) (active : Fin 8 → Bool) (i : Fin 8) :
    Carries (fieldAt axles 8 24 ||| fieldAt vehicles 8 16 ||| flagBit full 8 |||
      fieldAt (flagBits (eight.map active)) 8 0) i i (if active i = true then 1 else 0) := by
  have hi := i.isLt
  have above (v : Nat) {width start : Nat} (h : start + width ≤ 32) (h8 : 8 ≤ start) :
      Carries (fieldAt v width start) i i 0 := carries_outside v h (by omega)
  refine .or_right (.or_right (.or_right (above _ (by decide) (by decide)) (above _ (by decide) (by decide))) ?_) ?_
  · rw [flagBit_eq]
    exact above _ (by decide) (by decide)
  · simpa only [eight_getD] using carries_flag (eight.map active) (start := 0) (by decide) hi (Nat.zero_add _).symm

/-- The place of a bay among the bits of word 8. -/
def driftedPlace (t : TrackId) (rail : Rail) (b : Fin 8) : Nat :=
  (match t with
    | .t1 => 0
    | .t2 => 16) + (match rail with
    | .l => 0
    | .r => 8) + b.val

theorem driftedPlace_lt (t : TrackId) (rail : Rail) (b : Fin 8) : driftedPlace t rail b < 32 := by
  have hb := b.isLt
  cases t <;> cases rail <;> simp only [driftedPlace] <;> omega

theorem driftedBits_getD (s : State) (t : TrackId) (rail : Rail) (b : Fin 8) :
    (s.driftedBits .t1 ++ s.driftedBits .t2).getD (driftedPlace t rail b) false = s.isDrifted t rail b := by
  cases t <;> cases rail <;> fin_cases b <;> rfl

theorem driftedWord_carries (s : State) (t : TrackId) (rail : Rail) (b : Fin 8) :
    Carries (fieldAt (flagBits (s.driftedBits .t1 ++ s.driftedBits .t2)) 32 0) (driftedPlace t rail b)
      (driftedPlace t rail b) (if s.isDrifted t rail b = true then 1 else 0) := by
  rw [← driftedBits_getD]
  exact carries_flag _ (by decide) (driftedPlace_lt t rail b) (Nat.zero_add _).symm

/-- Words 9 to 16 are those of the scanner links. -/
theorem statusWords_link (s : State) (p : Port) (link : Fin 8) :
    (s.statusWords p).getD (9 + link) 0 = (s.linkScanner link).statusWord := by
  fin_cases link <;> rfl

/-- R168: STATUS answers its words. -/
theorem exec_status {s : State} {now : SiteTime} {p : Port} {bytes : List Byte} (h : Completes s p bytes 1 []) :
    exec (.status now p bytes) s = .next (s.replying now p 1 (wordsBytes ((s.atTime now).statusWords p))) :=
  congrArg Host.Outcome.next (transact_replies (u := s) (r := ⟨.ok, _⟩) h (by decide) rfl)

/-! ### LIST PASSES (R142) -/

/-- Of two numbers that share no bit the word of both is the word of their sum. -/
theorem ofNat_or_ofNat (k : Nat) {a b : Nat} (ha : 2 ^ k ∣ a) (hb : b < 2 ^ k) :
    BitVec.ofNat 32 a ||| BitVec.ofNat 32 b = BitVec.ofNat 32 (a + b) := by
  obtain ⟨c, rfl⟩ := ha
  rw [← BitVec.ofNat_or, Nat.two_pow_add_eq_or_of_lt hb c]

theorem fieldAt_eq_ofNat (v width lo : Nat) : fieldAt v width lo = BitVec.ofNat 32 (v % 2 ^ width * 2 ^ lo) := by
  rw [fieldAt, atBit, Nat.shiftLeft_eq]

/-- The fields of a word that lie one above the other are its number's summands. -/
theorem listWord_eq (n : Nat) {track direction state : Nat} (ht : track < 2 ^ 4) (hd : direction < 2 ^ 4)
    (hs : state < 2 ^ 4) (held released done : Bool) :
    fieldAt n 16 16 ||| fieldAt track 4 12 ||| fieldAt direction 4 8 ||| fieldAt state 4 4 |||
        flagBit held 3 ||| flagBit released 2 ||| flagBit done 1 =
      BitVec.ofNat 32 (n % 65536 * 65536 + track * 4096 + direction * 256 + state * 16 +
        (if held = true then 8 else 0) + (if released = true then 4 else 0) + (if done = true then 2 else 0)) := by
  have flag (f : Bool) (i : Nat) : flagBit f i = BitVec.ofNat 32 (if f = true then 2 ^ i else 0) := by
    cases f <;> simp [flagBit, atBit, Nat.shiftLeft_eq]
  rw [fieldAt_eq_ofNat, fieldAt_eq_ofNat, fieldAt_eq_ofNat, fieldAt_eq_ofNat, flag, flag, flag, Nat.mod_eq_of_lt ht,
    Nat.mod_eq_of_lt hd, Nat.mod_eq_of_lt hs, ofNat_or_ofNat 16 (by omega) (by omega),
    ofNat_or_ofNat 12 (by omega) (by omega), ofNat_or_ofNat 8 (by omega) (by omega),
    ofNat_or_ofNat 4 (by omega) (by split <;> decide), ofNat_or_ofNat 3 (by split <;> omega) (by split <;> decide),
    ofNat_or_ofNat 2 (by split <;> split <;> omega) (by split <;> decide)]
  simp only [Nat.reducePow]

/-- R142, R189: the two words of an entry. -/
theorem listWords_eq (x : HeldPass) (p : Port) : x.listWords p =
    [BitVec.ofNat 32 (x.number % 65536 * 65536 + trackNumber x.track * 4096 + x.direction.code * 256 +
      x.state.listCode * 16 + (if x.retention.get p = true then 8 else 0) +
        (if x.release.get p = true then 4 else 0) + (if x.fullyReleased = true then 2 else 0)),
      BitVec.ofNat 32 (x.axles.length % 65536 * 65536 + x.vehicles.length % 65536)] := by
  have ht : trackNumber x.track < 2 ^ 4 := by cases x.track <;> decide
  have hd : x.direction.code < 2 ^ 4 := by cases x.direction <;> decide
  have hs : x.state.listCode < 2 ^ 4 := by cases x.state <;> decide
  rw [HeldPass.listWords, listWord_eq x.number ht hd hs, twoHalves, fieldAt_eq_ofNat, fieldAt_eq_ofNat,
    ofNat_or_ofNat 16 (by omega) (by omega)]
  simp only [Nat.pow_zero, Nat.mul_one, Nat.reducePow]

/-- R142: LIST PASSES answers the count and an entry for each held pass. -/
theorem exec_listPasses {s : State} {now : SiteTime} {p : Port} {bytes : List Byte} (h : Completes s p bytes 16 []) :
    exec (.listPasses now p bytes) s = .next (s.replying now p 1 (BitVec.ofNat 8 s.store.passes.length ::
      wordsBytes (s.store.passes.flatMap fun (x : HeldPass) => x.listWords p))) :=
  congrArg Host.Outcome.next (transact_replies (u := s) (r := ⟨.ok, _⟩) h (by decide) rfl)

/-! ### STAGE READ and ACTIVE READ (R182) -/

theorem runAreaRead_eq {args : List Byte} {area : Area} (hlen : args.length = 4)
    (harea : areaOfCode (bytesNat (args.take 1)) = some area) (h1 : 1 ≤ bytesNat (args.drop 3))
    (h64 : bytesNat (args.drop 3) ≤ 64) (s : State) (image : Area → List Word) :
    s.runAreaRead image args =
      (s, readWords (image area) (bytesNat ((args.drop 1).take 2)) (bytesNat (args.drop 3))) := by
  have harea' : areaOfCode (argument args 0 1) = some area := harea
  have hcount : wordCountOk (bytesNat (args.drop 3)) = true := by simp [wordCountOk, h1, h64]
  rw [State.runAreaRead, harea', argument_last (start := 3) hlen]
  exact checked_ok hlen hcount

/-- R182: a read of an image answers the words from the offset on. -/
theorem areaRead_replies {s : State} {now : SiteTime} {p : Port} {bytes args : List Byte} {area : Area} {code : Nat}
    (image : State → Area → List Word) (hlen : args.length = 4)
    (harea : areaOfCode (bytesNat (args.take 1)) = some area) (h1 : 1 ≤ bytesNat (args.drop 3))
    (h64 : bytesNat (args.drop 3) ≤ 64) (hcode : code < 256) (h : Completes s p bytes code args) :
    let words := ((image (s.atTime now) area).drop (bytesNat ((args.drop 1).take 2))).take (bytesNat (args.drop 3))
    (s.atTime now).transact p bytes (isCommand code) (fun args s => s.runAreaRead (image s) args) =
      s.replying now p (if words.length = bytesNat (args.drop 3) then 1 else 2) (wordsBytes words) := by
  intro words
  have hreply := transact_replies (u := s) (run := fun args s => s.runAreaRead (image s) args) h hcode
    (runAreaRead_eq hlen harea h1 h64 (s.atTime now) (image (s.atTime now)))
  rwa [readWords_code] at hreply

/-- Settles O48: STATUS word by word, LIST PASSES by its entries, and the reads of an image. -/
theorem readingCommandsChangeNothing : Obligations.ReadingCommandsChangeNothing := by
  intro now p bytes args s
  refine ⟨fun h => ⟨(s.atTime now).statusWords p, rfl, exec_status h, ?status⟩, fun h => ?list,
    fun area hlen harea h1 h64 => ?areas⟩
  case status =>
    intro part mark signed
    obtain ⟨hattachedA, hattachedB, hspare2, hnotices⟩ :=
      portsWord_carries s.ports.a.attached s.ports.b.attached (s.port p).notices.length
    obtain ⟨hambient, hspare17, hslots⟩ := ambientWord_carries (signedField s.strain.ambient) s.store.freeSlots
    obtain ⟨haxles, hvehicles, hspare18, hfull⟩ := linesWord_carries s.store.freeAxleChunks
      s.store.freeVehicleChunks (flagBits (eight.map s.alarms.active)) s.alarms.listFull
    obtain ⟨hrecords, hopen⟩ := twoHalves_carries s.alarms.list.length
      (s.alarms.list.filter fun r => r.acknowledged.isNone).length
    obtain ⟨hgeneration, hactive⟩ := twoHalves_carries s.config.generation s.config.site.activeGeneration
    obtain ⟨hspare22, hpending⟩ := pendingWord_carries s.config.site.committed.isSome
    refine ⟨rfl, rfl, hattachedA, hattachedB, hspare2, hnotices, fun t => ?track, ?inputsSpare,
      fun input t e x hinput => ?inputs, driftedWord_carries s, fun link t n hlink => ?links, hambient, hspare17,
      hslots, haxles, hvehicles, hspare18, hfull, activeLine_carries _ _ _ _, hrecords, ?unacknowledged,
      fieldAt_carries s.alarms.next (lo := 0) (hi := 31) (by decide) (by decide), hgeneration, hactive, hspare22,
      hpending⟩
    case track =>
      cases t
      · exact statusTrack_carries (s.atTime now) .t1
      · exact statusTrack_carries (s.atTime now) .t2
    case inputsSpare =>
      exact Carries.or_left (carries_outside _ (by decide) (by decide)) (carries_outside _ (by decide) (by decide))
    case inputs =>
      obtain ⟨hheld, hsuspect⟩ := inputsWord_carries (fun i => (s.inputSensor i).held)
        (fun i => (s.inputSensor i).suspect) input
      rw [State.inputSensor, hinput] at hheld hsuspect
      exact ⟨hheld, hsuspect⟩
    case links =>
      have hword : ((s.atTime now).linkScanner link).statusWord = ((s.atTime now).scanner t n).statusWord := by
        rw [State.linkScanner, hlink]
      have hcarries := scannerWord_carries ((s.atTime now).scanner t n)
      rw [← hword, ← statusWords_link (s.atTime now) p link, shutterView_code] at hcarries
      exact hcarries
    case unacknowledged =>
      rw [filter_unacknowledged]
      exact hopen
  case list =>
    intro entry
    have hentry (x : HeldPass) : x.listWords p = (entry x).map fun n => BitVec.ofNat 32 n := by
      have done : x.fullyReleased = true ↔ x.state = .closed ∧
          (x.retention.a = true → x.release.a = true) ∧ (x.retention.b = true → x.release.b = true) :=
        HeldPass.fullyReleased_iff.trans (and_congr_right fun _ =>
          ⟨fun all => ⟨all .a, all .b⟩, fun both q => by cases q; exacts [both.1, both.2]⟩)
      have track : trackNumber x.track = match x.track with
          | .t1 => 1
          | .t2 => 2 := by cases x.track <;> rfl
      have direction : x.direction.code = match x.direction with
          | .pq => 0
          | .qp => 1 := by cases x.direction <;> rfl
      have state : x.state.listCode = match x.state with
          | .opened => 0
          | .closed => 1
          | .closing => 2 := by cases x.state <;> rfl
      rw [listWords_eq, if_congr done rfl rfl, track, direction, state]
      rfl
    rw [exec_listPasses h, List.map_flatMap]
    simp only [hentry]
  case areas =>
    exact ⟨fun h => congrArg Host.Outcome.next
        (areaRead_replies State.stagedWords hlen harea h1 h64 (by decide) h),
      fun h => congrArg Host.Outcome.next (areaRead_replies State.activeWords hlen harea h1 h64 (by decide) h)⟩

end Sys2Proof.Machine
end

section
/-! PROOFS. Raising an alarm (R144, R145, R147 to R151): the routes it takes, the record it becomes, the lines it
drives, and its notice. -/

namespace Sys2Proof.Machine

open Sys2Proof

-- One proof after another: elaborated side by side they ask for more threads than check.sh allows.
set_option Elab.async false

/-! ### Routing (R147, R148) -/

theorem compares_iff (field : Option Nat) (value : Nat) :
    compares field value = true ↔ ∀ k, field = some k → k = value := by
  cases field <;> simp [compares]

theorem matchesAlarm_iff (e : RoutingEntry) (a : Alarm) : e.matchesAlarm a = true ↔ e.enabled = true ∧
    e.minLevel ≤ a.level.code ∧ (∀ k, e.kind = some k → k = a.kind.code) ∧
    (∀ k, e.track = some k → k = trackNumber a.track) ∧ (∀ k, e.side = some k → k = a.side.code) ∧
    (∀ k, e.direction = some k → k = a.direction.code) := by
  simp only [RoutingEntry.matchesAlarm, Bool.and_eq_true, decide_eq_true_eq, compares_iff, and_assoc]

/-- R148: the default line is a route where no entry of the table matches. -/
theorem mem_routes (site : SiteArea) (a : Alarm) (target : Fin 8 × LineMode) : target ∈ site.routes a ↔
    (∃ x, (x ∈ site.routingTable ∧ x.matchesAlarm a = true) ∧ target = (x.line, x.mode)) ∨
      ((∀ x, ¬(x ∈ site.routingTable ∧ x.matchesAlarm a = true)) ∧ site.defaultLine = some target) := by
  have hits (x : RoutingEntry) : x ∈ site.routingTable.filter (fun e => e.matchesAlarm a) ↔
      x ∈ site.routingTable ∧ x.matchesAlarm a = true := List.mem_filter
  simp only [← hits, SiteArea.routes, ← List.eq_nil_iff_forall_not_mem]
  cases site.routingTable.filter fun e => e.matchesAlarm a with
  | nil => cases site.defaultLine <;> simp [eq_comm]
  | cons x rest => simp [List.mem_map, eq_comm]

theorem reached_iff {targets : List (Fin 8 × LineMode)} {i : Fin 8} {m : LineMode} :
    reached targets i m = true ↔ (i, m) ∈ targets := by
  simp [reached]

/-- A line is reached where it is reached in one of the three modes. -/
theorem reached_any {targets : List (Fin 8 × LineMode)} {i : Fin 8} :
    (∃ x ∈ targets, x.1 = i) ↔ (i, .latch) ∈ targets ∨ (i, .pulse) ∈ targets ∨ (i, .follow) ∈ targets := by
  constructor
  · rintro ⟨⟨j, m⟩, hx, rfl⟩
    cases m <;> simp [hx]
  · rintro (h | h | h) <;> exact ⟨_, h, rfl⟩

/-! ### Active lines (R150) -/

theorem active_iff (u : AlarmUnit) (i : Fin 8) : u.active i = true ↔
    (∃ r ∈ u.list, r.acknowledged = none ∧ i ∈ r.latched) ∨ (u.line i).followers ≠ [] ∨
      ∃ timer, (u.line i).phase = .pulse timer := by
  have latched : u.list.any (fun r => r.holds i) = true ↔
      ∃ r ∈ u.list, r.acknowledged = none ∧ i ∈ r.latched := by
    simp [AlarmRecord.holds]
  have followed : (!(u.line i).followers.isEmpty) = true ↔ (u.line i).followers ≠ [] := by
    simp
  rw [AlarmUnit.active, Bool.or_eq_true, Bool.or_eq_true, latched, followed, or_assoc]
  cases (u.line i).phase <;> simp

/-! ### Driving one line (R149, R151) -/

theorem askPulse_followers (l : OutputLine) (now : SiteTime) (n : Nat) :
    (l.askPulse now n).followers = l.followers := by
  unfold OutputLine.askPulse
  split <;> rfl

theorem askPulse_phase (l : OutputLine) (now : SiteTime) (n : Nat) :
    (l.askPulse now n).phase = if l.phase = .idle then .pulse ⟨now, n⟩ else l.phase := by
  cases h : l.phase <;> simp [OutputLine.askPulse, h]

theorem askPulse_pendingPulse (l : OutputLine) (now : SiteTime) (n : Nat) :
    (l.askPulse now n).pendingPulse = true ↔ l.pendingPulse = true ∨ l.phase ≠ .idle := by
  cases h : l.phase <;> simp [OutputLine.askPulse, h]

/-- R149: whether an alarm that reaches a line in some modes asks a pulse of it: one that the list refused asks it
in every mode. -/
def asksPulse (latch pulse follow stored passOpen : Bool) : Bool :=
  if stored then pulse || (follow && !passOpen) else latch || pulse || follow

section Drive

variable (l : OutputLine) (latch pulse follow stored passOpen : Bool) (h : Holder) (now : SiteTime) (n : Nat)

/-- R149: a line is driven by a pulse where one is asked, then by its holder. -/
theorem drive_eq : l.drive latch pulse follow (if stored = true then some h else none) passOpen now n =
    let pulsed := if asksPulse latch pulse follow stored passOpen = true then l.askPulse now n else l
    if (stored && follow && passOpen) = true then pulsed.addFollower h else pulsed := by
  cases stored <;> rfl

theorem drive_addsFollower :
    (l.drive latch pulse follow (if stored = true then some h else none) passOpen now n).followers =
      if stored = true ∧ follow = true ∧ passOpen = true ∧ h ∉ l.followers then l.followers ++ [h]
      else l.followers := by
  have hadded (x : OutputLine) : (x.addFollower h).followers =
      if h ∉ x.followers then x.followers ++ [h] else x.followers := by
    by_cases hx : h ∈ x.followers <;> simp [OutputLine.addFollower, hx]
  rw [drive_eq]
  simp only [apply_ite OutputLine.followers, hadded, askPulse_followers, ite_self, Bool.and_eq_true, ite_and]

theorem drive_phase :
    (l.drive latch pulse follow (if stored = true then some h else none) passOpen now n).phase =
      if asksPulse latch pulse follow stored passOpen = true ∧ l.phase = .idle then .pulse ⟨now, n⟩
      else l.phase := by
  have hadded (x : OutputLine) : (x.addFollower h).phase = x.phase := by
    unfold OutputLine.addFollower
    split <;> rfl
  rw [drive_eq]
  simp only [apply_ite OutputLine.phase, hadded, ite_self, askPulse_phase, ite_and]

theorem drive_pendingPulse :
    (l.drive latch pulse follow (if stored = true then some h else none) passOpen now n).pendingPulse = true ↔
      l.pendingPulse = true ∨ (asksPulse latch pulse follow stored passOpen = true ∧ l.phase ≠ .idle) := by
  have hadded (x : OutputLine) : (x.addFollower h).pendingPulse = x.pendingPulse := by
    unfold OutputLine.addFollower
    split <;> rfl
  rw [drive_eq]
  by_cases hasks : asksPulse latch pulse follow stored passOpen = true
  · simp only [hasks, if_true, apply_ite OutputLine.pendingPulse, hadded, ite_self, askPulse_pendingPulse, true_and]
  · simp [hasks, apply_ite OutputLine.pendingPulse, hadded]

end Drive

/-! ### Driving every line (R149) -/

theorem setLine_line (u : AlarmUnit) (i j : Fin 8) (l : OutputLine) :
    (u.setLine i l).line j = if j = i then l else u.line j := by
  simp only [AlarmUnit.setLine, AlarmUnit.line, Vector.get_eq_getElem, Vector.getElem_set, Fin.ext_iff, eq_comm]

/-- A line of a run over lines that changes each of them by its own is changed once. -/
theorem foldl_setLine_line (f : Fin 8 → OutputLine → OutputLine) {is : List (Fin 8)} (h : is.Nodup) (u : AlarmUnit)
    (j : Fin 8) : (is.foldl (fun u i => u.setLine i (f i (u.line i))) u).line j =
      if j ∈ is then f j (u.line j) else u.line j := by
  induction is generalizing u with
  | nil => rfl
  | cons i rest ih =>
    obtain ⟨hi, hrest⟩ := List.nodup_cons.mp h
    rw [List.foldl_cons, ih hrest, setLine_line]
    by_cases hj : j = i
    · subst hj
      simp [hi]
    · simp [hj]

theorem driveLines_line (u : AlarmUnit) (site : SiteArea) (now : SiteTime) (targets : List (Fin 8 × LineMode))
    (holder : Option Holder) (passOpen : Bool) (j : Fin 8) :
    (u.driveLines site now targets holder passOpen).line j =
      (u.line j).drive (reached targets j .latch) (reached targets j .pulse) (reached targets j .follow) holder
        passOpen now (site.pulseTime j) := by
  have hline := foldl_setLine_line (fun i l => l.drive (reached targets i .latch) (reached targets i .pulse)
    (reached targets i .follow) holder passOpen now (site.pulseTime i)) (by decide : eight.Nodup) u j
  rwa [if_pos (mem_eight j)] at hline

/-! ### The record (R144, R145) -/

theorem listExhausted_iff (l : List AlarmRecord) :
    listExhausted l = true ↔ 256 ≤ l.length ∧ ∀ r ∈ l, r.acknowledged = none := by
  rw [listExhausted, Bool.and_eq_true, decide_eq_true_eq, List.all_eq_true]
  simp only [alarmCapacity, Option.isNone_iff_eq_none]

/-- R145: a full list loses its first acknowledged record. -/
theorem offer_full {before after : List AlarmRecord} {x : AlarmRecord} (r : AlarmRecord)
    (hfull : 256 ≤ (before ++ x :: after).length) (hbefore : ∀ y ∈ before, y.acknowledged = none)
    (hx : x.acknowledged ≠ none) : (offer (before ++ x :: after) r).1 = before ++ after ++ [r] := by
  have hnone : before.findIdx? (fun y => y.acknowledged.isSome) = none := by
    simpa [List.findIdx?_eq_none_iff] using hbefore
  have hindex : (before ++ x :: after).findIdx? (fun y => y.acknowledged.isSome) = some before.length := by
    rw [List.findIdx?_append, hnone, List.findIdx?_cons, if_pos (Option.isSome_iff_ne_none.mpr hx)]
    simp
  rw [offer, if_neg (show ¬_ < alarmCapacity from Nat.not_lt.mpr hfull), hindex]
  simp [List.eraseIdx_append_of_length_le]

/-- R144, R145: whether an alarm raised now is stored: a number is left, and the list can take it. -/
def State.stores (s : State) : Bool := decide (s.alarms.next < 4294967295) && !listExhausted s.alarms.list

theorem stores_iff (s : State) : s.stores = true ↔ s.alarms.next < 4294967295 ∧
    (s.alarms.list.length < 256 ∨ ∃ r ∈ s.alarms.list, r.acknowledged ≠ none) := by
  rw [State.stores, Bool.and_eq_true, decide_eq_true_eq, Bool.not_eq_true', ← Bool.not_eq_true, listExhausted_iff,
    not_and_or, not_le]
  push Not
  rfl

theorem mem_recordOf_latched (s : State) (a : Alarm) (i : Fin 8) :
    i ∈ (s.recordOf a).latched ↔ (i, .latch) ∈ s.siteArea.routes a := by
  rw [State.recordOf, List.mem_filter, reached_iff]
  exact and_iff_right (mem_eight i)

theorem raise_list_refused {s : State} (a : Alarm) (h : s.stores = false) :
    (s.raise a).alarms.list = s.alarms.list := by
  rcases raise_alarms s a with ⟨-, hlist, -⟩ | ⟨hnext, hlist, -⟩
  · exact hlist
  · have hstored : (offer s.alarms.list (s.recordOf a)).2 = false := by
      rw [offer_stored]
      simpa [State.stores, hnext] using h
    rcases offer_cases s.alarms.list (s.recordOf a) with ⟨-, e⟩ | ⟨-, _, _, _, -, -, -, e⟩ | ⟨-, -, e⟩
    · rw [e] at hstored
      nomatch hstored
    · rw [e] at hstored
      nomatch hstored
    · rw [hlist, e]

theorem raise_next (s : State) (a : Alarm) : (s.raise a).alarms.next =
    if s.alarms.next < 4294967295 then s.alarms.next + 1 else s.alarms.next := by
  rcases raise_alarms s a with ⟨hnext, -, h⟩ | ⟨hnext, -, h⟩ <;> simp [hnext, h]

theorem raise_openPass (s : State) (a : Alarm) : (s.raise a).alarms.openPass = s.alarms.openPass := by
  obtain ⟨x, targets, holder, hopen, -, hraise⟩ := raise_driven s a
  obtain ⟨lines, hlines⟩ := driveLines_only_lines x s.siteArea s.siteTime targets holder
    (decide (s.alarms.openPass.get a.track = some a.pass))
  rw [hraise, hlines]
  exact hopen

/-! ### The lines and the notice (R149, R165) -/

/-- R144, R149: what raising an alarm leaves: driven lines, the count in its pass's header, and its notice. -/
theorem raise_eq_driven (s : State) (a : Alarm) : ∃ x : AlarmUnit, x.lines = s.alarms.lines ∧ s.raise a = { s with
    alarms := x.driveLines s.siteArea s.siteTime (s.siteArea.routes a)
      (if s.stores = true then some ⟨a.track, a.pass, s.alarms.next⟩ else none)
      (decide (s.alarms.openPass.get a.track = some a.pass))
    store := { s.store with passes := s.store.passes.map fun (p : HeldPass) =>
      if p.number = a.pass ∧ p.track = a.track then { p with alarmCount := p.alarmCount + 1 } else p }
    ports := (s.notify (.alarmRaised (if s.alarms.next < 4294967295 then some s.alarms.next else none) a.kind a.level
      (!s.stores))).ports } := by
  by_cases hnext : s.alarms.next < 4294967295
  · have hnumber : s.alarms.takeNumber = some s.alarms.next := if_pos hnext
    have hstores : s.stores = !listExhausted s.alarms.list := by simp [State.stores, hnext]
    refine ⟨{ s.alarms with
      list := (offer s.alarms.list (s.recordOf a)).1
      next := s.alarms.next + 1
      listFull := s.alarms.listFull || !(offer s.alarms.list (s.recordOf a)).2 }, rfl, ?_⟩
    rw [hstores, ← offer_stored s.alarms.list (s.recordOf a), if_pos hnext, State.raise]
    simp only [hnumber]
    rfl
  · have hnumber : s.alarms.takeNumber = none := if_neg hnext
    have hstores : s.stores = false := by simp [State.stores, hnext]
    refine ⟨{ s.alarms with listFull := s.alarms.listFull || listExhausted s.alarms.list }, rfl, ?_⟩
    rw [hstores, if_neg hnext, State.raise]
    simp only [hnumber]
    rfl

/-- R149: every line is driven by the alarm as the list took it. -/
theorem raise_line (s : State) (a : Alarm) (i : Fin 8) :
    let targets := s.siteArea.routes a
    (s.raise a).alarms.line i = (s.alarms.line i).drive (reached targets i .latch) (reached targets i .pulse)
      (reached targets i .follow) (if s.stores = true then some ⟨a.track, a.pass, s.alarms.next⟩ else none)
      (decide (s.alarms.openPass.get a.track = some a.pass)) s.siteTime (s.siteArea.pulseTime i) := by
  obtain ⟨x, hlines, hraise⟩ := raise_eq_driven s a
  have hline : x.line i = s.alarms.line i := congrArg (fun lines => lines.get i) hlines
  rw [hraise, ← hline]
  exact driveLines_line x _ _ _ _ _ i

/-- R149: the pulse that an alarm asks of a line. -/
theorem asksPulse_iff (s : State) (a : Alarm) (i : Fin 8) :
    let routes := s.siteArea.routes a
    let passOpen := s.alarms.openPass.get a.track = some a.pass
    asksPulse (reached routes i .latch) (reached routes i .pulse) (reached routes i .follow) s.stores
        (decide passOpen) = true ↔
      (s.stores = true ∧ ((i, .pulse) ∈ routes ∨ ((i, .follow) ∈ routes ∧ ¬passOpen))) ∨
        (¬s.stores = true ∧ ∃ x ∈ routes, x.1 = i) := by
  intro routes passOpen
  rw [reached_any]
  simp only [← reached_iff]
  cases s.stores <;> simp [asksPulse, or_assoc]

/-- Settles O42: the routes, the active lines, and the alarm as the list, the lines and the notice take it. -/
theorem raisedAlarmIsStoredRoutedAndAnnounced : Obligations.RaisedAlarmIsStoredRoutedAndAnnounced := by
  refine ⟨fun site a target => ?_, active_iff, fun s a => ?_⟩
  · intro matched
    rw [mem_routes]
    simp only [matchesAlarm_iff]
    rfl
  intro u numbered stored routes passOpen holder
  have hstored : stored ↔ s.stores = true := (stores_iff s).symm
  have hdecide : decide stored = s.stores := by rw [Bool.eq_iff_iff, decide_eq_true_eq, hstored]
  refine ⟨⟨s.recordOf a, rfl, rfl, rfl, rfl, rfl, mem_recordOf_latched s a,
    fun hnext hroom => (raise_joins a hroom hnext).1, ?full⟩, ?refused, raise_next s a, ?listFull,
    raise_openPass s a, fun i => ?line, ?frame⟩
  case full =>
    intro hnext hfull before x after hlist hbefore hx
    rcases raise_alarms s a with ⟨hlast, -, -⟩ | ⟨-, hoffer, -⟩
    · exact absurd hnext hlast
    · rw [hlist] at hoffer hfull
      exact hoffer.trans (offer_full _ hfull hbefore hx)
  case refused =>
    exact fun h => raise_list_refused a (Bool.eq_false_iff.mpr fun hs => h (hstored.mpr hs))
  case listFull =>
    rw [raise_listFull, Bool.or_eq_true, listExhausted_iff]
  case line =>
    intro before pulsed
    have hline : u.alarms.lines.get i = _ := raise_line s a i
    have hpulsed : _ = true ↔ pulsed := (asksPulse_iff s a i).trans
      (or_congr (and_congr_left' hstored.symm) (and_congr_left' (not_congr hstored.symm)))
    rw [hline, drive_addsFollower, drive_phase, drive_pendingPulse]
    exact ⟨if_congr (and_congr hstored.symm (and_congr reached_iff (and_congr_left' decide_eq_true_iff))) rfl rfl,
      if_congr (and_congr_left' hpulsed) rfl rfl, or_congr_right (and_congr_left' hpulsed)⟩
  case frame =>
    obtain ⟨x, -, hraise⟩ := raise_eq_driven s a
    rw [hdecide, show u = _ from hraise]

end Sys2Proof.Machine
end

section
/-! PROOFS. Every command but FULL_RESET keeps the alarm list in order and its unacknowledged alarms listed (R143 to
R145, R153, R155, R158). -/

namespace Sys2Proof.Machine

open Sys2Proof

-- One proof after another: elaborated side by side they ask for more threads than check.sh allows.
set_option Elab.async false

/-! ### What an alarm unit keeps of another's list -/

/-- Of two states of the alarm unit, the second keeps the list of the first in order, and each of its
unacknowledged records but for the acknowledgement. -/
structure AlarmUnit.Keeps (x y : AlarmUnit) : Prop where
  ordered : x.listOk = true → y.listOk = true
  listed : ∀ r ∈ x.list, r.acknowledged = none → ∃ who, { r with acknowledged := who } ∈ y.list

section Keeps

variable {x y z : AlarmUnit}

/-- A run of moves raises alarms at most, which keeps the unacknowledged records as they are. -/
theorem Moves.keepsAlarms {s u : State} (h : Moves s u) : s.alarms.Keeps u.alarms where
  ordered := h.keeps (P := fun v => v.alarms.listOk = true) fun _ _ hm hv => hm.listOk hv
  listed r hr hnone :=
    ⟨none, hnone ▸ h.keeps (P := fun v => r ∈ v.alarms.list) (fun _ _ hm hv => hm.mem_list hv hnone) hr⟩

theorem AlarmUnit.Keeps.refl (x : AlarmUnit) : x.Keeps x := ⟨id, fun _ hr hnone => ⟨none, hnone ▸ hr⟩⟩

/-- What follows may change the alarm unit but for its list and its next number. -/
theorem AlarmUnit.Keeps.then_same (h : x.Keeps y) (hlist : z.list = y.list) (hnext : z.next = y.next) :
    x.Keeps z where
  ordered hx := by
    have hy := h.ordered hx
    rw [AlarmUnit.listOk_iff] at hy ⊢
    rwa [hlist, hnext]
  listed := hlist ▸ h.listed

/-- R155: a removal of acknowledged records. -/
theorem AlarmUnit.Keeps.of_filter (x : AlarmUnit) :
    x.Keeps { x with list := x.list.filter fun r => r.acknowledged.isNone } where
  ordered hx := by
    rw [AlarmUnit.listOk_iff] at hx ⊢
    obtain ⟨hlen, hsorted, hbelow, hleast, hgreatest⟩ := hx
    have hsub : (x.list.filter fun r => r.acknowledged.isNone).Sublist x.list := List.filter_sublist
    exact ⟨hsub.length_le.trans hlen, hsorted.sublist (hsub.map _), fun r hr => hbelow r (hsub.subset hr), hleast,
      hgreatest⟩
  listed r hr hnone := ⟨none, List.mem_filter.mpr ⟨hnone ▸ hr, rfl⟩⟩

/-- R153: an acknowledgement changes nothing of a record but who acknowledged it. -/
theorem mem_acknowledge {l : List AlarmRecord} {r : AlarmRecord} (hr : r ∈ l) (hnone : r.acknowledged = none)
    (n : Nat) (p : Port) : ∃ who, { r with acknowledged := who } ∈ acknowledge l n p := by
  have hmapped := List.mem_map_of_mem (f := fun r => if r.number = n then { r with acknowledged := some p } else r) hr
  by_cases hn : r.number = n
  · exact ⟨some p, by rwa [if_pos hn] at hmapped⟩
  · exact ⟨none, hnone ▸ by rwa [if_neg hn] at hmapped⟩

theorem AlarmUnit.Keeps.of_acknowledge (x : AlarmUnit) (n : Nat) (p : Port) :
    x.Keeps { x with list := acknowledge x.list n p, listFull := false } where
  ordered hx := by
    rw [AlarmUnit.listOk_iff] at hx ⊢
    obtain ⟨hlen, hsorted, hbelow, hleast, hgreatest⟩ := hx
    refine ⟨(List.length_map _).trans_le hlen, ?_, fun r hr => ?_, hleast, hgreatest⟩
    · rwa [acknowledge_numbers]
    · have hnumber : r.number ∈ x.list.map fun r => r.number := by
        rw [← acknowledge_numbers x.list n p]
        exact List.mem_map_of_mem hr
      obtain ⟨r', hr', heq⟩ := List.mem_map.mp hnumber
      exact heq ▸ hbelow r' hr'
  listed _ hr hnone := mem_acknowledge hr hnone n p

end Keeps

/-! ### The operations that stand in a command's own meaning -/

theorem partnerHeld_moves (s : State) (t : TrackId) (e : SectionEnd) (x : Role) : Moves s (s.partnerHeld t e x) := by
  unfold State.partnerHeld
  split
  · exact .refl s
  · split
    · exact endWait_moves s t e _ _
    · exact .refl s

theorem abortTrack_moves (s : State) (t : TrackId) : Moves s (s.abortTrack t) :=
  (((abandonPass_moves s t _).trans (.of_frame (leaveIdle_frame _ t) (by simp))).trans
    (.of_frame (drain_frame _ t _) (by simp))).trans (promoteSiteIfReady_moves _)

theorem takeOut_moves (s : State) (t : TrackId) : Moves s (s.takeOut t) :=
  ((((((abandonPass_moves s t _).trans (.of_frame (leaveIdle_frame _ t) (by simp))).trans
    (setSection_moves _ t _)).trans (.of_frame (stopPacer_frame _ t) (by simp))).trans
    (.of_frame (closeShutters_frame _ t) (by simp))).trans (promoteSiteIfReady_moves _)).trans
    (promoteTrackIfReady_moves _ t)

theorem closeForReset_moves (s : State) : Moves s s.closeForReset := by
  obtain ⟨n, o, horder⟩ := closeForReset_order s
  rw [horder]
  exact ((withChoice_moves s n).trans (abandonPass_moves _ o .reset)).trans (abandonPass_moves _ (otherTrack o) .reset)

/-- R158: of the alarm unit a warm reset leaves the list and the next number of its closes. -/
theorem warmReset_alarms (s : State) : s.warmReset.alarms = s.closeForReset.alarms.warmReset :=
  Eq.trans (promoteReady_frame s.beforeReady .alarms (by simp)) (beforeReady_alarms s)

/-! ### The commands -/

/-- The outcome is a next state whose alarm unit keeps the alarm list. -/
def KeepsAlarmsIn (s : State) (r : Host.Outcome State Fault Refusal) : Prop :=
  ∃ u, r = .next u ∧ s.alarms.Keeps u.alarms

section Commands

variable {s u : State} {now : SiteTime}

theorem KeepsAlarmsIn.next (h : (s.atTime now).alarms.Keeps u.alarms) : KeepsAlarmsIn s (.next u) := ⟨u, rfl, h⟩

theorem KeepsAlarmsIn.of_moves (h : Moves (s.atTime now) u) : KeepsAlarmsIn s (.next u) := .next h.keepsAlarms

theorem KeepsAlarmsIn.same (s : State) (now : SiteTime) : KeepsAlarmsIn s (.next (s.atTime now)) := .of_moves (.refl _)

/-- A command whose frame spares the alarm unit. -/
theorem Does.keepsAlarms {F : List Part} {r : Host.Outcome State Fault Refusal} (h : Does F now s r)
    (halarms : Part.alarms ∉ F := by simp) : KeepsAlarmsIn s r := by
  obtain ⟨u, hu, -, frame⟩ := h
  have hsame : u.alarms = s.alarms := frame .alarms (by simp [halarms])
  exact ⟨u, hu, hsame ▸ .refl _⟩

/-- A command row keeps what its command keeps: the reply is of the port alone. -/
theorem transact_keepsAlarms {p : Port} {bytes : List Byte} {row : Byte → List Byte → Bool}
    {run : List Byte → State → Executed} (h : ∀ args, s.alarms.Keeps (run args s).1.alarms) :
    s.alarms.Keeps (s.transact p bytes row run).alarms := by
  rcases transact_cases s p bytes row run with heq | ⟨args, heq⟩ <;> rw [heq]
  · exact .refl _
  · exact h args

theorem execSensorRawChange_keepsAlarms (now : SiteTime) (input : Fin 8) (level : Bool) (s : State) :
    KeepsAlarmsIn s (execSensorRawChange now input level s) := by
  unfold execSensorRawChange
  dsimp only
  split
  · exact .same s now
  · split
    · exact .of_moves (orAsBefore_moves _ _ _ fun u => takeRawChange_moves u _ _ _ level)
    · exact .of_moves (.of_frame (setFilter_frame _ _ _ _ _) (by simp))

theorem execDebounceConfirm_keepsAlarms (now : SiteTime) (input : Fin 8) (s : State) :
    KeepsAlarmsIn s (execDebounceConfirm now input s) :=
  .of_moves (orAsBefore_moves _ _ _ fun u => confirmDue_moves u _ _ _)

theorem execHeldTimerExpiry_keepsAlarms (now : SiteTime) (input : Fin 8) (s : State) :
    KeepsAlarmsIn s (execHeldTimerExpiry now input s) := by
  unfold execHeldTimerExpiry
  dsimp only
  split
  · exact .of_moves ((Moves.of_frame (setSensor_frame _ _ _ _ _) (by simp)).trans
      ((notify_moves _ _).trans (partnerHeld_moves _ _ _ _)))
  · exact .same s now

theorem execPairTimeoutExpiry_keepsAlarms (now : SiteTime) (t : TrackId) (e : SectionEnd) (s : State) :
    KeepsAlarmsIn s (execPairTimeoutExpiry now t e s) := by
  unfold execPairTimeoutExpiry
  dsimp only
  split
  · exact .same s now
  · split
    · exact .of_moves (endWait_moves _ t e _ _)
    · exact .same s now

theorem execClearTimerExpiry_keepsAlarms (now : SiteTime) (t : TrackId) (s : State) :
    KeepsAlarmsIn s (execClearTimerExpiry now t s) := by
  unfold execClearTimerExpiry
  dsimp only
  split
  · exact .of_moves ((closePass_moves _ t _).trans (enterIdle_moves _ t _))
  · exact .same s now

theorem execPulseTimerExpiry_keepsAlarms (now : SiteTime) (line : Fin 8) (s : State) :
    KeepsAlarmsIn s (execPulseTimerExpiry now line s) := by
  unfold execPulseTimerExpiry
  dsimp only
  split
  · split
    · exact .of_moves (withAlarms_moves _ _ rfl rfl)
    · exact .same s now
  · exact .same s now
  · exact .same s now

theorem execRecoveryTimerExpiry_keepsAlarms (now : SiteTime) (line : Fin 8) (s : State) :
    KeepsAlarmsIn s (execRecoveryTimerExpiry now line s) := by
  unfold execRecoveryTimerExpiry
  dsimp only
  split
  · split
    · exact .of_moves (withAlarms_moves _ _ rfl rfl)
    · exact .same s now
  · exact .same s now
  · exact .same s now

theorem execAckAlarm_keepsAlarms (now : SiteTime) (p : Port) (bytes : List Byte) (s : State) :
    KeepsAlarmsIn s (execAckAlarm now p bytes s) := by
  refine .next (now := now) (transact_keepsAlarms fun args => ?_)
  refine checked_state (P := fun u => s.alarms.Keeps u.alarms) (.refl _) ?_
  unfold State.ackAlarm
  split
  · exact .refl _
  · split
    · exact .refl _
    · exact .of_acknowledge s.alarms _ p

/-- R41, R42: a track command that makes moves on any track. -/
theorem runTrackControl_moves {args : List Byte} {run : TrackId → Executed} (h : ∀ t, Moves s (run t).1) :
    Moves s (s.runTrackControl args run).1 := by
  unfold State.runTrackControl
  split
  · exact checked_state (P := Moves s) (.refl s) (.refl s)
  · exact h _

theorem execTrackAbort_keepsAlarms (now : SiteTime) (p : Port) (bytes : List Byte) (s : State) :
    KeepsAlarmsIn s (execTrackAbort now p bytes s) := by
  refine .of_moves (now := now) (transact_moves fun args => runTrackControl_moves fun t => ?_)
  unfold State.runTrackAbort
  split
  · exact abortTrack_moves _ t
  · exact .refl _

theorem execTrackOut_keepsAlarms (now : SiteTime) (p : Port) (bytes : List Byte) (s : State) :
    KeepsAlarmsIn s (execTrackOut now p bytes s) := by
  refine .of_moves (now := now) (transact_moves fun args => runTrackControl_moves fun t => ?_)
  unfold State.runTrackOut
  split
  case h_1 => exact .refl _
  case h_2 => exact .refl _
  all_goals exact takeOut_moves _ t

theorem execTrackIn_keepsAlarms (now : SiteTime) (p : Port) (bytes : List Byte) (s : State) :
    KeepsAlarmsIn s (execTrackIn now p bytes s) := by
  refine .of_moves (now := now) (transact_moves fun args => runTrackControl_moves fun t => ?_)
  unfold State.runTrackIn
  split
  · exact enterIdle_moves _ t _
  · exact .refl _

/-- R155, R174: of a PURGE only the target ACKED changes the list. -/
theorem runPurge_keepsAlarms (s : State) (p : Port) (args : List Byte) :
    s.alarms.Keeps (s.runPurge p args).1.alarms := by
  unfold State.runPurge
  split
  · exact checked_state (P := fun u => s.alarms.Keeps u.alarms) (.refl _) (.refl _)
  · next x _ =>
    have hpurged := purge_alarms s p x
    rw [answer, hpurged]
    split
    · exact .of_filter s.alarms
    · exact .refl s.alarms

theorem execReset_keepsAlarms (now : SiteTime) (p : Port) (bytes : List Byte) (s : State) :
    KeepsAlarmsIn s (execReset now p bytes s) := by
  refine .next (now := now) (transact_keepsAlarms fun args => ?_)
  refine checked_state (P := fun u => s.alarms.Keeps u.alarms) (.refl _) ?_
  rw [answer, warmReset_alarms]
  exact (closeForReset_moves (s.atTime now)).keepsAlarms.then_same rfl rfl

theorem exec_keepsAlarms {c : Instr} (hc : c ≠ .fullReset) (s : State) : KeepsAlarmsIn s (exec c s) := by
  cases c with
  | fullReset => exact absurd rfl hc
  | sensorRawChange => exact execSensorRawChange_keepsAlarms _ _ _ s
  | debounceConfirm => exact execDebounceConfirm_keepsAlarms _ _ s
  | heldTimerExpiry => exact execHeldTimerExpiry_keepsAlarms _ _ s
  | pairTimeoutExpiry => exact execPairTimeoutExpiry_keepsAlarms _ _ _ s
  | approachInputChange => exact (approachInputChange_does _ _ _ _ s).keepsAlarms
  | approachEdge => exact (approachEdge_does _ _ _ s).keepsAlarms
  | approachTimerExpiry => exact (approachTimerExpiry_does _ _ s).keepsAlarms
  | closeDelayExpiry => exact (closeDelayExpiry_does _ _ s).keepsAlarms
  | holdTimerExpiry => exact (holdTimerExpiry_does _ _ s).keepsAlarms
  | clearTimerExpiry => exact execClearTimerExpiry_keepsAlarms _ _ s
  | quietTimerExpiry => exact (quietTimerExpiry_does _ _ s).keepsAlarms
  | paceTick => exact (paceTick_does _ _ s).keepsAlarms
  | zeroTimerExpiry => exact (zeroTimerExpiry_does _ _ s).keepsAlarms
  | conversionEnd =>
    cases h : s.strain.scan with
    | none => exact (conversionEnd_does _ _ s .t1 (by simp [h])).keepsAlarms
    | some x => exact (conversionEnd_does _ _ s x.track (by simp [h])).keepsAlarms
  | linkMessageDiscarded => exact (linkMessageDiscarded_does _ _ s).keepsAlarms
  | scannerStatus => exact (scannerStatus_does _ _ _ _ s).keepsAlarms
  | scannerLine => exact (scannerLine_does _ _ _ _ s).keepsAlarms
  | silenceTimerExpiry => exact (silenceTimerExpiry_does _ _ s).keepsAlarms
  | openingTimerExpiry => exact (openingTimerExpiry_does _ _ s).keepsAlarms
  | lineTimerExpiry => exact (lineTimerExpiry_does _ _ s).keepsAlarms
  | spacingLimitPassed => exact (spacingLimitPassed_does _ _ s).keepsAlarms
  | pulseTimerExpiry => exact execPulseTimerExpiry_keepsAlarms _ _ s
  | recoveryTimerExpiry => exact execRecoveryTimerExpiry_keepsAlarms _ _ s
  | stationTimeAdvance => exact (stationTimeAdvance_does _ s).keepsAlarms
  | selectAssert => exact (selectAssert_does _ _ s).keepsAlarms
  | selectDeassert => exact (selectDeassert_does _ _ s).keepsAlarms
  | unknownCommand => exact (unknownCommand_does _ _ _ s).keepsAlarms
  | status => exact (status_does _ _ _ s).keepsAlarms
  | attach => exact (attach_does _ _ _ s).keepsAlarms
  | detach => exact (detach_does _ _ _ s).keepsAlarms
  | listPasses => exact (listPasses_does _ _ _ s).keepsAlarms
  | selectPass => exact (selectPass_does _ _ _ s).keepsAlarms
  | readHeader => exact (readHeader_does _ _ _ s).keepsAlarms
  | readAxles => exact (readAxles_does _ _ _ s).keepsAlarms
  | readVehicles => exact (readVehicles_does _ _ _ s).keepsAlarms
  | releasePass => exact (releasePass_does _ _ _ s).keepsAlarms
  | readNotice => exact (readNotice_does _ _ _ s).keepsAlarms
  | readAlarms => exact (readAlarms_does _ _ _ s).keepsAlarms
  | ackAlarm => exact execAckAlarm_keepsAlarms _ _ _ s
  | stageWrite => exact (stageWrite_does _ _ _ s).keepsAlarms
  | stageRead => exact (stageRead_does _ _ _ s).keepsAlarms
  | activeRead => exact (activeRead_does _ _ _ s).keepsAlarms
  | commit => exact (commit_does _ _ _ s).keepsAlarms
  | abandon => exact (abandon_does _ _ _ s).keepsAlarms
  | trackAbort => exact execTrackAbort_keepsAlarms _ _ _ s
  | trackOut => exact execTrackOut_keepsAlarms _ _ _ s
  | trackIn => exact execTrackIn_keepsAlarms _ _ _ s
  | purgeFaults now => exact .next (now := now) (transact_keepsAlarms fun _ => runPurge_keepsAlarms _ _ _)
  | purgeNotices now => exact .next (now := now) (transact_keepsAlarms fun _ => runPurge_keepsAlarms _ _ _)
  | purgeAcked now => exact .next (now := now) (transact_keepsAlarms fun _ => runPurge_keepsAlarms _ _ _)
  | purgeReleased now => exact .next (now := now) (transact_keepsAlarms fun _ => runPurge_keepsAlarms _ _ _)
  | setTime => exact (setTime_does _ _ _ s).keepsAlarms
  | reset => exact execReset_keepsAlarms _ _ _ s
  | byteShiftedIn => exact (byteShiftedIn_does _ _ _ s).keepsAlarms
  | pacerFirstStep => exact (pacerFirstStep_does _ _ s).keepsAlarms
  | approachInputInactive => exact (approachInputInactive_does _ _ _ s).keepsAlarms

end Commands

/-- R176: the alarm list after a full reset is in order, whatever the state before. -/
theorem fullReset_listOk (s : State) : s.fullReset.alarms.listOk = true := by
  obtain ⟨-, hreset, -⟩ := invariantsHoldAtReset
  exact hreset

/-- Settles O6: an idle step leaves the alarm unit, a full reset empties its list, and every other command keeps it in
order. -/
theorem everyStepKeepsTheAlarmList : Obligations.EveryStepKeepsTheAlarmList := by
  intro s t hs hstep
  unfold step at hstep
  split at hstep
  · obtain rfl := Host.Outcome.next.inj hstep
    exact hs
  · next c rest _ =>
    by_cases hc : c = .fullReset
    · subst hc
      obtain rfl := Host.Outcome.next.inj hstep
      exact fullReset_listOk _
    · obtain ⟨v, hv, kept⟩ := exec_keepsAlarms hc { s with pending := rest }
      obtain rfl := Host.Outcome.next.inj (hv.symm.trans hstep)
      exact kept.ordered hs

/-- Settles O11, from what each command but FULL_RESET keeps of the list. -/
theorem unacknowledgedAlarmStaysListed : Obligations.UnacknowledgedAlarmStaysListed := by
  intro c s t r hc hexec hr hnone
  obtain ⟨v, hv, kept⟩ := exec_keepsAlarms hc s
  obtain rfl := Host.Outcome.next.inj (hv.symm.trans hexec)
  exact kept.listed r hr hnone

end Sys2Proof.Machine
end

section
/-! PROOFS. The timers of an output line (R151), READ ALARMS (R156, R170) and ACK ALARM (R153). -/

namespace Sys2Proof.Machine

open Sys2Proof

-- One proof after another: elaborated side by side they ask for more threads than check.sh allows.
set_option Elab.async false

/-! ### The timers of an output line (R151) -/

section LineTimers

variable {s : State} {now : SiteTime} {line : Fin 8} {r : Running}

theorem exec_pulseTimerExpiry (hphase : (s.alarms.line line).phase = .pulse r)
    (hdue : r.length ≤ interval r.start now) :
    exec (.pulseTimerExpiry now line) s = .next { s with
      siteTime := now
      alarms := s.alarms.setLine line ((s.alarms.line line).pulseEnded now (s.siteArea.pulseTime line)
        (s.siteArea.recoveryTime line)) } := by
  have hphase' : ((s.atTime now).alarms.line line).phase = .pulse r := hphase
  have hdue' : r.due now = true := decide_eq_true hdue
  simp only [exec, execPulseTimerExpiry, hphase', hdue', if_true]
  rfl

theorem exec_recoveryTimerExpiry (hphase : (s.alarms.line line).phase = .recovery r)
    (hdue : r.length ≤ interval r.start now) :
    exec (.recoveryTimerExpiry now line) s = .next { s with
      siteTime := now
      alarms := s.alarms.setLine line ((s.alarms.line line).recovered now (s.siteArea.pulseTime line)) } := by
  have hphase' : ((s.atTime now).alarms.line line).phase = .recovery r := hphase
  have hdue' : r.due now = true := decide_eq_true hdue
  simp only [exec, execRecoveryTimerExpiry, hphase', hdue', if_true]
  rfl

end LineTimers

/-- Settles O43: the pulse's end by its recovery time, the recovery's end by the pending pulse. -/
theorem lineTimersEndPulseAndRecovery : Obligations.LineTimersEndPulseAndRecovery := by
  intro now line r s hdue l withLine after
  have hafter : l.recovered now (s.siteArea.pulseTime line) = after := rfl
  refine ⟨fun hphase hlong => ?lasting, fun hphase hzero => ?atOnce, fun hphase => ?recovered⟩
  case lasting =>
    have hended : l.pulseEnded now (s.siteArea.pulseTime line) (s.siteArea.recoveryTime line) =
        { l with phase := .recovery ⟨now, s.siteArea.recoveryTime line⟩ } := if_neg hlong
    rw [← hended]
    exact exec_pulseTimerExpiry hphase hdue
  case atOnce =>
    have hended : l.pulseEnded now (s.siteArea.pulseTime line) (s.siteArea.recoveryTime line) = after :=
      (if_pos hzero).trans hafter
    rw [← hended]
    exact exec_pulseTimerExpiry hphase hdue
  case recovered =>
    rw [← hafter]
    exact exec_recoveryTimerExpiry hphase hdue

/-! ### READ ALARMS (R156, R170) -/

/-- R170: a starting number of 0 is taken as 1. -/
theorem startNumber_eq_max (start : Nat) : (if start = 0 then 1 else start) = max start 1 := by
  split <;> omega

theorem readAlarms_code (list : List AlarmRecord) (start count : Nat) :
    (readAlarms list start count).status.code =
      if ((list.filter fun r => decide (start ≤ r.number)).take count).length = count then 1 else 2 :=
  apply_ite StatusCode.code _ _ _

theorem runReadAlarms_eq {args : List Byte} (hlen : args.length = 5) (s : State) : s.runReadAlarms args =
    if 1 ≤ bytesNat (args.drop 4) ∧ bytesNat (args.drop 4) ≤ 8 then
      (s, readAlarms s.alarms.list (max (bytesNat (args.take 4)) 1) (bytesNat (args.drop 4)))
    else answer s .badArgument := by
  rw [State.runReadAlarms, argument_last (start := 4) hlen, startNumber_eq_max, checked, if_pos hlen]
  exact if_congr (by rw [Bool.and_eq_true, decide_eq_true_eq, decide_eq_true_eq]) rfl rfl

/-- Settles O54, by whether the count is in its range. -/
theorem readAlarmsReturnsRecordsInOrder : Obligations.ReadAlarmsReturnsRecordsInOrder := by
  intro now p bytes args s hlen h start count got
  refine ⟨fun hleast hgreatest => ?inRange, fun hbad => ?bad⟩
  case inRange =>
    have hexec : exec (.readAlarms now p bytes) s = _ := congrArg Host.Outcome.next (transact_replies (u := s) h
      (by decide) ((runReadAlarms_eq hlen (s.atTime now)).trans (if_pos ⟨hleast, hgreatest⟩)))
    rwa [readAlarms_code] at hexec
  case bad =>
    exact congrArg Host.Outcome.next (transact_replies (u := s) (r := ⟨.badArgument, []⟩) h (by decide)
      ((runReadAlarms_eq hlen _).trans (if_neg (by omega))))

/-! ### ACK ALARM (R153) -/

/-- R145: in a list in order a number finds the record that has it. -/
theorem AlarmUnit.find_number {u : AlarmUnit} (h : u.listOk = true) {r : AlarmRecord} (hr : r ∈ u.list) :
    u.list.find? (fun x => decide (x.number = r.number)) = some r := by
  obtain ⟨-, hsorted, -⟩ := (AlarmUnit.listOk_iff u).mp h
  have hnodup : (u.list.map fun x => x.number).Nodup := hsorted.imp Nat.ne_of_lt
  cases hfind : u.list.find? fun x => decide (x.number = r.number) with
  | none => simpa using List.find?_eq_none.mp hfind r hr
  | some y =>
    have hnumber : y.number = r.number := by simpa using List.find?_some hfind
    rw [List.inj_on_of_nodup_map hnodup (List.mem_of_find?_eq_some hfind) hr hnumber]

section AckAlarm

variable {s u : State} {now : SiteTime} {p : Port} {bytes args : List Byte} {status : StatusCode}

/-- ACK ALARM leaves what the acknowledgement leaves, with the port's reply formed. -/
theorem exec_ackAlarm (hlen : args.length = 4) (h : Completes s p bytes 34 args)
    (hrun : (s.atTime now).ackAlarm p (bytesNat args) = answer (u.atTime now) status) :
    exec (.ackAlarm now p bytes) s = .next (u.replying now p status.code []) := by
  refine congrArg Host.Outcome.next (transact_replies (r := ⟨status, []⟩) h (by decide) ?_)
  rw [State.runAckAlarm, argument_whole hlen, checked_ok hlen rfl]
  exact hrun

/-- R153: the table of ACK ALARM for a record of the list. -/
theorem ackAlarm_found {n : Nat} {r : AlarmRecord}
    (hfind : s.alarms.list.find? (fun x => decide (x.number = n)) = some r) (p : Port) :
    s.ackAlarm p n = if r.acknowledged.isSome = true then answer s .already
      else answer { s with alarms := { s.alarms with
        list := acknowledge s.alarms.list n p, listFull := false } } .ok := by
  rw [State.ackAlarm, hfind]

end AckAlarm

/-- Settles O55, row by row of the table. -/
theorem ackAlarmFollowsItsTable : Obligations.AckAlarmFollowsItsTable := by
  intro now p bytes args s hlen h hlist n
  refine ⟨fun hnone => ?notHeld, fun r hr hn => ?held⟩
  case notHeld =>
    have hfind : (s.atTime now).alarms.list.find? (fun x => decide (x.number = n)) = none :=
      List.find?_eq_none.mpr fun x hx => by simpa using hnone x hx
    have hrun : (s.atTime now).ackAlarm p n = answer (s.atTime now) .notHeld := by
      rw [State.ackAlarm, hfind]
    exact exec_ackAlarm hlen h hrun
  case held =>
    have hrun := ackAlarm_found (s := s.atTime now) (hn ▸ AlarmUnit.find_number hlist hr) p
    refine ⟨fun hdone => ?already, fun hleft => ?taken⟩
    case already =>
      exact exec_ackAlarm hlen h (hrun.trans (if_pos hdone))
    case taken =>
      exact exec_ackAlarm hlen h (u := { s with alarms := { s.alarms with
        list := acknowledge s.alarms.list n p, listFull := false } }) (hrun.trans (if_neg (by simp [hleft])))

end Sys2Proof.Machine
end

section
/-! PROOFS. Every step keeps the notice queues in order (R164 to R167, R174, R175): what each command does to a port's
queue and its attachment. -/

namespace Sys2Proof.Machine

open Sys2Proof

-- One proof after another: elaborated side by side they ask for more threads than check.sh allows.
set_option Elab.async false

/-! ### A port's queue (R164, R166, R167) -/

theorem noticesOk_iff (s : State) : s.noticesOk = true ↔ ∀ p, (s.port p).noticesOk = true := by
  rw [State.noticesOk, Bool.and_eq_true]
  exact ⟨fun h p => by cases p; exacts [h.1, h.2], fun h => ⟨h .a, h .b⟩⟩

theorem StationPort.noticesOk_iff (x : StationPort) :
    x.noticesOk = true ↔ queueOk x.notices = true ∧ (x.attached = true ∨ x.notices = []) := by
  rw [StationPort.noticesOk, Bool.and_eq_true, Bool.or_eq_true, List.isEmpty_iff]

/-- R167: a port without notices is in order, DETACHED or not. -/
theorem StationPort.noticesOk_of_empty {x : StationPort} (h : x.notices = []) : x.noticesOk = true :=
  x.noticesOk_iff.mpr ⟨h ▸ rfl, .inr h⟩

/-- R166, R167: a queue in order is in order without its oldest notice. -/
theorem queueOk_tail {n : Notice} {q : List Notice} (h : queueOk (n :: q) = true) : queueOk q = true := by
  cases q with
  | nil => rfl
  | cons m q =>
    simp only [queueOk, Bool.and_eq_true, decide_eq_true_eq, List.dropLast_cons_cons, List.all_cons,
      List.length_cons] at h ⊢
    obtain ⟨⟨hlength, -, hplain⟩, -⟩ := h
    exact ⟨⟨by omega, hplain⟩, Bool.or_eq_true _ _ |>.mpr (.inl (decide_eq_true (by omega)))⟩

section Queues

variable {s u : State}

theorem Moves.noticesOk (h : Moves s u) (hs : s.noticesOk = true) : u.noticesOk = true :=
  h.keeps (fun _ _ hm => hm.noticesOk) hs

/-- What spares the queues and the attachments keeps their order. -/
theorem Frame.noticesOk {F : List Part} (h : Frame F s u) (hs : s.noticesOk = true)
    (hnotices : ∀ p, Part.notices p ∉ F := by simp) (hattached : ∀ p, Part.attached p ∉ F := by simp) :
    u.noticesOk = true := by
  rwa [noticesOk_congr fun p => ⟨h (.notices p) (hnotices p), h (.attached p) (hattached p)⟩]

theorem setPort_noticesOk {p : Port} {x : StationPort} (hs : s.noticesOk = true) (hx : x.noticesOk = true) :
    (s.setPort p x).noticesOk = true := by
  refine (noticesOk_iff _).mpr fun q => ?_
  by_cases hq : q = p
  · rwa [hq, port_setPort]
  · rw [State.port, State.setPort, PerPort.get_set_of_ne _ hq]
    exact (noticesOk_iff s).mp hs q

end Queues

/-! ### The commands that take notices away or change an attachment -/

/-- A property of states that replies keep and the command's state has, a command row's state has. -/
theorem transact_state {P : State → Prop} {s : State} {p : Port} {bytes : List Byte} {row : Byte → List Byte → Bool}
    {run : List Byte → State → Executed} (hreply : ∀ u r, P u → P (u.putReply p r)) (hs : P s)
    (h : ∀ args, P (run args s).1) : P (s.transact p bytes row run) := by
  rcases transact_cases s p bytes row run with heq | ⟨args, heq⟩ <;> rw [heq]
  · exact hs
  · exact hreply _ _ (h args)

theorem putReply_attached (s : State) (p : Port) (r : Reply) (q : Port) :
    ((s.putReply p r).port q).attached = (s.port q).attached := putReply_frame s p r (.attached q) (by simp)

section Operations

variable {s : State} (hs : s.noticesOk = true)
include hs

theorem transact_noticesOk {p : Port} {bytes : List Byte} {row : Byte → List Byte → Bool}
    {run : List Byte → State → Executed} (h : ∀ args, (run args s).1.noticesOk = true) :
    (s.transact p bytes row run).noticesOk = true :=
  transact_state (P := fun u => u.noticesOk = true) (fun _ _ hu => (putReply_frame _ p _).noticesOk hu) hs h

/-- R164: the queue of a port that attaches stays as it is. -/
theorem runAttach_noticesOk (p : Port) (args : List Byte) : (s.runAttach p args).1.noticesOk = true := by
  refine checked_state (P := fun u => u.noticesOk = true) hs ?_
  split
  · exact hs
  · obtain ⟨hqueue, -⟩ := (s.port p).noticesOk_iff.mp ((noticesOk_iff s).mp hs p)
    exact setPort_noticesOk hs ((StationPort.noticesOk_iff _).mpr ⟨hqueue, .inl rfl⟩)

/-- R164: the queue of a port that detaches is emptied. -/
theorem runDetach_noticesOk (p : Port) (args : List Byte) : (s.runDetach p args).1.noticesOk = true := by
  refine checked_state (P := fun u => u.noticesOk = true) hs ?_
  split
  · exact setPort_noticesOk ((withStore_frame s _).noticesOk hs) (StationPort.noticesOk_of_empty rfl)
  · exact hs

/-- R167: a read takes the oldest notice of an attached port. -/
theorem runReadNotice_noticesOk (p : Port) (args : List Byte) : (s.runReadNotice p args).1.noticesOk = true := by
  refine checked_state (P := fun u => u.noticesOk = true) hs ?_
  rw [needsAttached]
  split
  · next hattached =>
    rw [State.readNotice]
    split
    · exact hs
    · next n rest hqueue =>
      obtain ⟨hordered, -⟩ := (s.port p).noticesOk_iff.mp ((noticesOk_iff s).mp hs p)
      rw [hqueue] at hordered
      exact setPort_noticesOk hs ((StationPort.noticesOk_iff _).mpr ⟨queueOk_tail hordered, .inl hattached⟩)
  · exact hs

/-- R174: the target FAULTS sends notices, RELEASED too (R136), and NOTICES empties the port's queue. -/
theorem purge_noticesOk (p : Port) (x : PurgeTargets) : (s.purge p x).noticesOk = true := by
  have hfaults : (s.clearFaults x).noticesOk = true := by
    rw [State.clearFaults]
    split
    · exact (notifyTogether_moves _ _ _).noticesOk hs
    · exact hs
  have hacked : ((s.clearFaults x).clearAcked x).noticesOk = true := (clearAcked_frame _ x).noticesOk hfaults
  have hreleased : (((s.clearFaults x).clearAcked x).clearReleased x).noticesOk = true := by
    rw [State.clearReleased]
    split
    · exact (reclaimReleased_moves _ _).noticesOk hacked
    · exact hacked
  rw [purge_last]
  split
  · exact setPort_noticesOk hreleased (StationPort.noticesOk_of_empty rfl)
  · exact hreleased

theorem runPurge_noticesOk (p : Port) (args : List Byte) : (s.runPurge p args).1.noticesOk = true := by
  rw [State.runPurge]
  split
  · exact checked_state (P := fun u => u.noticesOk = true) hs hs
  · exact purge_noticesOk hs p _

end Operations

/-- R175: a warm reset empties the queues, then promotes: it leaves them in order whatever they were. -/
theorem warmReset_noticesOk (s : State) : s.warmReset.noticesOk = true := by
  have hbefore : s.beforeReady.noticesOk = true :=
    (noticesOk_iff _).mpr fun p => StationPort.noticesOk_of_empty (by cases p <;> rfl)
  exact (warmReset_frame_after s).noticesOk ((promoteReady_moves _).noticesOk hbefore)

/-- R176: a full reset empties the queues. -/
theorem fullReset_noticesOk (s : State) : s.fullReset.noticesOk = true :=
  (noticesOk_iff _).mpr fun p => StationPort.noticesOk_of_empty (by cases p <;> rfl)

/-! ### The commands that send notices -/

/-- The outcome is a next state whose notice queues are in order where those of the state before are. -/
def KeepsNoticesIn (s : State) (r : Host.Outcome State Fault Refusal) : Prop :=
  ∃ u, r = .next u ∧ (s.noticesOk = true → u.noticesOk = true)

section Commands

variable {s u : State} {now : SiteTime}

theorem KeepsNoticesIn.next (h : (s.atTime now).noticesOk = true → u.noticesOk = true) :
    KeepsNoticesIn s (.next u) := ⟨u, rfl, h⟩

theorem KeepsNoticesIn.of_moves (h : Moves (s.atTime now) u) : KeepsNoticesIn s (.next u) := .next h.noticesOk

theorem KeepsNoticesIn.same (s : State) (now : SiteTime) : KeepsNoticesIn s (.next (s.atTime now)) :=
  .of_moves (.refl _)

/-- A command row whose command keeps the queues in order. -/
theorem KeepsNoticesIn.of_row {p : Port} {bytes : List Byte} {row : Byte → List Byte → Bool}
    {run : List Byte → State → Executed}
    (h : ∀ {u : State}, u.noticesOk = true → ∀ args, (run args u).1.noticesOk = true) :
    KeepsNoticesIn s (.next ((s.atTime now).transact p bytes row run)) :=
  .next fun hs => transact_noticesOk hs (h hs)

/-- A command whose frame spares the queues and the attachments. -/
theorem Does.keepsNotices {F : List Part} {r : Host.Outcome State Fault Refusal} (h : Does F now s r)
    (hnotices : ∀ p, Part.notices p ∉ F := by simp) (hattached : ∀ p, Part.attached p ∉ F := by simp) :
    KeepsNoticesIn s r := by
  obtain ⟨u, hu, -, frame⟩ := h
  exact ⟨u, hu, fun hs => frame.noticesOk hs (by simp [hnotices]) (by simp [hattached])⟩

theorem execSensorRawChange_keepsNotices (now : SiteTime) (input : Fin 8) (level : Bool) (s : State) :
    KeepsNoticesIn s (execSensorRawChange now input level s) := by
  unfold execSensorRawChange
  dsimp only
  split
  · exact .same s now
  · split
    · exact .of_moves (orAsBefore_moves _ _ _ fun u => takeRawChange_moves u _ _ _ level)
    · exact .of_moves (.of_frame (setFilter_frame _ _ _ _ _) (by simp))

theorem execDebounceConfirm_keepsNotices (now : SiteTime) (input : Fin 8) (s : State) :
    KeepsNoticesIn s (execDebounceConfirm now input s) :=
  .of_moves (orAsBefore_moves _ _ _ fun u => confirmDue_moves u _ _ _)

theorem execHeldTimerExpiry_keepsNotices (now : SiteTime) (input : Fin 8) (s : State) :
    KeepsNoticesIn s (execHeldTimerExpiry now input s) := by
  unfold execHeldTimerExpiry
  dsimp only
  split
  · exact .of_moves ((Moves.of_frame (setSensor_frame _ _ _ _ _) (by simp)).trans
      ((notify_moves _ _).trans (partnerHeld_moves _ _ _ _)))
  · exact .same s now

theorem execPairTimeoutExpiry_keepsNotices (now : SiteTime) (t : TrackId) (e : SectionEnd) (s : State) :
    KeepsNoticesIn s (execPairTimeoutExpiry now t e s) := by
  unfold execPairTimeoutExpiry
  dsimp only
  split
  · exact .same s now
  · split
    · exact .of_moves (endWait_moves _ t e _ _)
    · exact .same s now

theorem execApproachTimerExpiry_keepsNotices (now : SiteTime) (t : TrackId) (s : State) :
    KeepsNoticesIn s (execApproachTimerExpiry now t s) := by
  unfold execApproachTimerExpiry
  dsimp only
  split
  · exact .of_moves (enterIdle_moves _ t _)
  · exact .same s now

theorem execClearTimerExpiry_keepsNotices (now : SiteTime) (t : TrackId) (s : State) :
    KeepsNoticesIn s (execClearTimerExpiry now t s) := by
  unfold execClearTimerExpiry
  dsimp only
  split
  · exact .of_moves ((closePass_moves _ t _).trans (enterIdle_moves _ t _))
  · exact .same s now

theorem execQuietTimerExpiry_keepsNotices (now : SiteTime) (t : TrackId) (s : State) :
    KeepsNoticesIn s (execQuietTimerExpiry now t s) := by
  unfold execQuietTimerExpiry
  dsimp only
  split
  · split
    · exact .of_moves (enterIdle_moves _ t _)
    · exact .of_moves (setSection_moves _ t _)
  · exact .same s now

theorem execConversionEnd_keepsNotices (now : SiteTime) (sample : BitVec 16) (s : State) :
    KeepsNoticesIn s (execConversionEnd now sample s) := by
  unfold execConversionEnd
  dsimp only
  split
  · exact .same s now
  · next x _ =>
    split
    · exact .of_moves ((takeSample_moves _ x _).trans (.of_frame (endConversion_frame _ x) (by simp)))
    · exact .same s now

theorem execScannerStatus_keepsNotices (now : SiteTime) (link : Fin 8) (report : ShutterReport)
    (housing : BitVec 16) (s : State) : KeepsNoticesIn s (execScannerStatus now link report housing s) :=
  .of_moves (putScanner_moves _ _ _ _)

theorem execSilenceTimerExpiry_keepsNotices (now : SiteTime) (link : Fin 8) (s : State) :
    KeepsNoticesIn s (execSilenceTimerExpiry now link s) := by
  unfold execSilenceTimerExpiry
  dsimp only
  split
  · exact .of_moves (putScanner_moves _ _ _ _)
  · exact .same s now

theorem execOpeningTimerExpiry_keepsNotices (now : SiteTime) (link : Fin 8) (s : State) :
    KeepsNoticesIn s (execOpeningTimerExpiry now link s) := by
  unfold execOpeningTimerExpiry
  dsimp only
  split
  · exact .of_moves (putScanner_moves _ _ _ _)
  · exact .same s now

theorem execCommit_keepsNotices (now : SiteTime) (p : Port) (bytes : List Byte) (s : State) :
    KeepsNoticesIn s (execCommit now p bytes s) := by
  refine .of_moves (now := now) (transact_moves fun args => ?_)
  refine checked_state (P := Moves _) (.refl _) ?_
  split
  · exact .refl _
  · exact (((Moves.of_frame (withConfig_frame _ _) (by simp)).trans
      (.of_frame (keepCoinciding_frame _ .t1) (by simp))).trans
      (.of_frame (keepCoinciding_frame _ .t2) (by simp))).trans (promoteReady_moves _)

theorem execTrackAbort_keepsNotices (now : SiteTime) (p : Port) (bytes : List Byte) (s : State) :
    KeepsNoticesIn s (execTrackAbort now p bytes s) := by
  refine .of_moves (now := now) (transact_moves fun args => runTrackControl_moves fun t => ?_)
  rw [State.runTrackAbort]
  split
  · exact abortTrack_moves _ t
  · exact .refl _

theorem execTrackOut_keepsNotices (now : SiteTime) (p : Port) (bytes : List Byte) (s : State) :
    KeepsNoticesIn s (execTrackOut now p bytes s) := by
  refine .of_moves (now := now) (transact_moves fun args => runTrackControl_moves fun t => ?_)
  rw [State.runTrackOut]
  split
  case h_1 => exact .refl _
  case h_2 => exact .refl _
  all_goals exact takeOut_moves _ t

theorem execTrackIn_keepsNotices (now : SiteTime) (p : Port) (bytes : List Byte) (s : State) :
    KeepsNoticesIn s (execTrackIn now p bytes s) := by
  refine .of_moves (now := now) (transact_moves fun args => runTrackControl_moves fun t => ?_)
  rw [State.runTrackIn]
  split
  · exact enterIdle_moves _ t _
  · exact .refl _

theorem execReset_keepsNotices (now : SiteTime) (p : Port) (bytes : List Byte) (s : State) :
    KeepsNoticesIn s (execReset now p bytes s) :=
  .of_row (now := now) fun {u} hu _ =>
    checked_state (P := fun v => v.noticesOk = true) hu (warmReset_noticesOk u)

theorem exec_keepsNotices (c : Instr) (s : State) : KeepsNoticesIn s (exec c s) := by
  cases c with
  | fullReset => exact ⟨s.fullReset, rfl, fun _ => fullReset_noticesOk s⟩
  | sensorRawChange => exact execSensorRawChange_keepsNotices _ _ _ s
  | debounceConfirm => exact execDebounceConfirm_keepsNotices _ _ s
  | heldTimerExpiry => exact execHeldTimerExpiry_keepsNotices _ _ s
  | pairTimeoutExpiry => exact execPairTimeoutExpiry_keepsNotices _ _ _ s
  | approachInputChange => exact (approachInputChange_does _ _ _ _ s).keepsNotices
  | approachEdge => exact (approachEdge_does _ _ _ s).keepsNotices
  | approachTimerExpiry => exact execApproachTimerExpiry_keepsNotices _ _ s
  | closeDelayExpiry => exact (closeDelayExpiry_does _ _ s).keepsNotices
  | holdTimerExpiry => exact (holdTimerExpiry_does _ _ s).keepsNotices
  | clearTimerExpiry => exact execClearTimerExpiry_keepsNotices _ _ s
  | quietTimerExpiry => exact execQuietTimerExpiry_keepsNotices _ _ s
  | paceTick => exact (paceTick_does _ _ s).keepsNotices
  | zeroTimerExpiry => exact (zeroTimerExpiry_does _ _ s).keepsNotices
  | conversionEnd => exact execConversionEnd_keepsNotices _ _ s
  | linkMessageDiscarded => exact (linkMessageDiscarded_does _ _ s).keepsNotices
  | scannerStatus => exact execScannerStatus_keepsNotices _ _ _ _ s
  | scannerLine => exact (scannerLine_does _ _ _ _ s).keepsNotices
  | silenceTimerExpiry => exact execSilenceTimerExpiry_keepsNotices _ _ s
  | openingTimerExpiry => exact execOpeningTimerExpiry_keepsNotices _ _ s
  | lineTimerExpiry => exact (lineTimerExpiry_does _ _ s).keepsNotices
  | spacingLimitPassed => exact (spacingLimitPassed_does _ _ s).keepsNotices
  | pulseTimerExpiry => exact (pulseTimerExpiry_does _ _ s).keepsNotices
  | recoveryTimerExpiry => exact (recoveryTimerExpiry_does _ _ s).keepsNotices
  | stationTimeAdvance => exact (stationTimeAdvance_does _ s).keepsNotices
  | selectAssert => exact (selectAssert_does _ _ s).keepsNotices
  | selectDeassert => exact (selectDeassert_does _ _ s).keepsNotices
  | unknownCommand => exact (unknownCommand_does _ _ _ s).keepsNotices
  | status => exact (status_does _ _ _ s).keepsNotices
  | attach now => exact .of_row (now := now) fun hu => runAttach_noticesOk hu _
  | detach now => exact .of_row (now := now) fun hu => runDetach_noticesOk hu _
  | listPasses => exact (listPasses_does _ _ _ s).keepsNotices
  | selectPass => exact (selectPass_does _ _ _ s).keepsNotices
  | readHeader => exact (readHeader_does _ _ _ s).keepsNotices
  | readAxles => exact (readAxles_does _ _ _ s).keepsNotices
  | readVehicles => exact (readVehicles_does _ _ _ s).keepsNotices
  | releasePass => exact (releasePass_does _ _ _ s).keepsNotices
  | readNotice now => exact .of_row (now := now) fun hu => runReadNotice_noticesOk hu _
  | readAlarms => exact (readAlarms_does _ _ _ s).keepsNotices
  | ackAlarm => exact (ackAlarm_does _ _ _ s).keepsNotices
  | stageWrite => exact (stageWrite_does _ _ _ s).keepsNotices
  | stageRead => exact (stageRead_does _ _ _ s).keepsNotices
  | activeRead => exact (activeRead_does _ _ _ s).keepsNotices
  | commit => exact execCommit_keepsNotices _ _ _ s
  | abandon => exact (abandon_does _ _ _ s).keepsNotices
  | trackAbort => exact execTrackAbort_keepsNotices _ _ _ s
  | trackOut => exact execTrackOut_keepsNotices _ _ _ s
  | trackIn => exact execTrackIn_keepsNotices _ _ _ s
  | purgeFaults now => exact .of_row (now := now) fun hu => runPurge_noticesOk hu _
  | purgeNotices now => exact .of_row (now := now) fun hu => runPurge_noticesOk hu _
  | purgeAcked now => exact .of_row (now := now) fun hu => runPurge_noticesOk hu _
  | purgeReleased now => exact .of_row (now := now) fun hu => runPurge_noticesOk hu _
  | setTime => exact (setTime_does _ _ _ s).keepsNotices
  | reset => exact execReset_keepsNotices _ _ _ s
  | byteShiftedIn => exact (byteShiftedIn_does _ _ _ s).keepsNotices
  | pacerFirstStep => exact (pacerFirstStep_does _ _ s).keepsNotices
  | approachInputInactive => exact (approachInputInactive_does _ _ _ s).keepsNotices

end Commands

/-- Settles O5: an idle step leaves the ports, and every command keeps their queues in order. -/
theorem everyStepKeepsNoticeQueues : Obligations.EveryStepKeepsNoticeQueues := by
  intro s t hs hstep
  unfold step at hstep
  split at hstep
  · obtain rfl := Host.Outcome.next.inj hstep
    exact hs
  · next c rest _ =>
    obtain ⟨v, hv, kept⟩ := exec_keepsNotices c { s with pending := rest }
    obtain rfl := Host.Outcome.next.inj (hv.symm.trans hstep)
    exact kept hs

end Sys2Proof.Machine
end

section
/-! PROOFS. Station time and the attachments (R164, R169, R176): which commands change them, SET TIME and the second of
a set station time. -/

namespace Sys2Proof.Machine

open Sys2Proof

-- One proof after another: elaborated side by side they ask for more threads than check.sh allows.
set_option Elab.async false

/-! ### Which commands change station time or an attachment (R164, R169) -/

/-- R164, R169: what a command changes of station time and of the attachments is its own to change. -/
def ChangesItsOwn (c : Instr) (s t : State) : Prop :=
  (t.stationTime ≠ s.stationTime →
    c = .fullReset ∨ (∃ now, c = .stationTimeAdvance now) ∨ ∃ now p bytes, c = .setTime now p bytes) ∧
  ∀ p, (t.port p).attached ≠ (s.port p).attached →
    c = .fullReset ∨ (∃ now bytes, c = .attach now p bytes ∧ (t.port p).attached = true) ∨
      ∃ now bytes, c = .detach now p bytes ∧ (t.port p).attached = false

section Own

variable {F : List Part} {c : Instr} {s t : State} {now : SiteTime}

/-- A command answered so leaves what its frame spares. -/
theorem Does.frame {r : Host.Outcome State Fault Refusal} (h : Does F now s r) (hr : r = .next t) :
    Frame (.siteTime :: F) s t := by
  obtain ⟨u, hu, -, frame⟩ := h
  obtain rfl := Host.Outcome.next.inj (hu.symm.trans hr)
  exact frame

/-- A command whose frame spares station time and the attachments. -/
theorem Does.changesItsOwn (h : Does F now s (exec c s)) (hexec : exec c s = .next t)
    (htime : Part.stationTime ∉ F := by simp) (hattached : ∀ p, Part.attached p ∉ F := by simp) :
    ChangesItsOwn c s t :=
  ⟨fun hne => absurd (h.frame hexec .stationTime (by simp [htime])) hne,
    fun p hne => absurd (h.frame hexec (.attached p) (by simp [hattached])) hne⟩

/-- A command that owns station time and whose frame spares the attachments. -/
theorem Does.changesStationTime (h : Does F now s (exec c s)) (hexec : exec c s = .next t)
    (hc : (∃ now, c = .stationTimeAdvance now) ∨ ∃ now p bytes, c = .setTime now p bytes)
    (hattached : ∀ p, Part.attached p ∉ F := by simp) : ChangesItsOwn c s t :=
  ⟨fun _ => .inr hc, fun p hne => absurd (h.frame hexec (.attached p) (by simp [hattached])) hne⟩

/-- A port's attachment in `u` is as in `s`, or it is `a`. -/
def AttachmentKeptOr (a : Bool) (p : Port) (s u : State) : Prop :=
  (u.port p).attached = (s.port p).attached ∨ (u.port p).attached = a

theorem transact_attachment {a : Bool} {p : Port} {bytes : List Byte} {row : Byte → List Byte → Bool}
    {run : List Byte → State → Executed} (h : ∀ args, AttachmentKeptOr a p s (run args s).1) :
    AttachmentKeptOr a p s (s.transact p bytes row run) :=
  transact_state (P := AttachmentKeptOr a p s)
    (fun u r hu => by rwa [AttachmentKeptOr, putReply_attached]) (.inl rfl) h

theorem runAttach_attachment (s : State) (p : Port) (args : List Byte) :
    AttachmentKeptOr true p s (s.runAttach p args).1 := by
  refine checked_state (P := AttachmentKeptOr true p s) (.inl rfl) ?_
  split
  · exact .inl rfl
  · exact .inr (congrArg StationPort.attached (port_setPort s p _))

theorem runDetach_attachment (s : State) (p : Port) (args : List Byte) :
    AttachmentKeptOr false p s (s.runDetach p args).1 := by
  refine checked_state (P := AttachmentKeptOr false p s) (.inl rfl) ?_
  split
  · exact .inr (congrArg StationPort.attached (port_setPort _ p _))
  · exact .inl rfl

/-- R164: ATTACH changes its port's attachment to ATTACHED alone. -/
theorem exec_attach_attached {p : Port} {bytes : List Byte} (hexec : exec (.attach now p bytes) s = .next t)
    (hne : (t.port p).attached ≠ (s.port p).attached) : (t.port p).attached = true := by
  obtain rfl := Host.Outcome.next.inj hexec
  exact (transact_attachment fun args => runAttach_attachment (s.atTime now) p args).resolve_left hne

/-- R164: DETACH changes its port's attachment to DETACHED alone. -/
theorem exec_detach_attached {p : Port} {bytes : List Byte} (hexec : exec (.detach now p bytes) s = .next t)
    (hne : (t.port p).attached ≠ (s.port p).attached) : (t.port p).attached = false := by
  obtain rfl := Host.Outcome.next.inj hexec
  exact (transact_attachment fun args => runDetach_attachment (s.atTime now) p args).resolve_left hne

theorem attach_changesItsOwn {p : Port} {bytes : List Byte} (hexec : exec (.attach now p bytes) s = .next t) :
    ChangesItsOwn (.attach now p bytes) s t := by
  have frame := (attach_does now p bytes s).frame hexec
  refine ⟨fun hne => absurd (frame .stationTime (by simp)) hne, fun q hne => ?_⟩
  by_cases hq : q = p
  · subst hq
    exact .inr (.inl ⟨now, bytes, rfl, exec_attach_attached hexec hne⟩)
  · exact absurd (frame (.attached q) (by simp [hq])) hne

theorem detach_changesItsOwn {p : Port} {bytes : List Byte} (hexec : exec (.detach now p bytes) s = .next t) :
    ChangesItsOwn (.detach now p bytes) s t := by
  have frame := (detach_does now p bytes s).frame hexec
  refine ⟨fun hne => absurd (frame .stationTime (by simp)) hne, fun q hne => ?_⟩
  by_cases hq : q = p
  · subst hq
    exact .inr (.inr ⟨now, bytes, rfl, exec_detach_attached hexec hne⟩)
  · exact absurd (frame (.attached q) (by simp [hq])) hne

/-- Settles O3, by what each command may change; ATTACH and DETACH by what they make of their own port. -/
theorem stationTimeAndAttachmentChangeByTheirOwnSteps :
    Obligations.StationTimeAndAttachmentChangeByTheirOwnSteps := by
  intro c s t hexec
  change ChangesItsOwn c s t
  cases c with
  | fullReset => exact ⟨fun _ => .inl rfl, fun _ _ => .inl rfl⟩
  | stationTimeAdvance now => exact (stationTimeAdvance_does _ s).changesStationTime hexec (.inl ⟨now, rfl⟩)
  | setTime now p bytes => exact (setTime_does _ _ _ s).changesStationTime hexec (.inr ⟨now, p, bytes, rfl⟩)
  | attach => exact attach_changesItsOwn hexec
  | detach => exact detach_changesItsOwn hexec
  | conversionEnd =>
    cases h : s.strain.scan with
    | none => exact (conversionEnd_does _ _ s .t1 (by simp [h])).changesItsOwn hexec
    | some x => exact (conversionEnd_does _ _ s x.track (by simp [h])).changesItsOwn hexec
  | sensorRawChange => exact (sensorRawChange_does _ _ _ s).changesItsOwn hexec
  | debounceConfirm => exact (debounceConfirm_does _ _ s).changesItsOwn hexec
  | heldTimerExpiry => exact (heldTimerExpiry_does _ _ s).changesItsOwn hexec
  | pairTimeoutExpiry => exact (pairTimeoutExpiry_does _ _ _ s).changesItsOwn hexec
  | approachInputChange => exact (approachInputChange_does _ _ _ _ s).changesItsOwn hexec
  | approachEdge => exact (approachEdge_does _ _ _ s).changesItsOwn hexec
  | approachTimerExpiry => exact (approachTimerExpiry_does _ _ s).changesItsOwn hexec
  | closeDelayExpiry => exact (closeDelayExpiry_does _ _ s).changesItsOwn hexec
  | holdTimerExpiry => exact (holdTimerExpiry_does _ _ s).changesItsOwn hexec
  | clearTimerExpiry => exact (clearTimerExpiry_does _ _ s).changesItsOwn hexec
  | quietTimerExpiry => exact (quietTimerExpiry_does _ _ s).changesItsOwn hexec
  | paceTick => exact (paceTick_does _ _ s).changesItsOwn hexec
  | zeroTimerExpiry => exact (zeroTimerExpiry_does _ _ s).changesItsOwn hexec
  | linkMessageDiscarded => exact (linkMessageDiscarded_does _ _ s).changesItsOwn hexec
  | scannerStatus => exact (scannerStatus_does _ _ _ _ s).changesItsOwn hexec
  | scannerLine => exact (scannerLine_does _ _ _ _ s).changesItsOwn hexec
  | silenceTimerExpiry => exact (silenceTimerExpiry_does _ _ s).changesItsOwn hexec
  | openingTimerExpiry => exact (openingTimerExpiry_does _ _ s).changesItsOwn hexec
  | lineTimerExpiry => exact (lineTimerExpiry_does _ _ s).changesItsOwn hexec
  | spacingLimitPassed => exact (spacingLimitPassed_does _ _ s).changesItsOwn hexec
  | pulseTimerExpiry => exact (pulseTimerExpiry_does _ _ s).changesItsOwn hexec
  | recoveryTimerExpiry => exact (recoveryTimerExpiry_does _ _ s).changesItsOwn hexec
  | selectAssert => exact (selectAssert_does _ _ s).changesItsOwn hexec
  | selectDeassert => exact (selectDeassert_does _ _ s).changesItsOwn hexec
  | unknownCommand => exact (unknownCommand_does _ _ _ s).changesItsOwn hexec
  | status => exact (status_does _ _ _ s).changesItsOwn hexec
  | listPasses => exact (listPasses_does _ _ _ s).changesItsOwn hexec
  | selectPass => exact (selectPass_does _ _ _ s).changesItsOwn hexec
  | readHeader => exact (readHeader_does _ _ _ s).changesItsOwn hexec
  | readAxles => exact (readAxles_does _ _ _ s).changesItsOwn hexec
  | readVehicles => exact (readVehicles_does _ _ _ s).changesItsOwn hexec
  | releasePass => exact (releasePass_does _ _ _ s).changesItsOwn hexec
  | readNotice => exact (readNotice_does _ _ _ s).changesItsOwn hexec
  | readAlarms => exact (readAlarms_does _ _ _ s).changesItsOwn hexec
  | ackAlarm => exact (ackAlarm_does _ _ _ s).changesItsOwn hexec
  | stageWrite => exact (stageWrite_does _ _ _ s).changesItsOwn hexec
  | stageRead => exact (stageRead_does _ _ _ s).changesItsOwn hexec
  | activeRead => exact (activeRead_does _ _ _ s).changesItsOwn hexec
  | commit => exact (commit_does _ _ _ s).changesItsOwn hexec
  | abandon => exact (abandon_does _ _ _ s).changesItsOwn hexec
  | trackAbort => exact (trackAbort_does _ _ _ s).changesItsOwn hexec
  | trackOut => exact (trackOut_does _ _ _ s).changesItsOwn hexec
  | trackIn => exact (trackIn_does _ _ _ s).changesItsOwn hexec
  | purgeFaults => exact (purgeFaults_does _ _ _ s).changesItsOwn hexec
  | purgeNotices => exact (purgeNotices_does _ _ _ s).changesItsOwn hexec
  | purgeAcked => exact (purgeAcked_does _ _ _ s).changesItsOwn hexec
  | purgeReleased => exact (purgeReleased_does _ _ _ s).changesItsOwn hexec
  | reset => exact (reset_does _ _ _ s).changesItsOwn hexec
  | byteShiftedIn => exact (byteShiftedIn_does _ _ _ s).changesItsOwn hexec
  | pacerFirstStep => exact (pacerFirstStep_does _ _ s).changesItsOwn hexec
  | approachInputInactive => exact (approachInputInactive_does _ _ _ s).changesItsOwn hexec

end Own

/-! ### SET TIME and the second (R169) -/

/-- Settles O44: SET TIME by its reply, the second by whether station time is set. -/
theorem stationTimeIsSetAndAdvances : Obligations.StationTimeIsSetAndAdvances := by
  intro now s
  refine ⟨fun p bytes args hlen h => ?set, fun hset hsecond => ?second, fun hzero => ?unset⟩
  case set =>
    refine congrArg Host.Outcome.next (transact_replies (r := ⟨.ok, []⟩)
      (u := { s with stationTime := BitVec.ofNat 32 (bytesNat args), secondStart := now }) h (by decide) ?_)
    rw [State.runSetTime, argument_whole hlen, checked_ok hlen rfl]
    rfl
  case second => exact if_pos ⟨hset, hsecond⟩
  case unset => exact if_neg fun hadvance => hadvance.1 hzero

end Sys2Proof.Machine
end

section
/-! PROOFS. The transactions of a station port (R159 to R162): select, the bytes of a frame, a frame that names no
command or comes with a wrong length, and READ NOTICE (R167). -/

namespace Sys2Proof.Machine

open Sys2Proof

-- One proof after another: elaborated side by side they ask for more threads than check.sh allows.
set_option Elab.async false

/-! ### Bytes (R159, R160) -/

section Bytes

variable {s : State} {now : SiteTime} {p : Port} {b : Byte} {q : Phase}

/-- R159: a byte that moves the phase on shifts out what the phase gives. -/
theorem exec_byteShiftedIn (hselected : (s.port p).phase ≠ .deselected)
    (hshift : (s.port p).phase.shift b = .partly q) : exec (.byteShiftedIn now p b) s =
      .next ((s.atTime now).setPort p { s.port p with phase := q, dataOut := (s.port p).phase.outByte }) := by
  simp only [exec, execByteShiftedIn]
  split
  · next h => exact absurd h hselected
  · rw [port_atTime, hshift]

theorem takeFrame_deselected (bytes : List Byte) : takeFrame .deselected bytes = none := by
  induction bytes with
  | nil => rfl
  | cons b rest ih => exact ih

/-- The first of several bytes that complete a frame moves the phase on, and the others complete it from there. -/
theorem takeFrame_cons_cons {phase : Phase} {b2 : Byte} {rest : List Byte} {frame : Byte × List Byte}
    (h : takeFrame phase (b :: b2 :: rest) = some frame) :
    ∃ q, phase.shift b = .partly q ∧ takeFrame q (b2 :: rest) = some frame := by
  rw [takeFrame] at h
  split at h
  · next q hshift => exact ⟨q, hshift, h⟩
  · rw [if_neg (List.cons_ne_nil b2 rest)] at h
    cases h

end Bytes

/-- Settles O46: a whole frame byte by byte, and the first byte of several that complete one. -/
theorem wholeFrameIsTaken : Obligations.WholeFrameIsTaken := by
  refine ⟨takeFrame_whole, fun now p b b2 rest cmd args s u h hexec => ?_⟩
  have hselected : (s.port p).phase ≠ .deselected := fun hphase => by
    rw [hphase, takeFrame_deselected] at h
    cases h
  obtain ⟨q, hshift, hrest⟩ := takeFrame_cons_cons h
  obtain rfl := Host.Outcome.next.inj ((exec_byteShiftedIn hselected hshift).symm.trans hexec)
  rwa [port_setPort]

/-! ### Truncated STAGE WRITEs (R161) -/

section Staging

variable (s : State) (area : Area) (offset : Nat) (words : List Word)

theorem stage_config : (s.stage area offset words).1 =
    { s with config := (s.stage area offset words).1.config } := by
  cases area <;> rfl

theorem stage_atTime (now : SiteTime) :
    ((s.atTime now).stage area offset words).1 = ((s.stage area offset words).1).atTime now := by
  cases area <;> rfl

/-- R181: staging changes no active image. -/
theorem stage_activeWords (other : Area) :
    (s.stage area offset words).1.activeWords other = s.activeWords other := by
  cases area with
  | site => rfl
  | track t =>
    cases other with
    | site => rfl
    | track r => cases t <;> cases r <;> rfl

/-- R181: staging changes the staged image of its area alone. -/
theorem stage_stagedWords_of_ne {other : Area} (h : other ≠ area) :
    (s.stage area offset words).1.stagedWords other = s.stagedWords other := by
  cases area with
  | site =>
    cases other with
    | site => exact absurd rfl h
    | track r => rfl
  | track t =>
    cases other with
    | site => rfl
    | track r => cases t <;> cases r <;> first | rfl | exact absurd rfl h

end Staging

section Truncated

variable (s : State) (got : List Byte)

/-- R161: nothing is staged short of a whole word, nor where no area is named (log 35). -/
theorem stageTruncated_short (h : got.length < 7 ∨ areaOfCode (bytesNat (got.take 1)) = none) :
    s.stageTruncated got = s := by
  have hcode : argument got 0 1 = bytesNat (got.take 1) := rfl
  rw [State.stageTruncated, hcode]
  cases harea : areaOfCode (bytesNat (got.take 1)) with
  | none => rfl
  | some area => exact if_neg (by simpa [harea] using h)

/-- R161: the whole words are staged as far as they lie in the area. -/
theorem stageTruncated_whole {area : Area} (harea : areaOfCode (bytesNat (got.take 1)) = some area)
    (h : 7 ≤ got.length) : s.stageTruncated got =
      (s.stage area (bytesNat ((got.drop 1).take 2)) (wholeWords got.length (got.drop 3))).1 := by
  have harea' : areaOfCode (argument got 0 1) = some area := harea
  rw [State.stageTruncated, harea']
  exact if_pos h

theorem stageTruncated_config : s.stageTruncated got = { s with config := (s.stageTruncated got).config } := by
  rw [State.stageTruncated]
  split
  · rfl
  · split
    · exact stage_config s _ _ _
    · rfl

end Truncated

section Select

variable {s : State} {now : SiteTime} {p : Port}

theorem exec_selectAssert (h : (s.port p).phase = .deselected) : exec (.selectAssert now p) s =
    .next ({ s with siteTime := now }.setPort p { s.port p with phase := .command, dataOut := 0 }) := by
  have h' : ((s.atTime now).port p).phase = .deselected := h
  simp only [exec, execSelectAssert, h']
  rfl

theorem endTransaction_of_other (h : ∀ len got, (s.port p).phase ≠ .arguments 48 len got) :
    s.endTransaction p = s := by
  rw [State.endTransaction]
  split
  · next cmd len got hphase =>
    refine if_neg fun hcmd => h len got ?_
    rw [hphase, show cmd = 48 from BitVec.eq_of_toNat_eq hcmd]
  all_goals rfl

theorem endTransaction_truncated {len : Nat} {got : List Byte} (h : (s.port p).phase = .arguments 48 len got) :
    s.endTransaction p = s.stageTruncated got := by
  rw [State.endTransaction, h]
  rfl

/-- R159: a deassertion that ends no STAGE WRITE. -/
theorem exec_selectDeassert (h : ∀ len got, (s.port p).phase ≠ .arguments 48 len got) :
    exec (.selectDeassert now p) s =
      .next ({ s with siteTime := now }.setPort p { s.port p with phase := .deselected }) := by
  have hend : (s.atTime now).endTransaction p = s.atTime now := endTransaction_of_other h
  simp only [exec, execSelectDeassert, hend]
  rfl

/-- R161: a deassertion that truncates a STAGE WRITE. -/
theorem exec_selectDeassert_truncated {len : Nat} {got : List Byte} (h : (s.port p).phase = .arguments 48 len got) :
    exec (.selectDeassert now p) s = .next (((s.atTime now).stageTruncated got).setPort p
      { s.port p with phase := .deselected }) := by
  have hend : (s.atTime now).endTransaction p = (s.atTime now).stageTruncated got := endTransaction_truncated h
  have hport : ((s.atTime now).stageTruncated got).port p = s.port p := by rw [stageTruncated_config]; rfl
  simp only [exec, execSelectDeassert, hend, hport]

end Select

/-- Settles O45: select, a truncated STAGE WRITE, and a byte phase by phase. -/
theorem selectAndBytesMoveTheTransaction : Obligations.SelectAndBytesMoveTheTransaction := by
  intro now p s
  refine ⟨exec_selectAssert, exec_selectDeassert, fun len got hphase => ?truncated, fun b => ?bytes⟩
  case truncated =>
    refine ⟨_, exec_selectDeassert_truncated hphase, ?state, fun hshort => ?short, fun area harea hlen => ?whole⟩
    case state =>
      rw [stageTruncated_config]
      rfl
    case short =>
      rw [stageTruncated_short _ _ hshort]
      rfl
    case whole =>
      rw [stageTruncated_whole _ _ harea hlen, stage_atTime]
      exact ⟨rfl, fun other => ⟨stage_activeWords _ _ _ _ other, fun hne => stage_stagedWords_of_ne _ _ _ _ hne⟩⟩
  case bytes =>
    intro put
    have moves {phase q : Phase} (hphase : (s.port p).phase = phase) (hselected : phase ≠ .deselected)
        (hshift : phase.shift b = .partly q) :
        exec (.byteShiftedIn now p b) s = .next (put q phase.outByte) := by
      subst hphase
      exact exec_byteShiftedIn hselected hshift
    refine ⟨fun hphase => moves hphase nofun rfl, fun cmd hphase hb => moves hphase nofun (if_neg hb),
      fun cmd len got hphase hlen => moves hphase nofun (if_neg (by omega)),
      fun out rest hphase => moves hphase nofun rfl, fun hphase => moves hphase nofun rfl,
      fun hphase => moves hphase nofun rfl⟩

/-! ### Unknown commands and wrong lengths (R162) -/

theorem runAreaRead_length {args : List Byte} (h : args.length ≠ 4) (s : State) (image : Area → List Word) :
    s.runAreaRead image args = answer s .badLength := by
  rw [State.runAreaRead]
  split <;> exact checked_length h

/-- Settles O47: an unknown command by its row, a wrong length by the length check of each command. -/
theorem unknownCommandAndWrongLengthChangeNothing : Obligations.UnknownCommandAndWrongLengthChangeNothing := by
  intro now p bytes args s
  refine ⟨fun cmd h hunknown => ?unknown, ?lengths⟩
  case unknown =>
    have hrow : (!knownCommands.contains cmd.toNat) = true := by simpa [knownCommands] using hunknown
    exact congrArg Host.Outcome.next (Eq.trans (transact_answers (s := s.atTime now)
      (row := fun cmd _ => !knownCommands.contains cmd.toNat) (run := fun _ s => answer s .unknownCommand) h hrow rfl)
      rfl)
  case lengths =>
    intro row hrow h hlen
    simp only [fixedLengthRows, List.mem_cons, List.not_mem_nil, or_false] at hrow
    rcases hrow with rfl | rfl | rfl | rfl | rfl | rfl | rfl | rfl | rfl | rfl | rfl | rfl | rfl | rfl | rfl | rfl |
      rfl | rfl
    all_goals
      refine congrArg Host.Outcome.next (transact_replies (u := s) (r := ⟨.badLength, []⟩) h (by decide) ?_)
    any_goals exact checked_length hlen
    all_goals exact runAreaRead_length hlen _ _

/-! ### READ NOTICE (R167) -/

/-- Settles O53: the line by the queue, READ NOTICE by the attachment and the queue. -/
theorem readNoticeTakesTheOldest : Obligations.ReadNoticeTakesTheOldest := by
  intro now p s
  refine ⟨by simp [StationPort.attention], fun bytes h => ⟨fun hdetached => ?detached, fun hattached => ?attached⟩⟩
  case detached =>
    exact congrArg Host.Outcome.next (transact_replies (u := s) (r := ⟨.notAttached, []⟩) h (by decide)
      (if_neg (Bool.eq_false_iff.mp hdetached)))
  case attached =>
    have hread : (s.atTime now).runReadNotice p [] = (s.atTime now).readNotice p := if_pos hattached
    refine ⟨fun hempty => ?empty, fun n rest hqueue => ?oldest⟩
    case empty =>
      have hempty' : ((s.atTime now).port p).notices = [] := hempty
      refine congrArg Host.Outcome.next (transact_replies (u := s) (r := ⟨.finished, [0, 0, 0, 0]⟩) h (by decide)
        (hread.trans ?_))
      rw [State.readNotice, hempty']
      rfl
    case oldest =>
      have hqueue' : ((s.atTime now).port p).notices = n :: rest := hqueue
      have hcount : fieldAt rest.length 32 0 = BitVec.ofNat 32 rest.length :=
        BitVec.eq_of_toNat_eq (by simp [fieldAt_eq_ofNat])
      rw [← hcount]
      refine congrArg Host.Outcome.next (transact_replies (u := s.setPort p { s.port p with notices := rest })
        (r := ⟨.ok, wordsBytes (n.words ++ [fieldAt rest.length 32 0])⟩) h (by decide) (hread.trans ?_))
      rw [State.readNotice, hqueue']
      rfl

end Sys2Proof.Machine
end

section
/-! PROOFS. FULL_RESET brings every block to its reset state (R159, R176). -/

namespace Sys2Proof.Machine

open Sys2Proof

/-- Settles O13, block by block. -/
theorem fullResetRestoresReset : Obligations.FullResetRestoresReset := by
  intro s
  refine ⟨s.fullReset, rfl, rfl, rfl, rfl, rfl, rfl, rfl, rfl, rfl, rfl, rfl, rfl, rfl, fun t => ?sections,
    fun t e => ?approach, fun t e x => ?sensors, fun p => ?ports⟩
  case sections => cases t <;> rfl
  case approach => cases t <;> cases e <;> exact ⟨rfl, rfl⟩
  case sensors => cases t <;> cases e <;> cases x <;> exact ⟨rfl, rfl, rfl, rfl, rfl⟩
  case ports => cases p <;> exact ⟨rfl, rfl, rfl, rfl⟩

end Sys2Proof.Machine
end

section
/-! PROOFS. STAGE WRITE (R162, R181, R189, R191): the words of its frame, what staging them leaves of an image, and when a
field is clamped. -/

namespace Sys2Proof.Machine

open Sys2Proof

-- One proof after another: elaborated side by side they ask for more threads than check.sh allows.
set_option Elab.async false

/-! ### Bytes as numbers and words (R189) -/

theorem bytesNat_halfBytes {n : Nat} (h : n < 65536) : bytesNat (halfBytes n) = n := by
  simp only [bytesNat, halfBytes, List.foldl_cons, List.foldl_nil, BitVec.toNat_ofNat]
  omega

theorem ofNat_bytesNat_wordBytes (w : Word) : BitVec.ofNat 32 (bytesNat (wordBytes w)) = w := by
  have hw := w.isLt
  refine BitVec.eq_of_toNat_eq ?_
  simp only [bytesNat, wordBytes, List.foldl_cons, List.foldl_nil, BitVec.extractLsb'_toNat, BitVec.toNat_ofNat,
    Nat.shiftRight_eq_div_pow]
  omega

theorem wordsBytes_length (ws : List Word) : (wordsBytes ws).length = 4 * ws.length := by
  induction ws with
  | nil => rfl
  | cons w rest ih =>
    have hcons : wordsBytes (w :: rest) = wordBytes w ++ wordsBytes rest := rfl
    rw [hcons, List.length_append, ih, List.length_cons]
    change 4 + _ = _
    omega

/-- R189: the words whose bytes a frame carries. -/
theorem wholeWords_wordsBytes (ws : List Word) {fuel : Nat} (h : ws.length < fuel) :
    wholeWords fuel (wordsBytes ws) = ws := by
  induction ws generalizing fuel with
  | nil => cases fuel <;> rfl
  | cons w rest ih =>
    obtain ⟨k, rfl⟩ := Nat.exists_eq_add_one_of_ne_zero (Nat.ne_zero_of_lt h)
    have hcons : wordsBytes (w :: rest) = wordBytes w ++ wordsBytes rest := rfl
    rw [wholeWords, if_neg (by rw [wordsBytes_length, List.length_cons]; omega), hcons]
    have htake : (wordBytes w ++ wordsBytes rest).take 4 = wordBytes w := rfl
    have hdrop : (wordBytes w ++ wordsBytes rest).drop 4 = wordsBytes rest := rfl
    rw [htake, hdrop, ofNat_bytesNat_wordBytes, ih (by simpa using h)]

theorem areaOfCode_code (area : Area) : areaOfCode (bytesNat [BitVec.ofNat 8 area.code]) = some area := by
  cases area with
  | site => rfl
  | track t => cases t <;> rfl

/-- R162, R189: the arguments of a STAGE WRITE frame are its area, its offset and its words. -/
theorem runStageWrite_frame {area : Area} {offset : Nat} {ws : List Word} (hwords : 1 ≤ ws.length)
    (hoffset : offset < 65536) (s : State) :
    s.runStageWrite (BitVec.ofNat 8 area.code :: (halfBytes offset ++ wordsBytes ws)) =
      s.stageWrite area offset ws := by
  have hlength : (BitVec.ofNat 8 area.code :: (halfBytes offset ++ wordsBytes ws)).length = 3 + 4 * ws.length := by
    rw [List.length_cons, List.length_append, wordsBytes_length]
    change 2 + _ + 1 = _
    omega
  have hcode : areaOfCode (argument (BitVec.ofNat 8 area.code :: (halfBytes offset ++ wordsBytes ws)) 0 1) =
      some area := areaOfCode_code area
  have hplace : argument (BitVec.ofNat 8 area.code :: (halfBytes offset ++ wordsBytes ws)) 1 2 = offset :=
    bytesNat_halfBytes hoffset
  have hrest : (BitVec.ofNat 8 area.code :: (halfBytes offset ++ wordsBytes ws)).drop 3 = wordsBytes ws := rfl
  rw [State.runStageWrite, if_pos (by omega), hcode, hplace, hrest, hlength, wholeWords_wordsBytes ws (by omega)]

/-! ### When a field is clamped (R181, log 16) -/

/-- The value written to a field: the bits of its span. -/
def FieldSpec.written (f : FieldSpec) (w : Word) : Nat := w.toNat / 2 ^ f.lo % 2 ^ (f.hi + 1 - f.lo)

theorem FieldSpec.written_eq (f : FieldSpec) (w : Word) : bitsOf w f.hi f.lo = f.written w := by
  rw [bitsOf, FieldSpec.written, Nat.shiftRight_eq_div_pow]

/-- R181: the written value of a field is out of its range; a mark above 1 is (log 16). -/
def FieldSpec.Clamps (f : FieldSpec) (w : Word) : Prop :=
  match f.kind with
  | .range least greatest => f.written w < least ∨ greatest < f.written w
  | .signed => False
  | .mark => 1 < f.written w

theorem FieldSpec.clamps_iff (f : FieldSpec) (w : Word) :
    (f.kind.store (bitsOf w f.hi f.lo)).2 = true ↔ f.Clamps w := by
  rw [FieldSpec.Clamps, f.written_eq]
  cases f.kind with
  | range least greatest =>
    simp only [FieldKind.store]
    split
    · next h => simp [h]
    · next hleast =>
      split
      · next h => simp [h]
      · next hgreatest => simp [hleast, hgreatest]
  | signed => simp [FieldKind.store]
  | mark =>
    simp only [FieldKind.store]
    split
    · next h => simp [h]
    · next h => simpa using h

/-- R181: a word is CLAMPED where one of its fields is. -/
theorem storeWord_clamped (fs : List FieldSpec) (w : Word) :
    (storeWord fs w).2 = true ↔ ∃ f ∈ fs, f.Clamps w := by
  induction fs with
  | nil => simp [storeWord]
  | cons f rest ih =>
    rw [storeWord, Bool.or_eq_true, ih, f.clamps_iff]
    simp

/-! ### Words written from an offset on (R181) -/

/-- Words written into a list of words from an offset on, each through the fields of its place, and whether a field
was clamped: what the staging of either kind of area does with the words of its image. -/
def writeWords (fields : Nat → List FieldSpec) (image : List Word) (offset : Nat) : List Word → List Word × Bool
  | [] => (image, false)
  | w :: rest =>
    let stored := storeWord (fields offset) w
    let others := writeWords fields (image.set offset stored.1) (offset + 1) rest
    (others.1, stored.2 || others.2)

theorem TrackArea.stage_eq (a : TrackArea) {offset : Nat} {ws : List Word} (h : offset + ws.length ≤ 82) :
    ((a.stage offset ws).1.words.toList, (a.stage offset ws).2) =
      writeWords trackFields a.words.toList offset ws := by
  induction ws generalizing a offset with
  | nil => rfl
  | cons w rest ih =>
    rw [List.length_cons] at h
    have hset : (a.words.setIfInBounds offset (storeWord (trackFields offset) w).1).toList =
        a.words.toList.set offset (storeWord (trackFields offset) w).1 := by simp
    rw [TrackArea.stage, TrackArea.stageWord, if_pos (by omega), writeWords, ← hset,
      ← ih ⟨a.words.setIfInBounds offset (storeWord (trackFields offset) w).1⟩ (by omega)]

theorem SiteArea.stage_eq (a : SiteArea) {offset : Nat} {ws : List Word} (h : offset + ws.length ≤ 348) :
    ((a.stage offset ws).1.words.toList, (a.stage offset ws).2) =
      writeWords siteFields a.words.toList offset ws := by
  induction ws generalizing a offset with
  | nil => rfl
  | cons w rest ih =>
    rw [List.length_cons] at h
    have hset : (a.words.setIfInBounds offset (storeWord (siteFields offset) w).1).toList =
        a.words.toList.set offset (storeWord (siteFields offset) w).1 := by simp
    rw [SiteArea.stage, SiteArea.stageWord, if_pos (by omega), writeWords, ← hset,
      ← ih ⟨a.words.setIfInBounds offset (storeWord (siteFields offset) w).1⟩ (by omega)]

section Words

variable (fields : Nat → List FieldSpec)

/-- The words as they are stored from an offset on. -/
def storedWords (offset : Nat) (ws : List Word) : List Word :=
  ws.zipIdx.map fun x => (storeWord (fields (offset + x.2)) x.1).1

theorem storedWords_cons (offset : Nat) (w : Word) (rest : List Word) : storedWords fields offset (w :: rest) =
    (storeWord (fields offset) w).1 :: storedWords fields (offset + 1) rest := by
  simp [storedWords, List.zipIdx_succ, Function.comp_def, Nat.add_assoc, Nat.add_comm 1]

theorem writeWords_image (image : List Word) {offset : Nat} {ws : List Word} (h : offset + ws.length ≤ image.length) :
    (writeWords fields image offset ws).1 =
      image.take offset ++ storedWords fields offset ws ++ image.drop (offset + ws.length) := by
  induction ws generalizing image offset with
  | nil => simp [writeWords, storedWords]
  | cons w rest ih =>
    rw [List.length_cons] at h
    rw [writeWords, ih _ (by rw [List.length_set]; omega), storedWords_cons, List.drop_set_of_lt (by omega),
      List.take_succ_eq_append_getElem (by rw [List.length_set]; omega), List.getElem_set_self,
      List.take_set_of_le le_rfl, List.length_cons]
    simp [Nat.add_assoc, Nat.add_comm 1]

theorem writeWords_clamped (image : List Word) (offset : Nat) (ws : List Word) :
    (writeWords fields image offset ws).2 = true ↔
      ∃ i w f, ws[i]? = some w ∧ f ∈ fields (offset + i) ∧ f.Clamps w := by
  induction ws generalizing image offset with
  | nil => simp [writeWords]
  | cons w rest ih =>
    rw [writeWords, Bool.or_eq_true, storeWord_clamped, ih]
    constructor
    · rintro (⟨f, hf, hclamped⟩ | ⟨i, v, f, hv, hf, hclamped⟩)
      · exact ⟨0, w, f, rfl, hf, hclamped⟩
      · exact ⟨i + 1, v, f, hv, by rwa [Nat.add_right_comm] at hf, hclamped⟩
    · rintro ⟨i, v, f, hv, hf, hclamped⟩
      cases i with
      | zero =>
        obtain rfl := Option.some.inj hv
        exact .inl ⟨f, hf, hclamped⟩
      | succ i => exact .inr ⟨i, v, f, hv, by rwa [Nat.add_right_comm], hclamped⟩

end Words

/-! ### Staging into an area (R181) -/

/-- R191: the fields of the words of an area. -/
def areaFields : Area → Nat → List FieldSpec
  | .site => siteFields
  | .track _ => trackFields

section Stage

variable (s : State) (area : Area) {offset : Nat} {ws : List Word}

theorem stagedWords_length : (s.stagedWords area).length = areaLength area := by
  cases area <;> simp [State.stagedWords, areaLength]

theorem stage_writeWords (h : offset + ws.length ≤ areaLength area) :
    ((s.stage area offset ws).1.stagedWords area, (s.stage area offset ws).2) =
      writeWords (areaFields area) (s.stagedWords area) offset ws := by
  cases area with
  | site => exact SiteArea.stage_eq _ h
  | track t =>
    have hstaged : (s.stage (.track t) offset ws).1.stagedWords (.track t) =
        ((s.config.tracks.get t).staged.stage offset ws).1.words.toList := by simp [State.stage, State.stagedWords]
    rw [hstaged]
    exact TrackArea.stage_eq _ h

/-- R181: staging leaves of the configuration everything but the staged images. -/
theorem stage_unstaged (offset : Nat) (ws : List Word) : let u := (s.stage area offset ws).1
    (∀ t, u.config.tracks.get t =
      { s.config.tracks.get t with staged := (u.config.tracks.get t).staged }) ∧
    u.config.site = { s.config.site with staged := u.config.site.staged } ∧
    u.config.generation = s.config.generation := by
  cases area with
  | site => exact ⟨fun t => rfl, rfl, rfl⟩
  | track r => exact ⟨fun t => by cases r <;> cases t <;> rfl, rfl, rfl⟩

end Stage

/-! ### STAGE WRITE (R162, R181) -/

section StageWrite

variable {s : State} {now : SiteTime} {p : Port} {bytes : List Byte} {area : Area} {offset : Nat} {ws : List Word}
  (hwords : 1 ≤ ws.length) (hoffset : offset < 65536)
  (h : Completes s p bytes 48 (BitVec.ofNat 8 area.code :: (halfBytes offset ++ wordsBytes ws)))
include hwords hoffset h

theorem exec_stageWrite_beyond (hbeyond : areaLength area < offset + ws.length) :
    exec (.stageWrite now p bytes) s = .next (s.replying now p 7 []) :=
  congrArg Host.Outcome.next (transact_replies (u := s) (r := ⟨.badArgument, []⟩) h (by decide)
    ((runStageWrite_frame hwords hoffset _).trans (if_pos hbeyond)))

theorem exec_stageWrite_within (hwithin : offset + ws.length ≤ areaLength area) :
    exec (.stageWrite now p bytes) s = .next ((s.stage area offset ws).1.replying now p
      (if (s.stage area offset ws).2 = true then 4 else 1) []) := by
  have hstage : (s.atTime now).stageWrite area offset ws = answer ((s.stage area offset ws).1.atTime now)
      (if (s.stage area offset ws).2 = true then .clamped else .ok) := by
    rw [State.stageWrite, if_neg (Nat.not_lt.mpr hwithin), ← stage_atTime]
    cases area <;> rfl
  have hexec : exec (.stageWrite now p bytes) s = _ := congrArg Host.Outcome.next
    (transact_replies (r := ⟨_, []⟩) h (by decide) ((runStageWrite_frame hwords hoffset _).trans hstage))
  rwa [apply_ite StatusCode.code] at hexec

end StageWrite

/-- Settles O56, by whether the last word lies in the area. -/
theorem stageWriteStagesItsWords : Obligations.StageWriteStagesItsWords := by
  intro now p bytes args area ws offset s hwords hoffset hargs h length fields clamped
  subst hargs
  have hlength : areaLength area = length := by cases area <;> rfl
  have hfields : areaFields area = fields := by cases area <;> rfl
  have hclamped (f : FieldSpec) (w : Word) : f.Clamps w ↔ clamped f w := Iff.rfl
  rw [← hlength]
  refine ⟨fun hwithin => ?within, exec_stageWrite_beyond hwords hoffset h⟩
  have hwritten := stage_writeWords s area hwithin
  have himage := writeWords_image (areaFields area) (s.stagedWords area) (offset := offset) (ws := ws)
    (by rwa [stagedWords_length])
  have hcode := writeWords_clamped (areaFields area) (s.stagedWords area) offset ws
  rw [← hwritten, hfields] at himage hcode
  obtain ⟨hconfigs, hsite, hgeneration⟩ := stage_unstaged s area offset ws
  refine ⟨_, if (s.stage area offset ws).2 = true then 4 else 1, exec_stageWrite_within hwords hoffset h hwithin,
    ?range, ?clamped, ?state, himage, fun other hne => stage_stagedWords_of_ne s area offset ws hne, hconfigs, hsite,
    hgeneration⟩
  case range => split <;> decide
  case clamped =>
    simp only [← hclamped, ← hcode]
    simp
  case state =>
    rw [stage_config]
    rfl

end Sys2Proof.Machine
end
